-- ==== Sys2Proof/Word.lean ====
section
/-! DEFINITION. The words of the station and their plainest readings: the fixed-width numbers that
the manual counts, compares modulo a power of two, or moves as bytes (conventions 6.1 to 6.7). Money,
counts and airtimes are plain `Nat` (exact integer arithmetic, 6.2). -/

namespace Sys2Proof

/-- One byte of a frame, a body or the configuration image. -/
abbrev Byte := BitVec 8

/-- A label's face version, compared modulo 65,536 (6.4). -/
abbrev Version := BitVec 16

/-- A store second, a 32-bit count that wraps to 0 (6.3). -/
abbrev StoreTime := BitVec 32

/-- The 24-bit identity of a label; 1..16,777,214 name a label (R23). -/
abbrev LabelAddr := BitVec 24

/-- A station number; 0 is an unnumbered station, 1..250 a numbered one (6.7). -/
abbrev StationNo := BitVec 8

/-- The store identity carried in every air frame. -/
abbrev SiteCode := BitVec 16

/-- A price event's number; 1..65,535 once a group is open (R27). -/
abbrev GroupNo := BitVec 16

end Sys2Proof
end

