-- ==== Sys2Proof/Syntax.lean ====
section
/-! DEFINITION. The commands the station takes: one constructor of `Instr` for each row of
spec/opcode_table.json, with the operands the row's rule names. A command is a request of the store
bridge, a byte or a frame on one of the two interfaces, an answer of the configuration memory, an
event on an input, or the end of one of the station's own timed waits. Every frame is given by its
fields (12.1.1); numbers keep the width their frame or body gives them. -/

namespace Sys2Proof

/-- The version a change applies to, or ANY (6.4, R23). -/
inductive Base where
  | any
  | version (v : Version)
deriving DecidableEq, Repr, Inhabited

/-- The reason a READY states (5.2, R87; qualifiers 0..3 of R177). -/
inductive ReadyReason where
  | ready
  | current
  | mismatch
  | lowPower
deriving DecidableEq, Repr, Inhabited

/-- A label's CALL: bit 0 of `flags` is LISTEN, the only flag examined (12.1.1, R177). -/
structure CallFrame where
  label : LabelAddr
  held : Version
  model : BitVec 4
  battery : BitVec 4
  flags : Byte
deriving DecidableEq, Repr, Inhabited

/-- An OFFER: base ANY is qualifier 1, a version qualifier 0 (R86, R177). -/
structure OfferFrame where
  sender : StationNo
  label : LabelAddr
  base : Base
  target : Version
  effective : StoreTime
  clock : StoreTime
  faceLength : Byte
  fragments : Byte
  faceCheck : BitVec 16
deriving DecidableEq, Repr, Inhabited

/-- A label's READY, naming a station (R87). -/
structure ReadyFrame where
  station : StationNo
  label : LabelAddr
  held : Version
  reason : ReadyReason
deriving DecidableEq, Repr, Inhabited

/-- A FRAG with its payload (R89); the payload length byte is the payload's length. -/
structure FragFrame where
  sender : StationNo
  label : LabelAddr
  index : Byte
  count : Byte
  payload : List Byte
deriving DecidableEq, Repr, Inhabited

/-- A label's FRAG ACK (R90). -/
structure FragAckFrame where
  station : StationNo
  label : LabelAddr
  index : Byte
deriving DecidableEq, Repr, Inhabited

/-- A label's DONE; the face check is informative (R92, R177). -/
structure DoneFrame where
  station : StationNo
  label : LabelAddr
  held : Version
  faceCheck : BitVec 16
deriving DecidableEq, Repr, Inhabited

/-- A label's REFUSE with reason BAD_FACE, its one qualifier; the last two fields are informative
(R92, R177). -/
structure RefuseFrame where
  station : StationNo
  label : LabelAddr
  faceCheck : BitVec 16
  assembled : Byte
deriving DecidableEq, Repr, Inhabited

/-- A TALLY; `pairsLeft`, `cause` and `freeSlots` are informative (R118, R177). -/
structure TallyFrame where
  sender : StationNo
  clock : StoreTime
  pairsLeft : Byte
  cause : Byte
  freeSlots : BitVec 16
  pairs : List (LabelAddr × Version)
deriving DecidableEq, Repr, Inhabited

/-- A Batch Link frame as the receiver hands it on at its end (R160, R162): the kind byte (0 when the
frame ended before it), the body, and whether its frame check, its length and every stop bit were
good. -/
structure LinkFrame where
  kind : Byte
  body : List Byte
  good : Bool
deriving DecidableEq, Repr, Inhabited

/-- The commands of the station. -/
inductive Instr where
  -- resets and autoload (chapters 8 and 11)
  | coldStart
  | lineReset
  | lineResetRelease
  | headerRead (signature : BitVec 16) (count : Byte)
  | groupRead (length : Byte) (contents : List Byte) (sumCheck : BitVec 16)
  | configReadTimeout
  -- the passage of store time (chapter 8)
  | clockSecond
  | yieldEnd
  | groupIdleTimeout
  | tallyPeriodEnd
  -- the Batch Link (chapter 10)
  | batchFrameEnd (frame : LinkFrame)
  | linkLoss
  | responseSent
  | heldFrameTaken
  -- the seventeen requests, and the book's use of report room (chapters 2, 3, 4, 8, 9, 10)
  | status
  | setTime (value : StoreTime)
  | openGroup (group : GroupNo) (effective : StoreTime) (cls : Byte)
  | record (body : List Byte)
  | closeGroup (group : GroupNo) (count : BitVec 16)
  | abortGroup
  | start
  | pause
  | resume
  | stop
  | clearFaults
  | takeReports (n : Byte)
  | closingListDrain
  | readEntry (selector : Byte) (address : LabelAddr)
  | readRoster (first : BitVec 16) (count : Byte)
  | withdraw (label : LabelAddr)
  | setAttention (enable : Byte)
  | resetPort
  -- the air (chapters 5 and 6); `rssi` is the received level in dBm
  | airFrameDiscarded (bytes : List Byte) (rssi : Int)
  | frameStart
  | carrierSensed
  | carrierEnd
  | call (frame : CallFrame) (rssi : Int)
  | standoffEnd
  | offerSent
  | ready (frame : ReadyFrame) (rssi : Int)
  | readyWaitExpiry
  | fragSent
  | fragAck (frame : FragAckFrame)
  | ackWaitExpiry
  | done (frame : DoneFrame) (rssi : Int)
  | doneWaitExpiry
  | refuse (frame : RefuseFrame) (rssi : Int)
  | peerOffer (frame : OfferFrame)
  | peerFrag (frame : FragFrame)
  | peerTally (frame : TallyFrame)
  | quietWaitEnd
  | tallySent
  -- one byte on the Batch Link receive line, and whether its stop bit was found (R160)
  | batchByteReceived (byte : Byte) (stopBit : Bool)
deriving DecidableEq, Repr, Inhabited

end Sys2Proof
end

