-- ==== Sys2Proof/Decode.lean ====
section
/-! DEFINITION. The commands that spec/opcode_table.json spells by bits: none. No row of the table gives
bits, so no word spells a command. (The frames and bodies of chapter 12 that carry commands are read in
Machine/Frames.lean, Machine/Records.lean and Machine/Link.lean.) -/

namespace Sys2Proof

/-- The command that a word of `nbits` bits spells by the table: none for every word. -/
def decodeTableWord (_nbits _w : Nat) : Option Instr := none

end Sys2Proof
end

