-- ==== Sys2Proof/Config.lean ====
section
/-! DEFINITION. What the manual leaves open, as constants without a body: nothing in Lean can compute
one or prove a value of one, so a statement about one holds whatever it is. (The station's own
configuration, which the autoload reads, is state: see Machine/Types.lean and Machine/State.lean.) -/

namespace Sys2Proof

/-- FREE VALUE. Which of two faults of one event is taken first where no rule orders them (R148): the
`n`-th such choice. `true` takes the first-named order. See notes/assumptions/3.md. -/
opaque Config.faultOrder (n : Nat) : Bool

/-- FREE VALUE. Whether the `n`-th cut of a transfer whose OFFER has not yet been sent falls at the very start,
before the OFFER has begun, so that the estimate comes back whole (`true`, R128), or cuts the OFFER short, so that
it counts as sent (`false`, R99). See notes/assumptions/26.md. -/
opaque Config.cutAtStart (n : Nat) : Bool

/-- FREE VALUE. The byte that stands for the `member`-th value of an enumeration for which chapter 12
gives no codes (operating state, dialogue state, entry state, ...), where a response body carries it
(R178). `enumeration` numbers the enumeration. See notes/assumptions/4.md. -/
opaque Config.unstatedCode (enumeration member : Nat) : Byte

end Sys2Proof
end

