-- ==== Sys2Proof/Machine/Types.lean ====
section
/-! DEFINITION. The data the station's blocks hold: items and faces (chapter 1), change records and the
open group (2), book entries (3), roster records (4), the transfer context and the dialogue state (5),
faults, reports and attention flags (9), link frames and responses (10), and the configuration (11).
Sets over a few named members are structures of `Bool`s; enumerations are inductive types. -/

namespace Sys2Proof.Machine

/-! ### Chapter 1: items, faces, notes, models -/

/-- The caption of a unit price (R3). -/
inductive UnitCode where
  | per100g | perKg | per100ml | perL | perItem | perM
deriving DecidableEq, Repr, Inhabited

/-- The values of a BADGE item (R4). -/
inductive Badge where
  | none | sale | clearance | new | member | final
deriving DecidableEq, Repr, Inhabited

/-- The values of a STOCK item (R4). -/
inductive StockMark where
  | inStock | low | out | ordered
deriving DecidableEq, Repr, Inhabited

/-- A markdown kind with its value (R2); NONE carries no value. -/
inductive Markdown where
  | none
  | percent (rate : Nat)
  | amount (cents : Nat)
  | set (price : Nat)
deriving DecidableEq, Repr, Inhabited

/-- An ending rule: the price is brought down to one that leaves `value` modulo `modulus` (R2, R8). -/
structure Ending where
  modulus : Nat
  value : Nat
deriving DecidableEq, Repr, Inhabited

/-- A PRICE item (R2). A floor of 0 is no floor. -/
structure PriceItem where
  ticket : Nat
  markdown : Markdown
  ending : Option Ending
  floor : Nat
deriving DecidableEq, Repr, Inhabited

/-- A UNIT item (R3). -/
structure UnitItem where
  quantity : Nat
  basis : Nat
  code : UnitCode
deriving DecidableEq, Repr, Inhabited

/-- The six optional items of a change, at most one of each kind (1.2, R23). -/
structure Items where
  price : Option PriceItem := none
  unit : Option UnitItem := none
  badge : Option Badge := none
  stock : Option StockMark := none
  ends : Option Nat := none
  locate : Option Nat := none
deriving DecidableEq, Repr, Inhabited

/-- A computed face: eight fields, each present with a value or absent (R5). -/
structure Face where
  price : Option Nat := none
  was : Option Nat := none
  save : Option Nat := none
  unit : Option (UnitCode × Nat) := none
  badge : Option Badge := none
  stock : Option StockMark := none
  ends : Option Nat := none
  locate : Option Nat := none
deriving DecidableEq, Repr, Inhabited

/-- How a delivered face carries one of WAS, SAVE and UNIT (R21). -/
inductive Area (α : Type) where
  | notCarried
  | clear
  | value (a : α)
deriving DecidableEq, Repr, Inhabited

/-- What the label receives (1.7). -/
structure DeliveredFace where
  price : Option Nat
  was : Area Nat
  save : Area Nat
  unit : Area (UnitCode × Nat)
  badge : Option Badge
  stock : Option StockMark
  ends : Option Nat
  locate : Option Nat
deriving DecidableEq, Repr, Inhabited

/-- The computation part of an entry's notes (R16). -/
structure CompNotes where
  rateClamped : Bool := false
  endingSkipped : Bool := false
  minPrice : Bool := false
  floored : Bool := false
  unitOver : Bool := false
  unitUnder : Bool := false
  unitNoPrice : Bool := false
deriving DecidableEq, Repr, Inhabited

/-- The fit part of an entry's notes (R16). -/
structure FitNotes where
  wasDropped : Bool := false
  unitDropped : Bool := false
  fieldsDropped : Bool := false
  unitCleared : Bool := false
deriving DecidableEq, Repr, Inhabited

/-- An entry's notes: the record part (MASKED or nothing), the computation part, the fit part (R16). -/
structure Notes where
  masked : Bool := false
  comp : CompNotes := {}
  fit : FitNotes := {}
deriving DecidableEq, Repr, Inhabited

/-- The fields a label model can show beside PRICE (R17). -/
structure FieldSet where
  was : Bool
  save : Bool
  unit : Bool
  badge : Bool
  stock : Bool
  ends : Bool
  locate : Bool
deriving DecidableEq, Repr, Inhabited

/-- A label model record (R17). -/
structure ModelRecord where
  priceDigits : Nat
  unitDigits : Nat
  fields : FieldSet
deriving DecidableEq, Repr, Inhabited

/-! ### Chapter 2: records and the open group -/

/-- A source mask: the item kinds a source may change (R24). -/
structure ItemSet where
  price : Bool
  unit : Bool
  badge : Bool
  stock : Bool
  ends : Bool
  locate : Bool
deriving DecidableEq, Repr, Inhabited

/-- The two lanes (R33, R63). -/
inductive Lane where
  | night | urgent
deriving DecidableEq, Repr, Inhabited

/-- An accepted record as the gathering area holds it (2.2): the items kept after the mask, and
whether one was dropped. -/
structure GatheredRecord where
  source : Fin 8
  label : LabelAddr
  base : Base
  target : Version
  items : Items
  masked : Bool
deriving DecidableEq, Repr, Inhabited

/-- The open-group descriptor with its gathering area, in arrival order, and the idle timer's
remaining clock seconds (2.2, R27, R29). -/
structure OpenGroup where
  number : GroupNo
  effective : StoreTime
  cls : Fin 8
  idle : Nat
  gathered : List GatheredRecord
deriving DecidableEq, Repr, Inhabited

/-! ### Chapter 3: the Change Book -/

/-- "By" in a report and the deliverer of a closing: a station number, or LABEL (R46, R152). -/
inductive Deliverer where
  | station (n : StationNo)
  | label
deriving DecidableEq, Repr, Inhabited

/-- The closing outcomes (R46). -/
inductive ClosingOutcome where
  | delivered | peerDelivered | seenCurrent | abandoned | mismatch
deriving DecidableEq, Repr, Inhabited

/-- A closing record (R59). -/
structure ClosingRecord where
  outcome : ClosingOutcome
  deliverer : Deliverer
  version : Version
  time : StoreTime
deriving DecidableEq, Repr, Inhabited

/-- The state of an entry, with what an entry holds in that state only: the yield end in YIELDED, the
closing record in CLOSING (R46). -/
inductive EntryState where
  | waiting
  | held
  | yielded (yieldEnd : StoreTime)
  | inTransfer
  | closing (record : ClosingRecord)
deriving DecidableEq, Repr, Inhabited

/-- The outcomes of a transfer (R46, R93). -/
inductive TransferOutcome where
  | done | current | mismatch | lowPower | noAnswer | lost | uncertain | badFace | cutOff
deriving DecidableEq, Repr, Inhabited

/-- A successor part: a later change held inside an entry that is busy or closing (R37, R46). Its base
is the entry's target. -/
structure Successor where
  base : Version
  target : Version
  items : Items
  effective : StoreTime
  cls : Fin 8
  lastGroup : GroupNo
  masked : Bool
deriving DecidableEq, Repr, Inhabited

/-- A Change Book entry (R46). -/
structure Entry where
  slot : Nat
  label : LabelAddr
  state : EntryState
  lane : Lane
  late : Bool
  base : Base
  target : Version
  effective : StoreTime
  cls : Fin 8
  lastGroup : GroupNo
  items : Items
  face : Face
  notes : Notes
  attempts : Nat
  limit : Nat
  lastOutcome : Option TransferOutcome
  successor : Option Successor
deriving DecidableEq, Repr, Inhabited

/-! ### Chapter 4: the Label Roster -/

/-- A roster record with its slot (R69). -/
structure RosterRecord where
  slot : Nat
  label : LabelAddr
  model : BitVec 4
  held : Version
  battery : BitVec 4
  signal : Int
  lastHeard : StoreTime
  calls : Nat
  busy : Bool
deriving DecidableEq, Repr, Inhabited

/-! ### Chapters 5 and 6: the Dialogue Engine -/

/-- The eight kinds of air frame (R104, R177). -/
inductive AirFrame where
  | call (f : CallFrame)
  | offer (f : OfferFrame)
  | ready (f : ReadyFrame)
  | frag (f : FragFrame)
  | fragAck (f : FragAckFrame)
  | done (f : DoneFrame)
  | refuse (f : RefuseFrame)
  | tally (f : TallyFrame)
deriving DecidableEq, Repr, Inhabited

/-- A wait of the Engine from the end of a frame it sent: its length, whether the frame start of a
frame still being received fell within it, and whether its deadline has passed meanwhile (R81). -/
structure Wait where
  lengthUs : Nat
  met : Bool
  passed : Bool
deriving DecidableEq, Repr, Inhabited

/-- The transfer context (R80). Face length, fragment count, face check and estimate are functions of
`face` (see Machine/Engine.lean). `touched` records that a fold has touched the entry since the
evaluation (R85), and `delayUs` is the standoff delay (R106). Airtimes are hundredths of a ms. -/
structure TransferContext where
  label : LabelAddr
  slot : Nat
  base : Base
  target : Version
  effective : StoreTime
  lane : Lane
  face : List Byte
  covered : Nat
  fragment : Nat
  resends : Nat
  wait : Option Wait
  delayUs : Nat
  touched : Bool
deriving DecidableEq, Repr, Inhabited

/-- The phase of a transfer (R80); the fragment index k is the context's current fragment. -/
inductive Phase where
  | awaitReady
  | sending (resend : Bool)
  | awaitAck
  | awaitDone
deriving DecidableEq, Repr, Inhabited

/-- The dialogue state, with the context while there is one (R80) and, while TALLYING, the number of
pairs the TALLY carries (R118). -/
inductive Dialogue where
  | listening
  | standingOff (ctx : TransferContext)
  | transferring (phase : Phase) (ctx : TransferContext)
  | tallying (pairs : Nat)
deriving DecidableEq, Repr, Inhabited

/-! ### Chapter 8: Station Control -/

/-- The operating states (8.2). -/
inductive OpState where
  | starting | idle | run | paused | halted
deriving DecidableEq, Repr, Inhabited

/-- The last reset kind (R142). -/
inductive ResetKind where
  | cold | line | port
deriving DecidableEq, Repr, Inhabited

/-- Why START is refused (R137). -/
inductive StartReason where
  | state | clockUnset | unnumbered
deriving DecidableEq, Repr, Inhabited

/-! ### Chapter 9: faults, reports, attention -/

/-- The fault kinds (9.2.1). -/
inductive FaultKind where
  | recordForm | recordRange | group | book | delivery | config
deriving DecidableEq, Repr, Inhabited

/-- The fault details, each named by its three-digit code (9.2.1). -/
inductive Detail where
  | d101 | d102 | d103
  | d111 | d112 | d113 | d114 | d115 | d116 | d117 | d118
  | d121 | d122 | d123 | d124 | d125 | d126 | d127
  | d131 | d132 | d133
  | d201 | d202 | d203 | d204 | d205
  | d401 | d402 | d403 | d404
deriving DecidableEq, Repr, Inhabited

/-- One value for each fault kind (R147, R149). -/
structure PerKind (α : Type) where
  recordForm : α
  recordRange : α
  group : α
  book : α
  delivery : α
  config : α
deriving DecidableEq, Repr, Inhabited

/-- A kind's severity (R147). -/
inductive Severity where
  | continue_ | stop
deriving DecidableEq, Repr, Inhabited

/-- A kind's mask (R149). -/
inductive KindMask where
  | attended | quiet
deriving DecidableEq, Repr, Inhabited

/-- The first-fault log when present (R146); the kind is that of the detail. -/
structure FaultLog where
  detail : Detail
  label : LabelAddr
  source : Byte
  group : GroupNo
  time : StoreTime
deriving DecidableEq, Repr, Inhabited

/-- The report kinds, in the order of R152. -/
inductive ReportKind where
  | delivered | peerDelivered | seenCurrent | abandoned | mismatch
  | withdrawn | held | late | superseded | modelChanged
deriving DecidableEq, Repr, Inhabited

/-- What a block fills of a report (R152); the FRU adds the sequence number. -/
structure ReportBody where
  kind : ReportKind
  label : LabelAddr
  version : Version
  time : StoreTime
  by_ : Deliverer
  attempts : Nat
  notes : Notes
  lastGroup : GroupNo
deriving DecidableEq, Repr, Inhabited

/-- A report in the queue (R152). -/
structure Report where
  seq : BitVec 16
  body : ReportBody
deriving DecidableEq, Repr, Inhabited

/-- A set over the six attention flags (R156). -/
structure FlagSet where
  reports : Bool
  fault : Bool
  bookLow : Bool
  late : Bool
  budgetLow : Bool
  halted : Bool
deriving DecidableEq, Repr, Inhabited

/-! ### Chapter 11: the configuration -/

/-- The two line rates (R159). -/
inductive LinkRate where
  | r115200 | r460800
deriving DecidableEq, Repr, Inhabited

/-- Group 1, IDENTITY. -/
structure Identity where
  station : StationNo
  site : SiteCode
  channel : Nat
  rate : LinkRate
deriving DecidableEq, Repr, Inhabited

/-- Group 2, SOURCES. -/
structure Sources where
  masks : Vector ItemSet 8
  classMap : Vector Lane 8
deriving DecidableEq, Repr, Inhabited

/-- Group 4, POLICY. The late margin is in store seconds, the airtimes in ms. -/
structure Policy where
  severity : PerKind Severity
  mask : PerKind KindMask
  enable : FlagSet
  attemptLimit : Nat
  lateMargin : Nat
  capacity : Nat
  refill : Nat
  reserve : Nat
deriving DecidableEq, Repr, Inhabited

/-- A configuration: the four groups (11.1). -/
structure StationConfig where
  identity : Identity
  sources : Sources
  models : Vector ModelRecord 16
  policy : Policy
deriving DecidableEq, Repr, Inhabited

/-- What the Loader reads next: the header, or group `next` of `count` (R172, R173). -/
inductive LoadStage where
  | header
  | group (next count : Nat)
deriving DecidableEq, Repr, Inhabited

/-- An autoload in progress, with the pending configuration (R171). -/
structure Autoload where
  stage : LoadStage
  pendingConfig : StationConfig
deriving DecidableEq, Repr, Inhabited

/-! ### Chapter 10: the Batch Link -/

/-- The receiver: HUNTING, or RECEIVING with the bytes after the sync byte and whether a stop bit was
missing (R160). -/
inductive Receiver where
  | hunting
  | receiving (bytes : List Byte) (stopMissing : Bool)
deriving DecidableEq, Repr, Inhabited

/-- The pending overrun: the kind of the first frame discarded, and how many frames held at the
discard are still to be answered before the OVERRUN response; 0 while that response is owed or being sent
(R163). -/
structure Overrun where
  kind : Byte
  before : Nat
deriving DecidableEq, Repr, Inhabited

/-- The statuses of a response (R165). -/
inductive Status where
  | ok | badFrame | unknownRequest | notReady | wrongState | busy | full | overrun | refused
deriving DecidableEq, Repr, Inhabited

/-- The dialogue as STATUS shows it: the label while there is a context, the phase and the fragment
index while TRANSFERRING (R167). -/
inductive DialogueView where
  | listening
  | standingOff (label : LabelAddr)
  | transferring (label : LabelAddr) (phase : Phase) (fragment : Nat)
  | tallying
deriving DecidableEq, Repr, Inhabited

/-- The open group as STATUS shows it (R167). -/
structure GroupView where
  number : GroupNo
  effective : StoreTime
  cls : Fin 8
  count : Nat
  idle : Nat
deriving DecidableEq, Repr, Inhabited

/-- The body of a STATUS response (R167); the budget is in hundredths of a ms. -/
structure StatusBody where
  opState : OpState
  lastReset : ResetKind
  station : StationNo
  clock : StoreTime
  clockSet : Bool
  latched : PerKind Bool
  firstFault : Option FaultLog
  flags : FlagSet
  enable : FlagSet
  queueLength : Nat
  nextSeq : BitVec 16
  closingLength : Nat
  freeSlots : Nat
  lateCount : Nat
  occupied : Nat
  budget : Nat
  dialogue : DialogueView
  tallyPairs : Nat
  tallyCount : Nat
  group : Option GroupView
deriving DecidableEq, Repr, Inhabited

/-- One line of a READ ROSTER response (R78). -/
inductive RosterLine where
  | free (slot : Nat)
  | occupied (record : RosterRecord) (rank : Nat) (hasEntry : Bool)
deriving DecidableEq, Repr, Inhabited

/-- The body of a response (R165, R166). -/
inductive ResponseBody where
  | none
  | status (b : StatusBody)
  | times (old new : StoreTime)
  | recordCount (n : Nat)
  | foldCounts (created changed successors replaced : Nat)
  | opState (s : OpState)
  | opStateReason (s : OpState) (r : StartReason)
  | reports (taken : List Report) (removed queueLength closingLength : Nat)
  | entry (e : Entry)
  | freeSlot (slot : Nat)
  | noEntry (label : LabelAddr)
  | roster (occupied : Nat) (lines : List RosterLine)
  | attention (enable flags : FlagSet)
  | refused (detail : Detail)
  | busyAt (position : Nat)
deriving DecidableEq, Repr, Inhabited

/-- What the owning block answers to a request (R165). -/
structure Answer where
  status : Status
  body : ResponseBody
deriving DecidableEq, Repr, Inhabited

/-- A response being sent, at the rate it was begun with (R159, R165). -/
structure Response where
  echo : Byte
  answer : Answer
  rate : LinkRate
deriving DecidableEq, Repr, Inhabited

end Sys2Proof.Machine
end

