-- ==== Sys2Proof/Machine/Defaults.lean ====
section
/-! DEFINITION. The defaults of the four configuration groups (R24, R33, R17, R174). -/

namespace Sys2Proof.Machine

/-- The set of no item kinds. -/
def ItemSet.empty : ItemSet := ⟨false, false, false, false, false, false⟩

/-- Group 1 by default: unnumbered, site 0, channel 0, 115,200 bit/s (R174). -/
def defaultIdentity : Identity := ⟨0, 0, 0, .r115200⟩

/-- Group 2 by default: the masks of R24 and the class map of R33. -/
def defaultSources : Sources where
  masks := #v[{ ItemSet.empty with price := true, unit := true },
    { ItemSet.empty with badge := true, ends := true },
    { ItemSet.empty with stock := true },
    { ItemSet.empty with locate := true },
    ItemSet.empty, ItemSet.empty, ItemSet.empty, ItemSet.empty]
  classMap := #v[.night, .night, .night, .night, .night, .night, .urgent, .urgent]

/-- A model record by default: 5 price digits, 4 unit digits, all seven fields (R17). -/
def defaultModel : ModelRecord := ⟨5, 4, ⟨true, true, true, true, true, true, true⟩⟩

/-- Group 3 by default (R17). -/
def defaultModels : Vector ModelRecord 16 := Vector.replicate 16 defaultModel

/-- Group 4 by default (R174): only kind 40 stops the station, every kind is ATTENDED, every flag is
enabled. -/
def defaultPolicy : Policy where
  severity := ⟨.continue_, .continue_, .continue_, .continue_, .continue_, .stop⟩
  mask := ⟨.attended, .attended, .attended, .attended, .attended, .attended⟩
  enable := ⟨true, true, true, true, true, true⟩
  attemptLimit := 6
  lateMargin := 1800
  capacity := 60000
  refill := 100
  reserve := 12000

/-- The defaults of every group (R171). -/
def defaultConfig : StationConfig := ⟨defaultIdentity, defaultSources, defaultModels, defaultPolicy⟩

end Sys2Proof.Machine
end

