-- ==== Sys2Proof/Machine/State.lean ====
section
/-! DEFINITION. The state of the station: every piece of state the manual gives a block, the queue of
waiting commands, and one counter of the model's own for free values. Reset is the moment power has
been applied (cold start, R132, R135, R143, R171). -/

namespace Sys2Proof.Machine

/-- The reasons for which the station stops: none. No rule of the manual names a condition in which
the station ceases to act (a fault of STOP severity leads to HALTED, an operating state, R141). -/
inductive Fault where
deriving DecidableEq, Repr

/-- The reasons for which the model gives no meaning. -/
inductive Refusal where
  /-- Raised by an arm of `exec` whose command has no meaning yet; safe, since the model stops. No arm
  raises it. -/
  | notModelled (mnemonic : String)
deriving DecidableEq, Repr

/-- The state of the station. -/
structure State where
  /-- Station Control: the operating state (8.2). -/
  opState : OpState
  /-- Station Control: the last reset kind (R142). -/
  lastReset : ResetKind
  /-- Whether the line reset input is held asserted (R135, R171). -/
  lineReset : Bool
  /-- Configuration Loader: the configuration in force (R171). -/
  config : StationConfig
  /-- Configuration Loader: the autoload in progress, with the pending configuration (R171). -/
  autoload : Option Autoload
  /-- Station Clock: the clock value (R132). -/
  clock : StoreTime
  /-- Station Clock: the set flag (R132). -/
  clockSet : Bool
  /-- Station Clock: microseconds elapsed toward the next clock second at its last restart (R132). -/
  timebase : Nat
  /-- BLI: the line rate in force (R159). -/
  lineRate : LinkRate
  /-- BLI: the receiver (R160). -/
  receiver : Receiver
  /-- BLI: the holding, head first (R162). -/
  holding : List LinkFrame
  /-- BLI: the response in progress (R162). -/
  response : Option Response
  /-- BLI: the pending overrun (R163). -/
  overrun : Option Overrun
  /-- Record Gatherer: the open group with its gathering area and idle timer (2.2). -/
  group : Option OpenGroup
  /-- Change Book: the entries, in order of slot number (R45). -/
  book : List Entry
  /-- Change Book: the closing order list, of slots (R61). -/
  closing : List Nat
  /-- Label Roster: the records, in recency order, most recently heard first (R69, R70). -/
  roster : List RosterRecord
  /-- Dialogue Engine: the dialogue state, the phase and the transfer context (R80). -/
  dialogue : Dialogue
  /-- Dialogue Engine: the frame being transmitted (R81). -/
  transmitting : Option AirFrame
  /-- Dialogue Engine: how many frames or bursts have been on the air for 40 µs or more; their carrier is
  sensed while the station does not transmit (R105). -/
  carriers : Nat
  /-- Dialogue Engine: the tally list, oldest pair first (R115). -/
  tally : List (LabelAddr × Version)
  /-- Dialogue Engine: the tally counter (R116). -/
  tallyCount : Nat
  /-- Dialogue Engine: the length in ms of the quiet wait in progress (R117). -/
  quietWait : Option Nat
  /-- Airtime Budget Meter: the level in hundredths of a ms (R123). -/
  budget : Nat
  /-- FRU: the latched fault set (R144). -/
  latched : PerKind Bool
  /-- FRU: the first-fault log; its capture is armed while the latched set is empty (R146). -/
  firstFault : Option FaultLog
  /-- FRU: a halt handed to Station Control by the command in progress, taken at its end (R141, R147). -/
  halt : Bool
  /-- FRU: the report queue, oldest first (R153). -/
  reports : List Report
  /-- FRU: the next sequence number (R152). -/
  nextSeq : BitVec 16
  /-- FRU: the attention enable set (R157). -/
  enable : FlagSet
  /-- THE MODEL'S OWN: how many free choices have been made (notes/assumptions/3.md, notes/assumptions/26.md). -/
  choices : Nat
  /-- The commands that are waiting, first in, first out. -/
  pending : List Instr
deriving DecidableEq, Repr

/-- No fault kind latched. -/
def noKinds : PerKind Bool := ⟨false, false, false, false, false, false⟩

/-- The station when power has just been applied: a cold start's values, with the autoload begun. -/
def State.reset : State where
  opState := .starting
  lastReset := .cold
  lineReset := false
  config := defaultConfig
  autoload := some ⟨.header, defaultConfig⟩
  clock := 0
  clockSet := false
  timebase := 0
  lineRate := .r115200
  receiver := .hunting
  holding := []
  response := none
  overrun := none
  group := none
  book := []
  closing := []
  roster := []
  dialogue := .listening
  transmitting := none
  carriers := 0
  tally := []
  tallyCount := 0
  quietWait := none
  budget := 0
  latched := noKinds
  firstFault := none
  halt := false
  reports := []
  nextSeq := 0
  enable := defaultPolicy.enable
  choices := 0
  pending := []

end Sys2Proof.Machine
end

