-- ==== Sys2Proof/Machine/Operands.lean ====
section
/-! DEFINITION. The readings that every block shares: bytes and numbers, the CRC-16, the comparison of
versions, the codes of enumerations and sets (chapter 12), and the names of faults. -/

namespace Sys2Proof.Machine

/-! ### Bytes (12.1, R178) -/

/-- The number whose digits, most significant byte first, are the list (12.1, R178). -/
def natOfBytes (bs : List Byte) : Nat :=
  bs.foldl (fun acc b => acc * 256 + b.toNat) 0

/-- `x` as `n` bytes, most significant first (12.1, R178). -/
def bytesOfNat : Nat → Nat → List Byte
  | 0, _ => []
  | n + 1, x => bytesOfNat n (x / 256) ++ [BitVec.ofNat 8 x]

/-- The number in the `n` bytes that begin at offset `i`. -/
def numAt (bs : List Byte) (i n : Nat) : Nat := natOfBytes ((bs.drop i).take n)

/-! ### The CRC-16 of air and link frames (12.4, R160) -/

/-- One bit of the CRC of generator 8005h, most significant bit first. -/
def crcBit (c : BitVec 16) : BitVec 16 :=
  if c.msb then (c <<< 1) ^^^ 0x8005#16 else c <<< 1

/-- One byte of the CRC. -/
def crcByte (c : BitVec 16) (b : Byte) : BitVec 16 :=
  crcBit (crcBit (crcBit (crcBit (crcBit (crcBit (crcBit (crcBit
    (c ^^^ (b.setWidth 16 <<< 8)))))))))

/-- The CRC-16 of 12.4 over the bytes: initial value FFFFh, no final inversion. -/
def crc16 (bs : List Byte) : BitVec 16 := bs.foldl crcByte 0xFFFF#16

/-! ### Versions (6.4) -/

/-- `v` is newer than `w`: (v − w) mod 65,536 lies in 1..32,767. -/
def newer (v w : Version) : Bool :=
  decide (1 ≤ (v - w).toNat) && decide ((v - w).toNat ≤ 32767)

/-- `v` is equal to `w` or newer. -/
def atLeast (v w : Version) : Bool := v == w || newer v w

/-- `v` is the base: ANY is matched by every version (R47). -/
def baseMatches (b : Base) (v : Version) : Bool :=
  match b with
  | .any => true
  | .version w => v == w

/-! ### Label addresses and station numbers (R23, R104) -/

/-- 1..16,777,214. -/
def validLabel (a : LabelAddr) : Bool := decide (1 ≤ a.toNat) && decide (a.toNat ≤ 16777214)

/-- 1..250. -/
def validStation (n : StationNo) : Bool := decide (1 ≤ n.toNat) && decide (n.toNat ≤ 250)

/-! ### Faults (9.2.1) -/

/-- The kind of a detail. -/
def Detail.kind : Detail → FaultKind
  | .d101 | .d102 | .d103 => .recordForm
  | .d111 | .d112 | .d113 | .d114 | .d115 | .d116 | .d117 | .d118 => .recordRange
  | .d121 | .d122 | .d123 | .d124 | .d125 | .d126 | .d127 => .group
  | .d131 | .d132 | .d133 => .book
  | .d201 | .d202 | .d203 | .d204 | .d205 => .delivery
  | .d401 | .d402 | .d403 | .d404 => .config

/-- The three digits of a detail. -/
def Detail.code : Detail → Nat
  | .d101 => 101 | .d102 => 102 | .d103 => 103
  | .d111 => 111 | .d112 => 112 | .d113 => 113 | .d114 => 114
  | .d115 => 115 | .d116 => 116 | .d117 => 117 | .d118 => 118
  | .d121 => 121 | .d122 => 122 | .d123 => 123 | .d124 => 124
  | .d125 => 125 | .d126 => 126 | .d127 => 127
  | .d131 => 131 | .d132 => 132 | .d133 => 133
  | .d201 => 201 | .d202 => 202 | .d203 => 203 | .d204 => 204 | .d205 => 205
  | .d401 => 401 | .d402 => 402 | .d403 => 403 | .d404 => 404

/-- The two digits of a kind. -/
def FaultKind.code : FaultKind → Nat
  | .recordForm => 10
  | .recordRange => 11
  | .group => 12
  | .book => 13
  | .delivery => 20
  | .config => 40

/-- The value for a kind. -/
def PerKind.get {α : Type} (p : PerKind α) : FaultKind → α
  | .recordForm => p.recordForm
  | .recordRange => p.recordRange
  | .group => p.group
  | .book => p.book
  | .delivery => p.delivery
  | .config => p.config

/-- The kinds with `k` added. -/
def PerKind.insert (p : PerKind Bool) : FaultKind → PerKind Bool
  | .recordForm => { p with recordForm := true }
  | .recordRange => { p with recordRange := true }
  | .group => { p with group := true }
  | .book => { p with book := true }
  | .delivery => { p with delivery := true }
  | .config => { p with config := true }

/-- Some kind of the set satisfies the test given per kind. -/
def PerKind.anyWith (p test : PerKind Bool) : Bool :=
  (p.recordForm && test.recordForm) || (p.recordRange && test.recordRange) ||
  (p.group && test.group) || (p.book && test.book) ||
  (p.delivery && test.delivery) || (p.config && test.config)

/-- The value of each kind under a function. -/
def PerKind.map {α β : Type} (f : α → β) (p : PerKind α) : PerKind β :=
  ⟨f p.recordForm, f p.recordRange, f p.group, f p.book, f p.delivery, f p.config⟩

/-- The set holds no kind. -/
def PerKind.isEmpty (p : PerKind Bool) : Bool := p == noKinds

/-! ### Sets as bit sets (R178, 12.4) -/

/-- A byte whose bit n is the n-th `Bool`. -/
def byteOfBits (bs : List Bool) : Byte :=
  BitVec.ofNat 8 (bs.foldr (fun b acc => acc * 2 + b.toNat) 0)

/-- Bits 0..5 as PRICE, UNIT, BADGE, STOCK, ENDS, LOCATE. -/
def ItemSet.ofByte (b : Byte) : ItemSet :=
  ⟨b.getLsbD 0, b.getLsbD 1, b.getLsbD 2, b.getLsbD 3, b.getLsbD 4, b.getLsbD 5⟩

/-- Bits 0..6 as WAS, SAVE, UNIT, BADGE, STOCK, ENDS, LOCATE. -/
def FieldSet.ofByte (b : Byte) : FieldSet :=
  ⟨b.getLsbD 0, b.getLsbD 1, b.getLsbD 2, b.getLsbD 3, b.getLsbD 4, b.getLsbD 5, b.getLsbD 6⟩

/-- Bits 0..5 as REPORTS, FAULT, BOOK_LOW, LATE, BUDGET_LOW, HALTED; other bits name no flag (R157). -/
def FlagSet.ofByte (b : Byte) : FlagSet :=
  ⟨b.getLsbD 0, b.getLsbD 1, b.getLsbD 2, b.getLsbD 3, b.getLsbD 4, b.getLsbD 5⟩

/-- The bit set of the flags. -/
def FlagSet.toByte (f : FlagSet) : Byte :=
  byteOfBits [f.reports, f.fault, f.bookLow, f.late, f.budgetLow, f.halted]

/-- The flags in both sets (R157). -/
def FlagSet.inter (f g : FlagSet) : FlagSet :=
  ⟨f.reports && g.reports, f.fault && g.fault, f.bookLow && g.bookLow, f.late && g.late,
   f.budgetLow && g.budgetLow, f.halted && g.halted⟩

/-- At least one flag is in the set. -/
def FlagSet.any (f : FlagSet) : Bool :=
  f.reports || f.fault || f.bookLow || f.late || f.budgetLow || f.halted

/-- The notes field of a report: bit n is the n-th note of the table of R16 (12.3.2). -/
def Notes.toNat (n : Notes) : Nat :=
  [n.masked, n.comp.rateClamped, n.comp.endingSkipped, n.comp.minPrice, n.comp.floored,
   n.comp.unitOver, n.comp.unitUnder, n.comp.unitNoPrice,
   n.fit.wasDropped, n.fit.unitDropped, n.fit.fieldsDropped, n.fit.unitCleared].foldr
    (fun b acc => acc * 2 + b.toNat) 0

/-! ### Enumerations with codes of chapter 12 -/

/-- Unit codes 1..6 (12.2). -/
def UnitCode.ofNat? : Nat → Option UnitCode
  | 1 => some .per100g
  | 2 => some .perKg
  | 3 => some .per100ml
  | 4 => some .perL
  | 5 => some .perItem
  | 6 => some .perM
  | _ => none

/-- The code of a unit code. -/
def UnitCode.toNat : UnitCode → Nat
  | .per100g => 1
  | .perKg => 2
  | .per100ml => 3
  | .perL => 4
  | .perItem => 5
  | .perM => 6

/-- Badges 0..5 (12.2). -/
def Badge.ofNat? : Nat → Option Badge
  | 0 => some .none
  | 1 => some .sale
  | 2 => some .clearance
  | 3 => some .new
  | 4 => some .member
  | 5 => some .final
  | _ => Option.none

/-- The code of a badge. -/
def Badge.toNat : Badge → Nat
  | .none => 0
  | .sale => 1
  | .clearance => 2
  | .new => 3
  | .member => 4
  | .final => 5

/-- Stock marks 0..3 (12.2). -/
def StockMark.ofNat? : Nat → Option StockMark
  | 0 => some .inStock
  | 1 => some .low
  | 2 => some .out
  | 3 => some .ordered
  | _ => none

/-- The code of a stock mark. -/
def StockMark.toNat : StockMark → Nat
  | .inStock => 0
  | .low => 1
  | .out => 2
  | .ordered => 3

/-- Statuses 00h..08h (R178). -/
def Status.code : Status → Byte
  | .ok => 0x00
  | .badFrame => 0x01
  | .unknownRequest => 0x02
  | .notReady => 0x03
  | .wrongState => 0x04
  | .busy => 0x05
  | .full => 0x06
  | .overrun => 0x07
  | .refused => 0x08

/-- Report kinds 0..9 in the order of R152 (12.3.2). -/
def ReportKind.code : ReportKind → Byte
  | .delivered => 0
  | .peerDelivered => 1
  | .seenCurrent => 2
  | .abandoned => 3
  | .mismatch => 4
  | .withdrawn => 5
  | .held => 6
  | .late => 7
  | .superseded => 8
  | .modelChanged => 9

/-- READY reasons, qualifiers 0..3 (R177). -/
def readyCode : ReadyReason → Nat
  | .ready => 0
  | .current => 1
  | .mismatch => 2
  | .lowPower => 3

/-- The reason of a READY's qualifier (R177). -/
def readyReasonOf? : Nat → Option ReadyReason
  | 0 => some .ready
  | 1 => some .current
  | 2 => some .mismatch
  | 3 => some .lowPower
  | _ => none

/-- START's refusal reasons 1..3 (12.3). -/
def StartReason.code : StartReason → Byte
  | .state => 1
  | .clockUnset => 2
  | .unnumbered => 3

end Sys2Proof.Machine
end

