-- ==== Sys2Proof/Machine/Flags.lean ====
section
/-! DEFINITION. The counts the blocks hand on and the six attention flags with the ATTN output, each a
reading of its cause (R45, R65, R156 to R158). -/

namespace Sys2Proof.Machine

/-- The book's slots, and the Roster's (R45, R69). -/
def slotCount : Nat := 4096

/-- The free-slot count (R45). -/
def State.freeSlots (s : State) : Nat := slotCount - s.book.length

/-- The late count: entries whose late flag is set (R65). -/
def State.lateCount (s : State) : Nat := s.book.countP (fun e => e.late)

/-- The report queue has room (R153). -/
def State.hasRoom (s : State) : Bool := decide (s.reports.length < 256)

/-- The FAULT flag's cause: the latched set holds an ATTENDED kind (R149). -/
def State.faultAttended (s : State) : Bool :=
  s.latched.anyWith (s.config.policy.mask.map (fun m => m == KindMask.attended))

/-- A latched kind has severity STOP (R135, R147). -/
def State.stopLatched (s : State) : Bool :=
  s.latched.anyWith (s.config.policy.severity.map (fun v => v == Severity.stop))

/-- The URGENT reserve in hundredths of a ms. -/
def State.reserve (s : State) : Nat := s.config.policy.reserve * 100

/-- The budget's capacity in hundredths of a ms. -/
def State.capacity (s : State) : Nat := s.config.policy.capacity * 100

/-- The six attention flags (R156); every flag is clear through STARTING. -/
def State.flags (s : State) : FlagSet :=
  if s.opState = .starting then ⟨false, false, false, false, false, false⟩
  else
    { reports := !s.reports.isEmpty
      fault := s.faultAttended
      bookLow := decide (s.freeSlots < 64)
      late := decide (0 < s.lateCount)
      budgetLow := decide (s.budget < s.reserve)
      halted := decide (s.opState = .halted) }

/-- The flags as STATUS reads them: combined with the enable set (R157). -/
def State.shownFlags (s : State) : FlagSet := s.flags.inter s.enable

/-- ATTN is driven low: at least one flag is raised and enabled (R158). -/
def State.attnLow (s : State) : Bool := s.shownFlags.any

end Sys2Proof.Machine
end

