-- ==== Sys2Proof/Machine/Frames.lean ====
section
/-! DEFINITION. Air frames: their sizes and airtimes (6.5, 12.1), the bytes the station writes (R177),
and the checks every received frame passes before any block sees it (R104). -/

namespace Sys2Proof.Machine

/-- The airtime of a frame of `size` bytes, in hundredths of a ms: 2.0 ms + 0.16 ms per byte (6.5). -/
def airtime (size : Nat) : Nat := 200 + 16 * size

/-- The airtime of an OFFER, 5.84 ms (R86). -/
def offerAirtime : Nat := airtime 24

/-- The airtime of a FRAG with `p` payload bytes (R84). -/
def fragAirtime (p : Nat) : Nat := airtime (11 + p)

/-- The airtime of a TALLY of `n` pairs (R118). -/
def tallyAirtime (n : Nat) : Nat := airtime (14 + 5 * n)

/-! ### Writing a frame (R177) -/

/-- The kind code (R177). -/
def AirFrame.kindCode : AirFrame → Nat
  | .call _ => 1
  | .offer _ => 2
  | .ready _ => 3
  | .frag _ => 4
  | .fragAck _ => 5
  | .done _ => 6
  | .refuse _ => 7
  | .tally _ => 8

/-- The qualifier (R177). -/
def AirFrame.qualifier : AirFrame → Nat
  | .offer f => match f.base with
    | .version _ => 0
    | .any => 1
  | .ready f => readyCode f.reason
  | .refuse _ => 1
  | _ => 0

/-- A version base as sent, 0 when ANY (12.1.1). -/
def versionOfBase : Base → Version
  | .any => 0
  | .version v => v

/-- A bit vector as `n` bytes. -/
def bytesOfBits {w : Nat} (n : Nat) (x : BitVec w) : List Byte := bytesOfNat n x.toNat

/-- The pairs of a TALLY as bytes. -/
def pairBytes (ps : List (LabelAddr × Version)) : List Byte :=
  ps.flatMap (fun p => bytesOfBits 3 p.1 ++ bytesOfBits 2 p.2)

/-- The fields between the site code and the frame check (12.1.1). -/
def AirFrame.fields : AirFrame → List Byte
  | .call f =>
    bytesOfBits 3 f.label ++ bytesOfBits 2 f.held ++
    [BitVec.ofNat 8 (f.model.toNat * 16 + f.battery.toNat), f.flags]
  | .offer f =>
    [f.sender] ++ bytesOfBits 3 f.label ++ bytesOfBits 2 (versionOfBase f.base) ++ bytesOfBits 2 f.target ++
    bytesOfBits 4 f.effective ++ bytesOfBits 4 f.clock ++ [f.faceLength, f.fragments] ++
    bytesOfBits 2 f.faceCheck
  | .ready f => [f.station] ++ bytesOfBits 3 f.label ++ bytesOfBits 2 f.held
  | .frag f =>
    [f.sender] ++ bytesOfBits 3 f.label ++ [f.index, f.count, BitVec.ofNat 8 f.payload.length] ++ f.payload
  | .fragAck f => [f.station] ++ bytesOfBits 3 f.label ++ [f.index]
  | .done f =>
    [f.station] ++ bytesOfBits 3 f.label ++ bytesOfBits 2 f.held ++ bytesOfBits 2 f.faceCheck
  | .refuse f =>
    [f.station] ++ bytesOfBits 3 f.label ++ bytesOfBits 2 f.faceCheck ++ [f.assembled]
  | .tally f =>
    [f.sender] ++ bytesOfBits 4 f.clock ++ [BitVec.ofNat 8 f.pairs.length, f.pairsLeft, f.cause] ++
    bytesOfBits 2 f.freeSlots ++ pairBytes f.pairs

/-- The frame's bytes: two header bytes (kind and qualifier, size), the site code, the fields, and the
frame check over all of them (R177). -/
def AirFrame.bytes (site : SiteCode) (f : AirFrame) : List Byte :=
  let fields := f.fields
  let checked :=
    [BitVec.ofNat 8 (f.kindCode * 16 + f.qualifier), BitVec.ofNat 8 (fields.length + 4)] ++
    bytesOfBits 2 site ++ fields
  checked ++ bytesOfBits 2 (crc16 checked)

/-! ### Receiving a frame (R104) -/

/-- `n` pairs of a TALLY from exactly the bytes given. -/
def readPairs : Nat → List Byte → Option (List (LabelAddr × Version))
  | 0, [] => some []
  | n + 1, a :: b :: c :: d :: e :: rest =>
    (readPairs n rest).map (fun ps =>
      (BitVec.ofNat 24 (natOfBytes [a, b, c]), BitVec.ofNat 16 (natOfBytes [d, e])) :: ps)
  | _, _ => none

/-- Checks 3 and 4 (R104): a known kind and qualifier, and fields whose length agrees with the kind. -/
def readFields (kind qualifier : Nat) (b : List Byte) : Option AirFrame :=
  let station := b.getD 0 0
  let label : LabelAddr := BitVec.ofNat 24 (numAt b 1 3)
  match kind with
  | 1 =>
    if qualifier = 0 ∧ b.length = 7 then
      some (.call
        { label := BitVec.ofNat 24 (numAt b 0 3)
          held := BitVec.ofNat 16 (numAt b 3 2)
          model := BitVec.ofNat 4 (numAt b 5 1 / 16)
          battery := BitVec.ofNat 4 (numAt b 5 1)
          flags := b.getD 6 0 })
    else none
  | 2 =>
    if qualifier ≤ 1 ∧ b.length = 20 then
      some (.offer
        { sender := station
          label := label
          base := if qualifier = 1 then .any else .version (BitVec.ofNat 16 (numAt b 4 2))
          target := BitVec.ofNat 16 (numAt b 6 2)
          effective := BitVec.ofNat 32 (numAt b 8 4)
          clock := BitVec.ofNat 32 (numAt b 12 4)
          faceLength := b.getD 16 0
          fragments := b.getD 17 0
          faceCheck := BitVec.ofNat 16 (numAt b 18 2) })
    else none
  | 3 =>
    match readyReasonOf? qualifier with
    | some reason =>
      if b.length = 6 then
        some (.ready { station, label, held := BitVec.ofNat 16 (numAt b 4 2), reason })
      else none
    | none => none
  | 4 =>
    if qualifier = 0 ∧ 7 ≤ b.length ∧ b.length ≤ 23 ∧ numAt b 6 1 = b.length - 7 then
      some (.frag
        { sender := station, label, index := b.getD 4 0, count := b.getD 5 0, payload := b.drop 7 })
    else none
  | 5 =>
    if qualifier = 0 ∧ b.length = 5 then
      some (.fragAck { station, label, index := b.getD 4 0 })
    else none
  | 6 =>
    if qualifier = 0 ∧ b.length = 8 then
      some (.done
        { station, label, held := BitVec.ofNat 16 (numAt b 4 2)
          faceCheck := BitVec.ofNat 16 (numAt b 6 2) })
    else none
  | 7 =>
    if qualifier = 1 ∧ b.length = 7 then
      some (.refuse
        { station, label, faceCheck := BitVec.ofNat 16 (numAt b 4 2), assembled := b.getD 6 0 })
    else none
  | 8 =>
    if qualifier = 0 ∧ 10 ≤ b.length ∧ numAt b 5 1 ≤ 16 then
      (readPairs (numAt b 5 1) (b.drop 10)).map (fun pairs => .tally
        { sender := station
          clock := BitVec.ofNat 32 (numAt b 1 4)
          pairsLeft := b.getD 6 0
          cause := b.getD 7 0
          freeSlots := BitVec.ofNat 16 (numAt b 8 2)
          pairs })
    else none
  | _ => none

/-- Checks 5, 6 and 7 on a frame's fields, with the lengths that check 4 allows (R104): station numbers
in 1..250, the label address in 1..16,777,214, and a sender other than the own station. -/
def AirFrame.admissible (own : StationNo) : AirFrame → Bool
  | .call f => validLabel f.label
  | .offer f => validStation f.sender && validLabel f.label && f.sender != own
  | .ready f => validStation f.station && validLabel f.label
  | .frag f =>
    decide (f.payload.length ≤ 16) && validStation f.sender && validLabel f.label && f.sender != own
  | .fragAck f => validStation f.station && validLabel f.label
  | .done f => validStation f.station && validLabel f.label
  | .refuse f => validStation f.station && validLabel f.label
  | .tally f => decide (f.pairs.length ≤ 16) && validStation f.sender && f.sender != own

/-- The bytes a frame check is computed over: all but the last two (R177). -/
def checkedBytes (bs : List Byte) : List Byte := bs.take (bs.length - 2)

/-- A received frame put through the seven checks of R104, in order: the frame it is, or `none` when
it is discarded. -/
def receive (own : StationNo) (site : SiteCode) (bs : List Byte) : Option AirFrame :=
  if bs.length < 6 then none
  else if (crc16 (checkedBytes bs)).toNat ≠ numAt bs (bs.length - 2) 2 then none
  else if numAt bs 2 2 ≠ site.toNat then none
  else if numAt bs 1 1 ≠ bs.length - 2 then none
  else
    match readFields (numAt bs 0 1 / 16) (numAt bs 0 1 % 16) ((checkedBytes bs).drop 4) with
    | some f => if f.admissible own then some f else none
    | none => none

end Sys2Proof.Machine
end

