-- ==== Sys2Proof/Machine/Ops.lean ====
section
/-! DEFINITION. The operations the blocks share: looking up entries and records, changing one entry,
latching a fault, queuing a report, and taking either of two orders. -/

namespace Sys2Proof.Machine

/-! ### The book's slots and label map (R45) -/

/-- The entry of a label (the label map). -/
def State.entryOf (s : State) (l : LabelAddr) : Option Entry := s.book.find? (fun e => e.label == l)

/-- The entry in a slot. -/
def State.entryAt (s : State) (n : Nat) : Option Entry := s.book.find? (fun e => e.slot == n)

/-- The book with the entry in `e`'s slot replaced by `e`. -/
def putEntry (e : Entry) (book : List Entry) : List Entry :=
  book.map (fun x => if x.slot = e.slot then e else x)

/-- The book with `e` entered in slot order. -/
def insertEntry (e : Entry) : List Entry → List Entry
  | [] => [e]
  | x :: xs => if e.slot < x.slot then e :: x :: xs else x :: insertEntry e xs

/-- The lowest-numbered slot, from `n` up, that the entries (in slot order) leave free. -/
def lowestFreeFrom (n : Nat) : List Entry → Nat
  | [] => n
  | x :: xs => if x.slot = n then lowestFreeFrom (n + 1) xs else n

/-- The lowest-numbered free slot (R40). -/
def lowestFree (book : List Entry) : Nat := lowestFreeFrom 0 book

/-- The state with one entry changed. -/
def State.setEntry (s : State) (e : Entry) : State := { s with book := putEntry e s.book }

/-- The state with a slot freed. -/
def State.freeSlot (s : State) (n : Nat) : State :=
  { s with book := s.book.filter (fun e => e.slot != n) }

/-! ### The Roster's address map (R69) -/

/-- The roster record of a label. -/
def State.recordOf (s : State) (l : LabelAddr) : Option RosterRecord :=
  s.roster.find? (fun r => r.label == l)

/-! ### The Fault and Report Unit (chapter 9) -/

/-- A fault reaches the FRU (R144, R146, R147): its kind is latched, it is captured in the first-fault
log when the set was empty, and a kind of severity STOP hands Station Control a halt. In STARTING a
halt is not kept (R141). -/
def latch (d : Detail) (label : LabelAddr) (source : Byte) (group : GroupNo) (s : State) : State :=
  { s with
    latched := s.latched.insert d.kind
    firstFault := if s.latched.isEmpty then some ⟨d, label, source, group, s.clock⟩ else s.firstFault
    halt := s.halt || (s.config.policy.severity.get d.kind == .stop && s.opState != .starting) }

/-- A report enters the queue with the next sequence number (R152, R153). -/
def pushReport (r : ReportBody) (s : State) : State :=
  { s with reports := s.reports ++ [⟨s.nextSeq, r⟩], nextSeq := s.nextSeq + 1 }

/-- An event report is queued when the queue has room, and is not made when it is full (R153). -/
def eventReport (r : ReportBody) (s : State) : State := if s.hasRoom then pushReport r s else s

/-- Two orders of one event that no rule orders (R148): they differ at most in the fault the first-fault
log holds; where they do, a free value chooses. An order may itself have made choices, so the next one is
that after both. -/
def eitherOrder (a b : State) : State :=
  if a.firstFault = b.firstFault then a
  else
    let n := max a.choices b.choices
    { (if Config.faultOrder n then a else b) with choices := n + 1 }

/-- The own station as the maker of a report or a delivery (R152, R176). -/
def State.own (s : State) : Deliverer := .station s.config.identity.station

end Sys2Proof.Machine
end

