-- ==== Sys2Proof/Machine/Meter.lean ====
section
/-! DEFINITION. The Airtime Budget Meter (chapter 7). All amounts are hundredths of a ms, so every
deduction, return and refill is exact (R123). -/

namespace Sys2Proof.Machine

/-- The level is at least the amount (R126). -/
def covers (amount : Nat) (s : State) : Bool := decide (amount ≤ s.budget)

/-- The level an offer needs: the estimate, and for a NIGHT offer the URGENT reserve as well (R126). -/
def offerNeed (lane : Lane) (estimate : Nat) (s : State) : Nat :=
  match lane with
  | .urgent => estimate
  | .night => estimate + s.reserve

/-- A deduction that a cover test has just allowed (R127). -/
def deduct (amount : Nat) (s : State) : State := { s with budget := s.budget - amount }

/-- A return or a refill, capped at the capacity; the excess is lost (R125, R128). -/
def credit (amount : Nat) (s : State) : State := { s with budget := min (s.budget + amount) s.capacity }

/-- The refill of a clock second (R125). -/
def refill (s : State) : State := credit (s.config.policy.refill * 100) s

end Sys2Proof.Machine
end

