-- ==== Sys2Proof/Machine/Price.lean ====
section
/-! DEFINITION. The Price Arithmetic Unit (chapter 1): the compute request, stage by stage, the fit
request, and the encoding of a delivered face. -/

namespace Sys2Proof.Machine

/-- The greatest money value, and the greatest unit price (6.2, R14). -/
def maxMoney : Nat := 9999999

/-! ### The computation (1.3) -/

/-- The effective rate of a PERCENT markdown (R7). -/
def effectiveRate (rate : Nat) : Nat := if rate ≤ 900 then rate else 900

/-- Stage 1: the raw price (R6, R7). -/
def rawPrice (p : PriceItem) : Nat :=
  match p.markdown with
  | .none => p.ticket
  | .set price => price
  | .amount cents => if cents ≤ p.ticket then p.ticket - cents else 0
  | .percent rate => p.ticket * (1000 - effectiveRate rate) / 1000

/-- Stage 1's note RATE_CLAMPED (R7). -/
def rateClamped (p : PriceItem) : Bool :=
  match p.markdown with
  | .percent rate => decide (900 < rate)
  | _ => false

/-- The ending rule that stage 2 runs with: only PERCENT and AMOUNT use one (R8). -/
def activeEnding (p : PriceItem) : Option Ending :=
  match p.markdown with
  | .percent _ | .amount _ => p.ending
  | .none | .set _ => none

/-- Stage 2: the price brought down to its ending (R8). -/
def afterEnding (ending : Option Ending) (raw : Nat) : Nat :=
  match ending with
  | some e => if e.value ≤ raw then raw - (raw - e.value) % e.modulus else raw
  | none => raw

/-- Stage 2's note ENDING_SKIPPED (R8). -/
def endingSkipped (ending : Option Ending) (raw : Nat) : Bool :=
  match ending with
  | some e => decide (raw < e.value)
  | none => false

/-- Stage 3: a result of 0 becomes 1 (R9). -/
def afterMinimum (x : Nat) : Nat := if x = 0 then 1 else x

/-- The effective floor (R10). -/
def effectiveFloor (p : PriceItem) : Nat := max p.floor 1

/-- The result of stages 1 and 2. -/
def endedPrice (p : PriceItem) : Nat := afterEnding (activeEnding p) (rawPrice p)

/-- Stage 4: the shown price (R10). -/
def shownPrice (p : PriceItem) : Nat := max (afterMinimum (endedPrice p)) (effectiveFloor p)

/-- Stage 5: the was-price (R11). -/
def wasPrice (p : PriceItem) : Option Nat :=
  if p.markdown ≠ .none ∧ shownPrice p < p.ticket then some p.ticket else none

/-- Stage 6: the save figure, run when WAS is present (R12). -/
def saveFigure (p : PriceItem) : Option Nat :=
  match wasPrice p with
  | none => none
  | some w =>
    let s := 100 * (w - shownPrice p) / w
    if 1 ≤ s then some s else none

/-- Stage 7: the exact quotient rounded to the nearest cent, an exact half up (R13). -/
def unitPrice (shown : Nat) (u : UnitItem) : Nat :=
  (2 * shown * u.basis + u.quantity) / (2 * u.quantity)

/-- Stage 7: the UNIT field (R13, R14). -/
def unitField (price : Option PriceItem) (unit : Option UnitItem) : Option (UnitCode × Nat) :=
  match price, unit with
  | some p, some u =>
    let x := unitPrice (shownPrice p) u
    if x = 0 ∨ maxMoney < x then none else some (u.code, x)
  | _, _ => none

/-- The computed face of the merged inputs (R5). -/
def computeFace (i : Items) : Face where
  price := i.price.map shownPrice
  was := i.price.bind wasPrice
  save := i.price.bind saveFigure
  unit := unitField i.price i.unit
  badge := i.badge
  stock := i.stock
  ends := i.ends
  locate := i.locate

/-- The computation notes of the merged inputs (R7 to R10, R14). -/
def computeNotes (i : Items) : CompNotes where
  rateClamped := i.price.any rateClamped
  endingSkipped := i.price.any (fun p => endingSkipped (activeEnding p) (rawPrice p))
  minPrice := i.price.any (fun p => decide (endedPrice p = 0))
  floored := i.price.any (fun p => decide (afterMinimum (endedPrice p) < effectiveFloor p))
  unitOver :=
    match i.price, i.unit with
    | some p, some u => decide (maxMoney < unitPrice (shownPrice p) u)
    | _, _ => false
  unitUnder :=
    match i.price, i.unit with
    | some p, some u => decide (unitPrice (shownPrice p) u = 0)
    | _, _ => false
  unitNoPrice := i.unit.isSome && i.price.isNone

/-! ### The fit (1.6, 1.7) -/

/-- The model can show a unit price (R21). -/
def ModelRecord.showsUnit (m : ModelRecord) : Bool := m.fields.unit && decide (1 ≤ m.unitDigits)

/-- The price check: the shown price is too wide for the model (R18). -/
def tooWide (f : Face) (m : ModelRecord) : Bool := f.price.any (fun p => decide (10 ^ m.priceDigits ≤ p))

/-- WAS is too wide; WAS and SAVE are dropped (R19). -/
def wasTooWide (f : Face) (m : ModelRecord) : Bool := f.was.any (fun w => decide (10 ^ m.priceDigits ≤ w))

/-- UNIT is too wide, or there is no unit area (R19). -/
def unitTooWide (f : Face) (m : ModelRecord) : Bool :=
  f.unit.any (fun u => decide (m.unitDigits = 0) || decide (10 ^ m.unitDigits ≤ u.2))

/-- The face after the width drops of R19. -/
def afterWidth (f : Face) (m : ModelRecord) : Face :=
  { f with
    was := if wasTooWide f m then none else f.was
    save := if wasTooWide f m then none else f.save
    unit := if unitTooWide f m then none else f.unit }

/-- A present field outside the field set is dropped (R20). -/
def keepIf {α : Type} (allowed : Bool) (x : Option α) : Option α := if allowed then x else none

/-- The face after the field set drops of R20. -/
def afterFieldSet (f : Face) (m : ModelRecord) : Face where
  price := f.price
  was := keepIf m.fields.was f.was
  save := keepIf m.fields.save f.save
  unit := keepIf m.fields.unit f.unit
  badge := keepIf m.fields.badge f.badge
  stock := keepIf m.fields.stock f.stock
  ends := keepIf m.fields.ends f.ends
  locate := keepIf m.fields.locate f.locate

/-- Some present field lies outside the field set (R20). -/
def dropsField (f : Face) (m : ModelRecord) : Bool :=
  (f.was.isSome && !m.fields.was) || (f.save.isSome && !m.fields.save) ||
  (f.unit.isSome && !m.fields.unit) || (f.badge.isSome && !m.fields.badge) ||
  (f.stock.isSome && !m.fields.stock) || (f.ends.isSome && !m.fields.ends) ||
  (f.locate.isSome && !m.fields.locate)

/-- How WAS, SAVE or UNIT is carried, given whether the face carries PRICE and whether the model can
show the field (R21). -/
def carried {α : Type} (hasPrice shows : Bool) (x : Option α) : Area α :=
  if hasPrice && shows then
    match x with
    | some a => .value a
    | none => .clear
  else .notCarried

/-- The delivered face, from the computed face after both drops (R21). -/
def deliver (f : Face) (m : ModelRecord) : DeliveredFace where
  price := f.price
  was := carried f.price.isSome m.fields.was f.was
  save := carried f.price.isSome m.fields.save f.save
  unit := carried f.price.isSome m.showsUnit f.unit
  badge := f.badge
  stock := f.stock
  ends := f.ends
  locate := f.locate

/-- A fit request: NO_FIT (`none`), or the delivered face with its fit notes (R18 to R21). -/
def fit (f : Face) (m : ModelRecord) : Option (DeliveredFace × FitNotes) :=
  if tooWide f m then none
  else
    let w := afterWidth f m
    let d := deliver (afterFieldSet w m) m
    some (d,
      { wasDropped := wasTooWide f m
        unitDropped := unitTooWide f m
        fieldsDropped := dropsField w m
        unitCleared := decide (d.unit = .clear) })

/-! ### The encoding of a delivered face (R22, 12.2) -/

/-- A field of one of the three clearable areas: its tag and its contents, all 0 when clear. -/
def encodeArea {α : Type} (tag : Byte) (length : Nat) (contents : α → List Byte) : Area α → List Byte
  | .notCarried => []
  | .clear => tag :: bytesOfNat length 0
  | .value a => tag :: contents a

/-- A field that is carried when present. -/
def encodeOption {α : Type} (tag : Byte) (contents : α → List Byte) : Option α → List Byte
  | none => []
  | some a => tag :: contents a

/-- The encoding of a delivered face: tagged fields in the order of R22. -/
def encodeFace (d : DeliveredFace) : List Byte :=
  encodeOption 1 (bytesOfNat 4) d.price ++
  encodeArea 2 4 (bytesOfNat 4) d.was ++
  encodeArea 3 1 (bytesOfNat 1) d.save ++
  encodeArea 4 5 (fun u : UnitCode × Nat => bytesOfNat 1 u.1.toNat ++ bytesOfNat 4 u.2) d.unit ++
  encodeOption 5 (fun b : Badge => bytesOfNat 1 b.toNat) d.badge ++
  encodeOption 6 (fun m : StockMark => bytesOfNat 1 m.toNat) d.stock ++
  encodeOption 7 (bytesOfNat 2) d.ends ++
  encodeOption 8 (bytesOfNat 1) d.locate

end Sys2Proof.Machine
end

