-- ==== Sys2Proof/Machine/Book.lean ====
section
/-! DEFINITION. The Change Book (chapter 3): lanes and lateness, closing and promotion, the closing
order list, HELD and YIELDED, confirmations, and the outcomes of a transfer. -/

namespace Sys2Proof.Machine

/-! ### Lanes and lateness (3.4) -/

/-- The lane of a class and an effective time (R63): the sum with the late margin does not wrap. -/
def laneOf (c : StationConfig) (clock : StoreTime) (cls : Fin 8) (effective : StoreTime) : Lane :=
  if c.sources.classMap[cls] = .urgent ∨ effective = 0 ∨
      effective.toNat ≤ clock.toNat + c.policy.lateMargin then .urgent
  else .night

/-- The late flag of an effective time (R64). -/
def lateOf (clock effective : StoreTime) : Bool := decide (effective.toNat ≤ clock.toNat)

/-- The entry is CLOSING. -/
def Entry.isClosing (e : Entry) : Bool :=
  match e.state with
  | .closing _ => true
  | _ => false

/-- The entry is WAITING, HELD or YIELDED. -/
def Entry.isOpen (e : Entry) : Bool :=
  match e.state with
  | .waiting | .held | .yielded _ => true
  | .inTransfer | .closing _ => false

/-- The lane and the late flag evaluated afresh. -/
def evaluate (c : StationConfig) (clock : StoreTime) (e : Entry) : Entry :=
  { e with lane := laneOf c clock e.cls e.effective, late := lateOf clock e.effective }

/-- A report about an entry by the own station with the entry's target as its version (R62). -/
def ownReport (kind : ReportKind) (e : Entry) (s : State) : ReportBody :=
  ⟨kind, e.label, e.target, s.clock, s.own, e.attempts, e.notes, e.lastGroup⟩

/-- The fault of an entry whose late flag has become set (R64). -/
def latchLate (e : Entry) (s : State) : State := latch .d205 e.label 0 e.lastGroup s

/-- The LATE report of an entry whose late flag has become set (R64). -/
def lateReport (e : Entry) (s : State) : State := eventReport (ownReport .late e s) s

/-- An evaluation has changed `was` into the late flag of `e`: from clear to set, fault 205 is latched and a LATE
report queued when there is room (R64). -/
def noteLate (was : Bool) (e : Entry) (s : State) : State :=
  if e.late && !was then lateReport e (latchLate e s) else s

/-- The entry after a clock second's or SET TIME's evaluation: a CLOSING entry is not evaluated. -/
def evaluateOpen (c : StationConfig) (clock : StoreTime) (e : Entry) : Entry :=
  if e.isClosing then e else evaluate c clock e

/-- The lane and late flag of every entry not CLOSING are evaluated against the clock, the LATE reports and faults
205 in order of slot number (R63, R64, R148). -/
def evaluateAll (s : State) : State :=
  s.book.foldl (fun t e => noteLate e.late (evaluateOpen s.config s.clock e) t)
    { s with book := s.book.map (evaluateOpen s.config s.clock) }

/-! ### Faces and limits -/

/-- A compute request on the entry's merged inputs: it replaces the computation part of the notes and
empties the fit part (R5, R16). -/
def recompute (e : Entry) : Entry :=
  { e with
    face := computeFace e.items
    notes := { e.notes with comp := computeNotes e.items, fit := {} } }

/-- The attempt limit in force for a label (R56): the configured limit, halved and rounded up for a
battery level of 0, 1 or 2 in the Roster. -/
def limitFor (s : State) (l : LabelAddr) : Nat :=
  match s.recordOf l with
  | some r =>
    if r.battery.toNat ≤ 2 then (s.config.policy.attemptLimit + 1) / 2 else s.config.policy.attemptLimit
  | none => s.config.policy.attemptLimit

/-! ### Closing (3.3) -/

/-- The kind of a closing report. -/
def ClosingOutcome.report : ClosingOutcome → ReportKind
  | .delivered => .delivered
  | .peerDelivered => .peerDelivered
  | .seenCurrent => .seenCurrent
  | .abandoned => .abandoned
  | .mismatch => .mismatch

/-- The version a closing report carries (R62). -/
def closingVersion (e : Entry) (r : ClosingRecord) : Version :=
  match r.outcome with
  | .delivered | .abandoned => e.target
  | .peerDelivered | .seenCurrent | .mismatch => r.version

/-- The closing report of an entry (R62). -/
def closingReport (e : Entry) (r : ClosingRecord) : ReportBody :=
  ⟨r.outcome.report, e.label, closingVersion e r, r.time, r.deliverer, e.attempts, e.notes, e.lastGroup⟩

/-- The entry that a successor part becomes at promotion (R60). -/
def promote (s : State) (e : Entry) (p : Successor) : Entry :=
  evaluate s.config s.clock <| recompute
    { e with
      state := .waiting
      base := .version e.target
      target := p.target
      items := p.items
      effective := p.effective
      cls := p.cls
      lastGroup := p.lastGroup
      notes := { e.notes with masked := p.masked }
      attempts := 0
      limit := limitFor s e.label
      lastOutcome := none
      successor := none }

/-- The closing report enters the queue, and the entry is freed or its successor promoted (R60). A
successor promoted late has its fault 205 latched here; it is handed back for its LATE report. -/
def closeOut (e : Entry) (r : ClosingRecord) (s : State) : State × Option Entry :=
  let s := pushReport (closingReport e r) s
  match e.successor with
  | none => (s.freeSlot e.slot, none)
  | some p =>
    let n := promote s e p
    let s := s.setEntry n
    if n.late then (latchLate n s, some n) else (s, none)

/-- The LATE reports of promoted successors, in order of promotion. -/
def reportPromoted (ns : List Entry) (s : State) : State := ns.foldl (fun t n => lateReport n t) s

/-- The closing order list used from its head while the report queue has room; the late successors
promoted on the way are handed back in order (R61). -/
def drainList : List Nat → List Entry → State → State × List Entry
  | [], late, s => ({ s with closing := [] }, late)
  | n :: rest, late, s =>
    if s.hasRoom then
      match s.entryAt n with
      | some e =>
        match e.state with
        | .closing r =>
          let (t, p) := closeOut e r s
          drainList rest (late ++ p.toList) t
        | _ => drainList rest late s
      | none => drainList rest late s
    else ({ s with closing := n :: rest }, late)

/-- The book uses the room that the FRU has handed it (R61): closing reports first, then the LATE
reports of the successors it promoted. -/
def drainClosing (s : State) : State :=
  let (t, late) := drainList s.closing [] s
  reportPromoted late t

/-- The entry enters CLOSING (R59): it takes its closing record, its late flag is cleared, and its
report is queued at once when the closing order list is empty and the queue has room; otherwise it
joins the end of the list (R61). -/
def enterClosing (e : Entry) (o : ClosingOutcome) (d : Deliverer) (v : Version) (s : State) : State :=
  let r : ClosingRecord := ⟨o, d, v, s.clock⟩
  let e := { e with state := .closing r, late := false }
  let s := s.setEntry e
  if s.closing.isEmpty && s.hasRoom then
    let (t, p) := closeOut e r s
    reportPromoted p.toList t
  else { s with closing := s.closing ++ [e.slot] }

/-- A confirmation (R49): it closes a WAITING, HELD or YIELDED entry whose target the version reaches,
and changes no other entry. -/
def confirm (l : LabelAddr) (v : Version) (o : ClosingOutcome) (d : Deliverer) (s : State) : State :=
  match s.entryOf l with
  | some e => if e.isOpen && atLeast v e.target then enterClosing e o d v s else s
  | none => s

/-! ### HELD and the fit (R50, R51) -/

/-- The entry with the fit part of its notes replaced (R16). -/
def withFit (n : FitNotes) (e : Entry) : Entry := { e with notes := { e.notes with fit := n } }

/-- A WAITING entry enters HELD (R50): fault 201 and, with room, a HELD report. -/
def enterHeld (e : Entry) (s : State) : State :=
  let e := { withFit {} e with state := .held }
  let s := latch .d201 e.label 0 e.lastGroup (s.setEntry e)
  eventReport (ownReport .held e s) s

/-- The record of a model code (R17). -/
def State.modelRecord (s : State) (m : BitVec 4) : ModelRecord := s.config.models[m.toFin]

/-- A WAITING or HELD entry's fit against a model (R51): passing, the entry is WAITING with its fit notes
replaced; NO_FIT, a WAITING entry enters HELD and a HELD entry stays HELD, its fit part empty. -/
def refit (m : BitVec 4) (e : Entry) (s : State) : State :=
  match fit e.face (s.modelRecord m) with
  | some (_, n) => s.setEntry { withFit n e with state := .waiting }
  | none => if e.state = .held then s.setEntry (withFit {} e) else enterHeld e s

/-- The book re-checks a label's entry at a model change: only a WAITING or a HELD one (R51). -/
def recheckModel (l : LabelAddr) (m : BitVec 4) (s : State) : State :=
  match s.entryOf l with
  | some e => if e.state = .waiting ∨ e.state = .held then refit m e s else s
  | none => s

/-! ### YIELDED (R52, R53) -/

/-- An overheard OFFER yields a WAITING, HELD or YIELDED entry for 32 clock seconds (R52). -/
def yieldLabel (l : LabelAddr) (s : State) : State :=
  match s.entryOf l with
  | some e => if e.isOpen then s.setEntry { e with state := .yielded (s.clock + 32) } else s
  | none => s

/-- A YIELDED entry whose yield end equals the clock becomes WAITING (R53). -/
def endYield (clock : StoreTime) (e : Entry) : Entry :=
  if e.state = .yielded clock then { e with state := .waiting } else e

/-- Every yield whose end equals the clock ends (R53). -/
def endYields (s : State) : State := { s with book := s.book.map (endYield s.clock) }

/-- A yield end moved by the difference of two clock values (R53, R134). -/
def moveYield (diff : StoreTime) (e : Entry) : Entry :=
  match e.state with
  | .yielded u => { e with state := .yielded (u + diff) }
  | _ => e

/-! ### Outcomes of a transfer (3.2.4) -/

/-- Items merged kind by kind: an item of `new` replaces the whole item of its kind (R35). -/
def mergeItems (old new : Items) : Items where
  price := new.price <|> old.price
  unit := new.unit <|> old.unit
  badge := new.badge <|> old.badge
  stock := new.stock <|> old.stock
  ends := new.ends <|> old.ends
  locate := new.locate <|> old.locate

/-- The successor's target would not be newer than the entry's base (R57). -/
def breaksLaw (e : Entry) (p : Successor) : Bool :=
  match e.base with
  | .any => false
  | .version b => !newer p.target b

/-- The entry's content after a successor is chained into it, or taken as promotion takes it where the
chain would break the version law (R57). -/
def chain (s : State) (e : Entry) (p : Successor) : Entry :=
  let e := { e with
    state := .waiting, target := p.target, effective := p.effective, cls := p.cls
    lastGroup := p.lastGroup, attempts := 0, successor := none,
    base := if breaksLaw e p then .version e.target else e.base
    items := if breaksLaw e p then p.items else mergeItems e.items p.items
    notes := { e.notes with masked := if breaksLaw e p then p.masked else e.notes.masked || p.masked }
    limit := if breaksLaw e p then limitFor s e.label else e.limit }
  evaluate s.config s.clock (recompute e)

/-- The entry returns to WAITING from IN_TRANSFER, chaining any successor part (R57). -/
def returnToWaiting (e : Entry) (s : State) : State :=
  match e.successor with
  | none => s.setEntry { e with state := .waiting }
  | some p =>
    let n := chain s e p
    noteLate e.late n (s.setEntry n)

/-- An entry at its limit is abandoned (R56): it closes as ABANDONED, and fault 203 is latched. When its
successor is promoted late in the same event, fault 205 is latched too; no rule orders the two, and either
may be taken first (R148, notes/assumptions/3.md). -/
def abandon (e : Entry) (s : State) : State :=
  let close := enterClosing e .abandoned s.own e.target
  let fault := latch .d203 e.label 0 e.lastGroup
  eitherOrder (close (fault s)) (fault (close s))

/-- A failed transfer counts an attempt (R56): at the limit, evaluated afresh, the entry is abandoned; below
it the entry returns to WAITING. -/
def failedTransfer (e : Entry) (s : State) : State :=
  let limit := limitFor s e.label
  let attempts := min (e.attempts + 1) limit
  let e := { e with limit := limit, attempts := attempts }
  if attempts = limit then abandon e s else returnToWaiting e s

/-- The book takes the outcome of the transfer of the entry in a slot (R55, R58). `held` is the version a
READY stated. -/
def transferOutcome (slot : Nat) (o : TransferOutcome) (held : Version) (s : State) : State :=
  match s.entryAt slot with
  | none => s
  | some e =>
    let e := { e with lastOutcome := some o }
    match o with
    | .done => enterClosing e .delivered s.own e.target s
    | .current => enterClosing e .seenCurrent .label held s
    | .mismatch => enterClosing e .mismatch .label held s
    | .lowPower | .cutOff => returnToWaiting e s
    | .noAnswer | .lost | .uncertain | .badFace => failedTransfer e s

end Sys2Proof.Machine
end

