-- ==== Sys2Proof/Machine/Roster.lean ====
section
/-! DEFINITION. The Label Roster (chapter 4). The list of records is the recency order; a record carries
its slot number. -/

namespace Sys2Proof.Machine

/-- A received level clamped into −120..0 dBm (R73). -/
def clampSignal (rssi : Int) : Int := max (-120) (min rssi 0)

/-- The records without a label's. -/
def without (l : LabelAddr) (rs : List RosterRecord) : List RosterRecord :=
  rs.filter (fun r => r.label != l)

/-- The state with a record put at the head of the recency order in place of its label's record (R70). -/
def State.moveToHead (s : State) (r : RosterRecord) : State :=
  { s with roster := r :: without r.label s.roster }

/-- A label's frame other than a CALL is heard (R70, R72, R73): the signal level and the last heard time
are set, a version it states is learned, and the record moves to the head. With no record the Roster is
unchanged. -/
def rosterHeard (l : LabelAddr) (version : Option Version) (rssi : Int) (s : State) : State :=
  match s.recordOf l with
  | some r =>
    s.moveToHead { r with
      held := version.getD r.held, signal := clampSignal rssi, lastHeard := s.clock }
  | none => s

/-- A TALLY pair replaces the recorded version only when it is newer, and moves nothing (R72). -/
def rosterTally (l : LabelAddr) (v : Version) (s : State) : State :=
  { s with roster := s.roster.map (fun r =>
      if r.label = l ∧ newer v r.held = true then { r with held := v } else r) }

/-- The lowest-numbered roster slot from `n` that the records leave free; `fuel` bounds the search. -/
def rosterFreeFrom (rs : List RosterRecord) (n : Nat) : Nat → Nat
  | 0 => n
  | fuel + 1 => if rs.any (fun r => r.slot == n) then rosterFreeFrom rs (n + 1) fuel else n

/-- The lowest-numbered free roster slot (R71). -/
def rosterFree (rs : List RosterRecord) : Nat := rosterFreeFrom rs 0 rs.length

/-- The record that a CALL creates in a slot (R71). -/
def newRecord (slot : Nat) (f : CallFrame) (rssi : Int) (busy : Bool) (clock : StoreTime) :
    RosterRecord :=
  ⟨slot, f.label, f.model, f.held, f.battery, clampSignal rssi, clock, 1, busy⟩

/-- The record a CALL replaces in a full Roster: the least recently heard whose label has no book entry
(R75). -/
def replaceable (s : State) : Option RosterRecord :=
  s.roster.reverse.find? (fun r => (s.entryOf r.label).isNone)

/-- The event report of a model change (R74). -/
def modelReport (f : CallFrame) (s : State) : ReportBody :=
  match s.entryOf f.label with
  | some e => ⟨.modelChanged, f.label, f.held, s.clock, .label, e.attempts, e.notes, e.lastGroup⟩
  | none => ⟨.modelChanged, f.label, f.held, s.clock, .label, 0, {}, 0⟩

/-- The last group of a label's entry, or 0 with no entry (R74, R145). -/
def lastGroupOf (l : LabelAddr) (s : State) : GroupNo := ((s.entryOf l).map (fun e => e.lastGroup)).getD 0

/-- A model change (R74): fault 202, the MODEL_CHANGED report with room, then the book's re-check. -/
def modelChange (f : CallFrame) (s : State) : State :=
  let s := latch .d202 f.label 0 (lastGroupOf f.label s) s
  recheckModel f.label f.model (eventReport (modelReport f s) s)

/-- A CALL reaches the Roster (R71, R74, R75, R76). `busy` is whether the Engine is TRANSFERRING. -/
def rosterCall (f : CallFrame) (rssi : Int) (busy : Bool) (s : State) : State :=
  match s.recordOf f.label with
  | some r =>
    let t := s.moveToHead { r with
      model := f.model, held := f.held, battery := f.battery, signal := clampSignal rssi
      lastHeard := s.clock, calls := min (r.calls + 1) 65535, busy := busy }
    if r.model = f.model then t else modelChange f t
  | none =>
    if s.roster.length < slotCount then
      { s with roster := newRecord (rosterFree s.roster) f rssi busy s.clock :: s.roster }
    else
      match replaceable s with
      | some v =>
        { s with roster := newRecord v.slot f rssi busy s.clock :: without v.label s.roster }
      | none => s

/-- One line of READ ROSTER (R78): the record of a slot with its rank in the recency order. -/
def rosterLine (s : State) (slot : Nat) : RosterLine :=
  match s.roster.findIdx? (fun r => r.slot == slot) with
  | some i =>
    match s.roster[i]? with
    | some r => .occupied r (i + 1) (s.entryOf r.label).isSome
    | none => .free slot
  | none => .free slot

/-- The slots READ ROSTER lists: from the start slot, at most 16, ending at slot 4,095 (R78). -/
def rosterSlots (first count : Nat) : List Nat :=
  (List.range (min (min count 16) (slotCount - first))).map (fun i => first + i)

end Sys2Proof.Machine
end

