-- ==== Sys2Proof/Machine/Engine.lean ====
section
/-! DEFINITION. The Dialogue Engine's shared operations (chapters 5 and 6): the transfer context's
derived values, the standoff delay, sending, waits, the end of a transfer, the tally list and the quiet
wait, and the halt that ends every command whose fault stops the station (R141). -/

namespace Sys2Proof.Machine

/-! ### The face of a transfer (R84) -/

/-- The fragment count of an encoding: at most 16 bytes each, and at least one. -/
def fragmentCount (face : List Byte) : Nat := max 1 ((face.length + 15) / 16)

/-- The payload of fragment `k`, 1 or 2. -/
def fragmentPayload (face : List Byte) (k : Nat) : List Byte := (face.drop (16 * (k - 1))).take 16

/-- The transfer estimate: the OFFER and every fragment at full size. -/
def estimateOf (face : List Byte) : Nat := offerAirtime + fragmentCount face * fragAirtime 16

/-- The airtime of the context's current fragment. -/
def TransferContext.fragmentTime (c : TransferContext) : Nat :=
  fragAirtime (fragmentPayload c.face c.fragment).length

/-! ### The standoff delay (R106) -/

/-- The signal term: floor((−40 − rssi) / 4) with the level clamped into −100..−40 dBm. -/
def signalTerm (rssi : Int) : Nat := ((-40 - max (-100) (min rssi (-40))) / 4).toNat

/-- The lane term. -/
def laneTerm : Lane → Nat
  | .urgent => 0
  | .night => 8

/-- The delay in microseconds. -/
def standoffDelay (station : StationNo) (lane : Lane) (rssi : Int) (attempts : Nat) : Nat :=
  min ((laneTerm lane + signalTerm rssi + min attempts 7) * 250 + station.toNat % 8 * 25) 7500

/-! ### Sending and waiting (R81, R86, R89) -/

/-- The Engine begins to send a frame. While it does no carrier is sensed, but what is on the air is counted
on, since what is left of it is sensed from the end of the sending (R105). -/
def beginSending (f : AirFrame) (s : State) : State := { s with transmitting := some f }

/-- A fresh wait from the end of a frame sent. -/
def newWait (lengthUs : Nat) : Wait := ⟨lengthUs, false, false⟩

/-- The OFFER of a context at a clock value (R86). -/
def offerFrame (s : State) (c : TransferContext) : AirFrame :=
  .offer
    { sender := s.config.identity.station, label := c.label, base := c.base, target := c.target
      effective := c.effective, clock := s.clock
      faceLength := BitVec.ofNat 8 c.face.length
      fragments := BitVec.ofNat 8 (fragmentCount c.face)
      faceCheck := crc16 c.face }

/-- The FRAG of the context's current fragment (R89). -/
def fragFrame (s : State) (c : TransferContext) : AirFrame :=
  .frag
    { sender := s.config.identity.station, label := c.label
      index := BitVec.ofNat 8 c.fragment, count := BitVec.ofNat 8 (fragmentCount c.face)
      payload := fragmentPayload c.face c.fragment }

/-- FRAG k is begun: its first sending or a re-send (R89, R91). -/
def sendFragment (c : TransferContext) (resend : Bool) (s : State) : State :=
  beginSending (fragFrame s c) { s with dialogue := .transferring (.sending resend) { c with wait := none } }

/-- The Engine returns to LISTENING, with no context and nothing on the air. -/
def toListening (s : State) : State := { s with dialogue := .listening, transmitting := none }

/-! ### The end of a transfer (R94, R99) -/

/-- The covered airtime when a transfer ends: a frame cut short counts as sent in full, except a
re-send, which the estimate does not cover (R89, R99). -/
def coveredAtEnd (phase : Phase) (c : TransferContext) (sending : Bool) : Nat :=
  match phase with
  | .awaitReady => if sending then c.covered + offerAirtime else c.covered
  | .sending false => if sending then c.covered + c.fragmentTime else c.covered
  | .sending true | .awaitAck | .awaitDone => c.covered

/-- A transfer ends (R94): the outcome goes to the book, the unspent estimate to the Meter, and the
Engine returns to LISTENING. -/
def endTransfer (phase : Phase) (c : TransferContext) (o : TransferOutcome) (held : Version) (s : State) :
    State :=
  let sent := coveredAtEnd phase c s.transmitting.isSome
  toListening (credit (estimateOf c.face - sent) (transferOutcome c.slot o held s))

/-- The wait of a phase expires (R87, R91, R92): NO_ANSWER, a covered re-send or LOST, UNCERTAIN. -/
def waitExpires (phase : Phase) (c : TransferContext) (s : State) : State :=
  match phase with
  | .awaitReady => endTransfer phase c .noAnswer 0 s
  | .sending _ => s
  | .awaitAck =>
    if c.resends < 2 ∧ covers c.fragmentTime s = true then
      sendFragment { c with resends := c.resends + 1 } true (deduct c.fragmentTime s)
    else endTransfer phase c .lost 0 s
  | .awaitDone => endTransfer phase c .uncertain 0 s

/-- The deadline of the Engine's wait is reached: the wait expires, unless a frame whose start fell within
it is still being received (R81). -/
def deadline (phase : Phase) (c : TransferContext) (s : State) : State :=
  match c.wait with
  | none => s
  | some w =>
    if w.met then
      { s with dialogue := .transferring phase { c with wait := some { w with passed := true } } }
    else waitExpires phase c s

/-- A frame that the phase does not await has ended (R81, R88): the wait goes on if its deadline has not
passed, and otherwise expires now. DEDUCED: every caller lets the frame act first and the wait expire after
it, since R81 puts the expiry at the frame's end; so a fault of the frame (202 and 201 of a CALL's model
change, 205) is taken before the 203 of the expiry, where R148 names no order (notes/assumptions/23.md). -/
def unawaited (s : State) : State :=
  match s.dialogue with
  | .transferring phase c =>
    match c.wait with
    | some w =>
      if w.met then
        if w.passed then waitExpires phase c s
        else { s with dialogue := .transferring phase { c with wait := some { w with met := false } } }
      else s
    | none => s
  | _ => s

/-! ### Hearing a frame (R81, R105, R108) -/

/-- The Engine receives and senses: not in STARTING, and not while it transmits (R80, R81, R105). -/
def State.canHear (s : State) : Bool := s.opState != .starting && s.transmitting.isNone

/-- A stand-down: a standoff ends without an offer (R108). -/
def standDown (s : State) : State :=
  match s.dialogue with
  | .standingOff _ => { s with dialogue := .listening }
  | _ => s

/-- The carrier of a frame or a burst ends (R105). -/
def carrierEnds (s : State) : State := { s with carriers := s.carriers - 1 }

/-- A frame's end: its carrier had stopped any standoff, and ends with it (R105, R107). -/
def frameHeard (s : State) : State := carrierEnds (standDown s)

/-- The end of a frame that the station cannot hear (R80, R81): lost while the station transmits, but for the
end of its carrier (R105); in STARTING nothing is sensed. -/
def frameLost (s : State) : State := if s.opState = .starting then s else carrierEnds s

/-- The frame names the label of the transfer in flight. -/
def State.inTransferWith (s : State) (l : LabelAddr) : Bool :=
  match s.dialogue with
  | .transferring _ c => c.label == l
  | _ => false

/-- The Engine is TRANSFERRING. -/
def State.isTransferring (s : State) : Bool :=
  match s.dialogue with
  | .transferring _ _ => true
  | _ => false

/-- The Engine is LISTENING. -/
def State.isListening (s : State) : Bool := s.dialogue == .listening

/-! ### The tally list and the quiet wait (6.5) -/

/-- A pair joins the tally list (R115). -/
def joinTally (p : LabelAddr × Version) (s : State) : State :=
  if p ∈ s.tally then s
  else { s with tally := (if s.tally.length < 64 then s.tally else s.tally.drop 1) ++ [p] }

/-- A TALLY is due (R116). -/
def State.tallyDue (s : State) : Bool :=
  decide (16 ≤ s.tally.length) ||
  (decide (10 ≤ s.tallyCount) && decide (1 ≤ s.tally.length)) ||
  decide (s.tallyCount = 60)

/-- The cause a TALLY carries: the first condition of R116 that holds (R177). -/
def State.tallyCause (s : State) : Nat :=
  if 16 ≤ s.tally.length then 1
  else if 10 ≤ s.tallyCount ∧ 1 ≤ s.tally.length then 2
  else 3

/-- The length of a quiet wait in ms (R117). -/
def quietLength (station : StationNo) : Nat := 1 + station.toNat % 8

/-- A due TALLY is eligible to be sent (R117). -/
def State.tallyEligible (s : State) : Bool :=
  s.tallyDue && (s.opState == .run || s.opState == .paused) && s.isListening

/-- The quiet wait follows eligibility and carrier (R117): it runs while a TALLY is eligible and no
carrier is sensed, and it is dropped otherwise. -/
def settleQuiet (s : State) : State :=
  { s with quietWait :=
      if s.tallyEligible = true ∧ s.carriers = 0 then some (quietLength s.config.identity.station) else none }

/-! ### HALTED (R98, R119, R141) -/

/-- What a cut finds on the air (R99, R128). A cut at the very start, right after a commit, finds the OFFER not
yet begun, so that it counts as not sent; a later one cuts it short. DESIGN CHOICE: the model holds no time below a
second, so which of the two a cut before OFFER_SENT is is a free value (notes/assumptions/26.md). -/
def airAtCut (phase : Phase) (s : State) : State :=
  match phase with
  | .awaitReady =>
    if s.transmitting.isSome then
      { s with
        transmitting := if Config.cutAtStart s.choices then none else s.transmitting
        choices := s.choices + 1 }
    else s
  | .sending _ | .awaitAck | .awaitDone => s

/-- The work in flight is stopped at once: a transfer is cut off, a standoff ends without an offer, and a
TALLY is cut short with its pairs kept. -/
def cutWork (s : State) : State :=
  match s.dialogue with
  | .transferring phase c => endTransfer phase c .cutOff 0 (airAtCut phase s)
  | .listening | .standingOff _ | .tallying _ => toListening s

/-- A halt handed on by the FRU is taken (R141): IDLE, RUN and PAUSED become HALTED. -/
def takeHalt (s : State) : State :=
  if s.halt then
    match s.opState with
    | .idle | .run | .paused => { cutWork { s with opState := .halted } with halt := false }
    | .starting | .halted => { s with halt := false }
  else s

/-- The end of a command: a halt its faults handed on is taken, and the quiet wait follows. -/
def settle (s : State) : State := settleQuiet (takeHalt s)

end Sys2Proof.Machine
end

