-- ==== Sys2Proof/Machine/Hearing.lean ====
section
/-! DEFINITION. What the Engine does at the end of each frame it has decoded (chapters 5 and 6): the
evaluation of a CALL, the frames a transfer awaits, and the traffic overheard. -/

namespace Sys2Proof.Machine

/-! ### The evaluation of a CALL (R48, R82, R83) -/

/-- The transfer context made at a CALL's evaluation (R80, R83). DESIGN CHOICE: its current fragment is 1 from
the start, also in STANDING_OFF and AWAIT_READY, before FRAG 1 is sent; R80 gives the range 1..fragment count
and no value for that time (notes/assumptions/24.md). -/
def contextFor (e : Entry) (face : List Byte) (rssi : Int) (s : State) : TransferContext where
  label := e.label
  slot := e.slot
  base := e.base
  target := e.target
  effective := e.effective
  lane := e.lane
  face := face
  covered := 0
  fragment := 1
  resends := 0
  wait := none
  delayUs := standoffDelay s.config.identity.station e.lane rssi e.attempts
  touched := false

/-- The Engine enters STANDING_OFF; carrier that is already being sensed stops the standoff at once
(R107). -/
def enterStandoff (c : TransferContext) (s : State) : State :=
  if s.carriers = 0 then { s with dialogue := .standingOff c } else s

/-- The budget test of an offer (R83): covered, the Engine enters STANDING_OFF; otherwise the call is
declined. -/
def budgetTest (e : Entry) (face : List Byte) (rssi : Int) (s : State) : State :=
  if covers (offerNeed e.lane (estimateOf face) s) s then enterStandoff (contextFor e face rssi s) s else s

/-- The third decision of R48 on a WAITING entry: the base test, the fit, and the budget test. -/
def offerDecision (f : CallFrame) (rssi : Int) (e : Entry) (s : State) : State :=
  if baseMatches e.base f.held then
    match fit e.face (s.modelRecord f.model) with
    | some (d, n) => budgetTest (withFit n e) (encodeFace d) rssi (s.setEntry (withFit n e))
    | none => enterHeld e s
  else enterClosing e .mismatch .label f.held s

/-- The second decision of R48: a HELD entry is re-checked with the CALL's model. -/
def heldDecision (f : CallFrame) (e : Entry) (s : State) : State :=
  if e.state = .held then refit f.model e s else s

/-- The third decision is made: RUN, the LISTEN flag set, and a WAITING entry. -/
def thirdDecision (f : CallFrame) (rssi : Int) (s : State) : State :=
  match s.entryOf f.label with
  | some e =>
    if s.opState = .run ∧ f.flags.getLsbD 0 = true ∧ e.state = .waiting then offerDecision f rssi e s
    else s
  | none => s

/-- The evaluation of a CALL with the Engine LISTENING (R48, R82, R83). -/
def evaluateCall (f : CallFrame) (rssi : Int) (s : State) : State :=
  match s.entryOf f.label with
  | some e =>
    if e.isOpen && atLeast f.held e.target then enterClosing e .seenCurrent .label f.held s
    else thirdDecision f rssi (heldDecision f e s)
  | none => s

/-- A CALL (R82): the Roster first; then its evaluation, when the Engine is LISTENING. -/
def callReceived (f : CallFrame) (rssi : Int) (s : State) : State :=
  let t := rosterCall f rssi s.isTransferring s
  if t.isListening then evaluateCall f rssi t else unawaited t

/-! ### The frames of a label to a station (R87 to R92, R95, R111 to R113) -/

/-- A READY outside the transfer that awaits it (R88, R95, R111): a READY CURRENT confirms the label's
entry, unless the label is the one in transfer. -/
def readyOverheard (f : ReadyFrame) (s : State) : State :=
  unawaited (if f.reason = .current ∧ s.inTransferWith f.label = false then
    confirm f.label f.held .seenCurrent .label s else s)

/-- The READY that AWAIT_READY awaits (R87). -/
def readyAwaited (f : ReadyFrame) (c : TransferContext) (s : State) : State :=
  match f.reason with
  | .ready => sendFragment { c with fragment := 1 } false s
  | .current => endTransfer .awaitReady c .current f.held s
  | .mismatch => endTransfer .awaitReady c .mismatch f.held s
  | .lowPower => endTransfer .awaitReady c .lowPower f.held s

/-- A READY: the Roster learns its version (R72), and the phase decides the rest. -/
def readyReceived (f : ReadyFrame) (rssi : Int) (s : State) : State :=
  let t := rosterHeard f.label (some f.held) rssi s
  match t.dialogue with
  | .transferring .awaitReady c =>
    if f.label = c.label ∧ f.station = t.config.identity.station then readyAwaited f c t
    else readyOverheard f t
  | _ => readyOverheard f t

/-- The FRAG ACK that AWAIT_ACK awaits (R90): the next fragment is sent, or after the last the DONE wait
begins. -/
def ackAwaited (c : TransferContext) (s : State) : State :=
  if c.fragment < fragmentCount c.face then sendFragment { c with fragment := c.fragment + 1 } false s
  else { s with dialogue := .transferring .awaitDone { c with wait := some (newWait 10000) } }

/-- A FRAG ACK; every one but the awaited one reaches no block (R88, R90, R95, R113). -/
def fragAckReceived (f : FragAckFrame) (s : State) : State :=
  match s.dialogue with
  | .transferring .awaitAck c =>
    if f.label = c.label ∧ f.station = s.config.identity.station ∧ f.index.toNat = c.fragment then
      ackAwaited c s
    else unawaited s
  | _ => unawaited s

/-- A DONE or REFUSE ends a transfer in this phase: AWAIT_DONE, or AWAIT_ACK of the last fragment (R90,
R92). -/
def endingPhase (p : Phase) (c : TransferContext) : Bool :=
  match p with
  | .awaitDone => true
  | .awaitAck => c.fragment == fragmentCount c.face
  | .awaitReady | .sending _ => false

/-- The transfer that a DONE or REFUSE from a label naming a station ends, with its phase. -/
def State.endedBy (s : State) (label : LabelAddr) (station : StationNo) : Option (Phase × TransferContext) :=
  match s.dialogue with
  | .transferring p c =>
    if label = c.label ∧ station = s.config.identity.station ∧ endingPhase p c = true then some (p, c)
    else none
  | _ => none

/-- The book's part of a DONE outside the transfer it ends (R49, R95, R112). The label of the transfer in
flight reaches the Roster only (R88). -/
def doneOverheard (f : DoneFrame) (s : State) : State :=
  unawaited (if s.inTransferWith f.label then s
    else if f.station = s.config.identity.station then
      joinTally (f.label, f.held) (confirm f.label f.held .delivered s.own s)
    else confirm f.label f.held .peerDelivered (.station f.station) s)

/-- A DONE: the Roster learns its version, and it ends the own transfer or is overheard (R92, R112). -/
def doneReceived (f : DoneFrame) (rssi : Int) (s : State) : State :=
  let t := rosterHeard f.label (some f.held) rssi s
  match t.endedBy f.label f.station with
  | some (p, c) => joinTally (c.label, c.target) (endTransfer p c .done f.held t)
  | none => doneOverheard f t

/-- Fault 204 of a transfer (R92, R145). -/
def latchBadFace (c : TransferContext) (group : GroupNo) (s : State) : State := latch .d204 c.label 0 group s

/-- The last group of the entry in a slot. -/
def groupAt (slot : Nat) (s : State) : GroupNo := ((s.entryAt slot).map (fun e => e.lastGroup)).getD 0

/-- A transfer ends with BAD_FACE (R92). The Engine's fault 204 and the book's 203 are taken in either order
(R148). DESIGN CHOICE: in both orders 204 carries the entry's last group as it stood before the book took the
outcome; R92 and R145 say 'the entry's last group', and do not say which where the same REFUSE chains or
promotes a successor part of another group, or frees the entry (notes/assumptions/25.md). -/
def endBadFace (p : Phase) (c : TransferContext) (s : State) : State :=
  let g := groupAt c.slot s
  eitherOrder (endTransfer p c .badFace 0 (latchBadFace c g s))
    (latchBadFace c g (endTransfer p c .badFace 0 s))

/-- A REFUSE: it ends the own transfer, or only the Roster hears it (R92, R95, R113). -/
def refuseReceived (f : RefuseFrame) (rssi : Int) (s : State) : State :=
  let t := rosterHeard f.label none rssi s
  match t.endedBy f.label f.station with
  | some (p, c) => endBadFace p c t
  | none => unawaited t

/-! ### The frames of peers (R110, R113, R120) -/

/-- An OFFER from a peer yields the label's entry (R52, R110). -/
def offerReceived (f : OfferFrame) (s : State) : State := unawaited (yieldLabel f.label s)

/-- One pair of a peer's TALLY (R120): the Roster learns a newer version, and the book takes a
confirmation, unless the label is the one in transfer. A pair of an invalid address is skipped (R104). -/
def tallyPair (sender : StationNo) (p : LabelAddr × Version) (s : State) : State :=
  if validLabel p.1 then
    let t := rosterTally p.1 p.2 s
    if t.inTransferWith p.1 then t else confirm p.1 p.2 .peerDelivered (.station sender) t
  else s

/-- A TALLY from a peer, pair by pair (R120). -/
def tallyReceived (f : TallyFrame) (s : State) : State :=
  unawaited (f.pairs.foldl (fun t p => tallyPair f.sender p t) s)

/-! ### A frame's end (R81, R104) -/

/-- A decoded frame is handled by its kind (R113). -/
def handleFrame (f : AirFrame) (rssi : Int) (s : State) : State :=
  match f with
  | .call f => callReceived f rssi s
  | .offer f => offerReceived f s
  | .ready f => readyReceived f rssi s
  | .frag _ => unawaited s
  | .fragAck f => fragAckReceived f s
  | .done f => doneReceived f rssi s
  | .refuse f => refuseReceived f rssi s
  | .tally f => tallyReceived f s

/-- A frame on the own channel, of the own site and with a good frame check, ends: lost when the station
cannot hear (R80, R81), handled when it passes the remaining checks of R104, and otherwise discarded. -/
def frameEnds (f : AirFrame) (rssi : Int) (s : State) : State :=
  if s.canHear then
    settle (if f.admissible s.config.identity.station then handleFrame f rssi (frameHeard s)
      else unawaited (frameHeard s))
  else frameLost s

/-- The bytes of a received frame are put through R104: a frame that fails is discarded. -/
def bytesEnd (bytes : List Byte) (rssi : Int) (s : State) : State :=
  match receive s.config.identity.station s.config.identity.site bytes with
  | some f => frameEnds f rssi s
  | none => if s.canHear then settle (unawaited (frameHeard s)) else frameLost s

/-! ### Offers, fragments and tallies sent (R85, R86, R89, R118) -/

/-- The commit conditions of a standoff (R85), with the entry to be offered. -/
def commitEntry (c : TransferContext) (s : State) : Option Entry :=
  match s.entryAt c.slot with
  | some e =>
    if s.opState = .run ∧ e.state = .waiting ∧ e.label = c.label ∧ c.touched = false ∧
        covers (offerNeed c.lane (estimateOf c.face) s) s = true then some e
    else none
  | none => none

/-- The OFFER commit (R86). -/
def commitOffer (c : TransferContext) (e : Entry) (s : State) : State :=
  let t := (deduct (estimateOf c.face) s).setEntry { e with state := .inTransfer }
  beginSending (offerFrame t c) { t with dialogue := .transferring .awaitReady { c with covered := 0 } }

/-- The end of a standoff's delay (R85). -/
def standoffEnds (c : TransferContext) (s : State) : State :=
  match commitEntry c s with
  | some e => commitOffer c e s
  | none => { s with dialogue := .listening }

/-- The TALLY of the oldest pairs (R118), with its informative fields (R177). -/
def tallyFrame (s : State) (pairs : List (LabelAddr × Version)) : AirFrame :=
  .tally
    { sender := s.config.identity.station, clock := s.clock
      pairsLeft := BitVec.ofNat 8 (s.tally.length - pairs.length)
      cause := BitVec.ofNat 8 s.tallyCause
      freeSlots := BitVec.ofNat 16 s.freeSlots
      pairs := pairs }

/-- The end of a quiet wait (R118): covered, the TALLY of the oldest pairs is begun; otherwise the wait
begins again in full. -/
def quietWaitEnds (s : State) : State :=
  let pairs := s.tally.take 16
  if covers (tallyAirtime pairs.length) s then
    beginSending (tallyFrame s pairs)
      { deduct (tallyAirtime pairs.length) s with dialogue := .tallying pairs.length, quietWait := none }
  else s

end Sys2Proof.Machine
end

