-- ==== Sys2Proof/Machine/Air.lean ====
section
/-! DEFINITION. The commands of the air (chapters 5 and 6). A command whose event cannot occur in the
Engine's state (a READY_WAIT_EXPIRY with no READY wait, ...) changes nothing. -/

namespace Sys2Proof.Machine

/-- AIR_FRAME_DISCARDED: a received frame that fails a check of R104 ends; no block receives it. -/
def execAirFrameDiscarded (bytes : List Byte) (rssi : Int) (s : State) :
    Host.Outcome State Fault Refusal :=
  .next (bytesEnd bytes rssi s)

/-- A frame start falls within the wait in progress (R81). -/
def meetWait (d : Dialogue) : Dialogue :=
  match d with
  | .transferring p c => .transferring p { c with wait := c.wait.map (fun w => { w with met := true }) }
  | _ => d

/-- FRAME_START: the synchronisation of an incoming frame is detected (R81). -/
def execFrameStart (s : State) : Host.Outcome State Fault Refusal :=
  if s.canHear then .next { s with dialogue := meetWait s.dialogue } else .next s

/-- CARRIER_SENSED: radio energy has been present for 40 µs (R105, R107, R117). While the station transmits it
is not sensed and is only counted; in STARTING nothing is sensed. -/
def execCarrierSensed (s : State) : Host.Outcome State Fault Refusal :=
  if s.opState = .starting then .next s
  else .next (settleQuiet { standDown s with carriers := s.carriers + 1 })

/-- CARRIER_END: carrier ends, and an eligible TALLY's quiet wait begins in full when none is left (R105,
R117). -/
def execCarrierEnd (s : State) : Host.Outcome State Fault Refusal :=
  if s.opState = .starting then .next s else .next (settleQuiet (carrierEnds s))

/-- CALL: a decoded CALL (R82). -/
def execCall (frame : CallFrame) (rssi : Int) (s : State) : Host.Outcome State Fault Refusal :=
  .next (frameEnds (.call frame) rssi s)

/-- STANDOFF_END: the standoff delay ends without carrier (R85). -/
def execStandoffEnd (s : State) : Host.Outcome State Fault Refusal :=
  match s.dialogue with
  | .standingOff c => .next (settleQuiet (standoffEnds c s))
  | _ => .next s

/-- OFFER_SENT: the OFFER has been sent, and the READY wait of 5 ms begins (R86). -/
def execOfferSent (s : State) : Host.Outcome State Fault Refusal :=
  match s.dialogue, s.transmitting with
  | .transferring .awaitReady c, some _ =>
    .next { s with
      transmitting := none
      dialogue := .transferring .awaitReady
        { c with covered := c.covered + offerAirtime, wait := some (newWait 5000) } }
  | _, _ => .next s

/-- READY: a decoded READY (R87, R88, R95, R111). -/
def execReady (frame : ReadyFrame) (rssi : Int) (s : State) : Host.Outcome State Fault Refusal :=
  .next (frameEnds (.ready frame) rssi s)

/-- READY_WAIT_EXPIRY: the deadline of the READY wait (R81, R87). -/
def execReadyWaitExpiry (s : State) : Host.Outcome State Fault Refusal :=
  match s.dialogue with
  | .transferring .awaitReady c => .next (settle (deadline .awaitReady c s))
  | _ => .next s

/-- FRAG_SENT: a FRAG has been sent, and the wait of 4 ms begins; the airtime of a first sending is counted
as covered, and its re-sends used are 0 (R89). -/
def execFragSent (s : State) : Host.Outcome State Fault Refusal :=
  match s.dialogue with
  | .transferring (.sending resend) c =>
    .next { s with
      transmitting := none
      dialogue := .transferring .awaitAck
        { c with
          covered := if resend then c.covered else c.covered + c.fragmentTime
          resends := if resend then c.resends else 0
          wait := some (newWait 4000) } }
  | _ => .next s

/-- FRAG_ACK: a decoded FRAG ACK (R88, R90). -/
def execFragAck (frame : FragAckFrame) (s : State) : Host.Outcome State Fault Refusal :=
  .next (frameEnds (.fragAck frame) 0 s)

/-- ACK_WAIT_EXPIRY: the deadline of a FRAG ACK wait (R81, R91). -/
def execAckWaitExpiry (s : State) : Host.Outcome State Fault Refusal :=
  match s.dialogue with
  | .transferring .awaitAck c => .next (settle (deadline .awaitAck c s))
  | _ => .next s

/-- DONE: a decoded DONE (R90, R92, R95, R112). -/
def execDone (frame : DoneFrame) (rssi : Int) (s : State) : Host.Outcome State Fault Refusal :=
  .next (frameEnds (.done frame) rssi s)

/-- DONE_WAIT_EXPIRY: the deadline of the DONE wait (R81, R92). -/
def execDoneWaitExpiry (s : State) : Host.Outcome State Fault Refusal :=
  match s.dialogue with
  | .transferring .awaitDone c => .next (settle (deadline .awaitDone c s))
  | _ => .next s

/-- REFUSE: a decoded REFUSE (R90, R92, R95, R113). -/
def execRefuse (frame : RefuseFrame) (rssi : Int) (s : State) : Host.Outcome State Fault Refusal :=
  .next (frameEnds (.refuse frame) rssi s)

/-- PEER_OFFER: a decoded OFFER from a peer (R52, R110). -/
def execPeerOffer (frame : OfferFrame) (s : State) : Host.Outcome State Fault Refusal :=
  .next (frameEnds (.offer frame) 0 s)

/-- PEER_FRAG: a decoded FRAG from a peer reaches no block (R113). -/
def execPeerFrag (frame : FragFrame) (s : State) : Host.Outcome State Fault Refusal :=
  .next (frameEnds (.frag frame) 0 s)

/-- PEER_TALLY: a decoded TALLY from a peer (R120). -/
def execPeerTally (frame : TallyFrame) (s : State) : Host.Outcome State Fault Refusal :=
  .next (frameEnds (.tally frame) 0 s)

/-- QUIET_WAIT_END: the quiet wait of an eligible TALLY ends with no carrier sensed (R118). -/
def execQuietWaitEnd (s : State) : Host.Outcome State Fault Refusal :=
  match s.quietWait with
  | some _ => .next (quietWaitEnds s)
  | none => .next s

/-- TALLY_SENT: a TALLY has been sent whole (R118). -/
def execTallySent (s : State) : Host.Outcome State Fault Refusal :=
  match s.dialogue with
  | .tallying n =>
    .next (settleQuiet (toListening { s with tally := s.tally.drop n, tallyCount := 0 }))
  | _ => .next s

end Sys2Proof.Machine
end

