-- ==== Sys2Proof/Machine/Records.lean ====
section
/-! DEFINITION. The body of a RECORD request (12.3.1) and the checks of R25, in their order. -/

namespace Sys2Proof.Machine

/-- An item as its bytes give it, before any check of its values; `unknown` is an item whose tag is none
of the six, which runs to the end of the body (R178). -/
inductive RawItem where
  | price (ticket kind value modulus ending floor : Nat)
  | unit (quantity basis code : Nat)
  | badge (code : Nat)
  | stock (code : Nat)
  | ends (day : Nat)
  | locate (minutes : Nat)
  | unknown
deriving DecidableEq, Repr, Inhabited

/-- The contents length of a tag (12.3.1). -/
def contentsLength : Nat → Option Nat
  | 1 => some 17
  | 2 => some 9
  | 3 => some 1
  | 4 => some 1
  | 5 => some 2
  | 6 => some 1
  | _ => none

/-- The item of a known tag and its contents. -/
def rawItem (tag : Nat) (c : List Byte) : RawItem :=
  match tag with
  | 1 => .price (numAt c 0 4) (numAt c 4 1) (numAt c 5 4) (numAt c 9 2) (numAt c 11 2) (numAt c 13 4)
  | 2 => .unit (numAt c 0 4) (numAt c 4 4) (numAt c 8 1)
  | 3 => .badge (numAt c 0 1)
  | 4 => .stock (numAt c 0 1)
  | 5 => .ends (numAt c 0 2)
  | 6 => .locate (numAt c 0 1)
  | _ => .unknown

/-- `n` items that take exactly the bytes given; an unknown tag takes all that is left. -/
def readItems : Nat → List Byte → Option (List RawItem)
  | 0, [] => some []
  | 0, _ :: _ => none
  | _ + 1, [] => none
  | n + 1, tag :: rest =>
    match contentsLength tag.toNat with
    | none => some [.unknown]
    | some len =>
      if rest.length < len then none
      else (readItems n (rest.drop len)).map (fun is => rawItem tag.toNat (rest.take len) :: is)

/-- The kind of an item as a number; an unknown item has none. -/
def RawItem.tag : RawItem → Option Nat
  | .price .. => some 1
  | .unit .. => some 2
  | .badge _ => some 3
  | .stock _ => some 4
  | .ends _ => some 5
  | .locate _ => some 6
  | .unknown => none

/-- No kind is repeated (R23). -/
def noRepeat (is : List RawItem) : Bool := decide (is.filterMap RawItem.tag).Nodup

/-- The items of a body that passes check 1: its length agrees with the items it declares, there is at
least one, and no kind is repeated (R25). DESIGN CHOICE: a body that repeats a kind before an item of an unknown tag
fails check 1 by the repeated kind (R23), although R178 has a body with an unknown tag pass it
(notes/assumptions/27.md). -/
def bodyItems (body : List Byte) : Option (List RawItem) :=
  if body.length < 10 ∨ numAt body 9 1 = 0 then none
  else
    match readItems (numAt body 9 1) (body.drop 10) with
    | some is => if noRepeat is then some is else none
    | none => none

/-- Check 2's question (R25). -/
def RawItem.isUnknown : RawItem → Bool
  | .unknown => true
  | _ => false

/-- Check 3 for an item: its enumerations lie within their sets. -/
def RawItem.codesGood : RawItem → Bool
  | .price _ kind _ _ _ _ => decide (kind ≤ 3)
  | .unit _ _ code => (UnitCode.ofNat? code).isSome
  | .badge code => (Badge.ofNat? code).isSome
  | .stock code => (StockMark.ofNat? code).isSome
  | .ends _ | .locate _ | .unknown => true

/-- The item's kind is in the mask (R24). -/
def RawItem.inMask (m : ItemSet) : RawItem → Bool
  | .price .. => m.price
  | .unit .. => m.unit
  | .badge _ => m.badge
  | .stock _ => m.stock
  | .ends _ => m.ends
  | .locate _ => m.locate
  | .unknown => false

/-- The ending rule's values are good: modulus 10, 100 or 1,000 with 0 ≤ e < m, or none at all (R25,
R178). -/
def endingGood (modulus ending : Nat) : Bool :=
  if modulus = 0 then decide (ending = 0)
  else decide (modulus = 10 ∨ modulus = 100 ∨ modulus = 1000) && decide (ending < modulus)

/-- A money value 1..9,999,999 (6.2). -/
def moneyGood (x : Nat) : Bool := decide (1 ≤ x) && decide (x ≤ 9999999)

/-- The markdown value's refusal: AMOUNT and SET values out of range, a PERCENT rate above 1,000. -/
def markdownFault (kind value : Nat) : Option Detail :=
  match kind with
  | 1 => if value ≤ 1000 then none else some .d118
  | 2 => if value ≤ 9999999 then none else some .d112
  | 3 => if moneyGood value then none else some .d112
  | _ => none

/-- Check 7 for an item, in the order ticket price, markdown value, ending rule, floor (R25). -/
def RawItem.rangeFault : RawItem → Option Detail
  | .price ticket kind value modulus ending floor =>
    if !moneyGood ticket then some .d112
    else
      match markdownFault kind value with
      | some d => some d
      | none =>
        if !endingGood modulus ending then some .d114
        else if ticket < floor then some .d113
        else none
  | .unit quantity basis _ =>
    if 1 ≤ quantity ∧ quantity ≤ 999999 ∧ 1 ≤ basis ∧ basis ≤ 100000 then none else some .d117
  | .locate minutes => if minutes ≤ 240 then none else some .d117
  | .badge _ | .stock _ | .ends _ | .unknown => none

/-- Check 7 over the items that remain after the mask, taken kind by kind in the order PRICE, UNIT, BADGE,
STOCK, ENDS, LOCATE (R25). -/
def rangeFaultOf (is : List RawItem) : Option Detail :=
  [1, 2, 3, 4, 5, 6].findSome? (fun t =>
    (is.find? (fun i => i.tag == some t)).bind RawItem.rangeFault)

/-- A markdown kind with its value; a value sent with NONE has no effect (R2). -/
def markdownOf (kind value : Nat) : Markdown :=
  match kind with
  | 1 => .percent value
  | 2 => .amount value
  | 3 => .set value
  | _ => .none

/-- The items with one more item added. -/
def addItem (items : Items) : RawItem → Items
  | .price ticket kind value modulus ending floor =>
    { items with
      price := some ⟨ticket, markdownOf kind value, if modulus = 0 then none else some ⟨modulus, ending⟩, floor⟩ }
  | .unit quantity basis code =>
    { items with unit := (UnitCode.ofNat? code).map (fun c => ⟨quantity, basis, c⟩) }
  | .badge code => { items with badge := Badge.ofNat? code }
  | .stock code => { items with stock := StockMark.ofNat? code }
  | .ends day => { items with ends := some day }
  | .locate minutes => { items with locate := some minutes }
  | .unknown => items

/-- The fixed fields of a body of at least ten bytes. -/
structure RecordHead where
  source : Nat
  label : LabelAddr
  baseKind : Nat
  base : Base
  target : Version
deriving DecidableEq, Repr, Inhabited

/-- The fixed fields: source 1, label address 3, base kind 1, base 2, target 2 (12.3.1). -/
def recordHead (body : List Byte) : RecordHead where
  source := numAt body 0 1
  label := BitVec.ofNat 24 (numAt body 1 3)
  baseKind := numAt body 4 1
  base := if numAt body 4 1 = 1 then .any else .version (BitVec.ofNat 16 (numAt body 5 2))
  target := BitVec.ofNat 16 (numAt body 7 2)

/-- Check 5: the base is ANY, or the target is newer than the base (R25). -/
def targetGood (base : Base) (target : Version) : Bool :=
  match base with
  | .any => true
  | .version b => newer target b

/-- The outcome of the checks of R25: the first that fails names the refusal's detail. -/
inductive RecordCheck where
  | refused (d : Detail)
  | accepted (r : GatheredRecord)
deriving DecidableEq, Repr

/-- The checks of R25, in order, against the source masks in force. -/
def checkRecord (masks : Vector ItemSet 8) (body : List Byte) : RecordCheck :=
  match bodyItems body with
  | none => .refused .d101
  | some is =>
    let h := recordHead body
    if is.any RawItem.isUnknown then .refused .d102
    else if hs : h.source < 8 then
      if !(decide (h.baseKind ≤ 1) && is.all RawItem.codesGood) then .refused .d103
      else if !validLabel h.label then .refused .d111
      else if !targetGood h.base h.target then .refused .d115
      else
        let kept := is.filter (RawItem.inMask masks[h.source])
        if kept.isEmpty then .refused .d116
        else
          match rangeFaultOf kept with
          | some d => .refused d
          | none =>
            .accepted
              { source := ⟨h.source, hs⟩
                label := h.label
                base := h.base
                target := h.target
                items := kept.foldl addItem {}
                masked := decide (kept.length < is.length) }
    else .refused .d103

/-- The source a refused RECORD gives the first-fault log: as received, or 0 when the body is empty
(R26). -/
def refusedSource (body : List Byte) : Byte := body.headD 0

/-- The label address a refused RECORD gives the first-fault log: as received, or 0 when the body is
shorter than source and address (R26). -/
def refusedLabel (body : List Byte) : LabelAddr :=
  if body.length < 4 then 0 else BitVec.ofNat 24 (numAt body 1 3)

end Sys2Proof.Machine
end

