-- ==== Sys2Proof/Machine/Fold.lean ====
section
/-! DEFINITION. The fold of a closed group into the Change Book (2.4): the check pass over a view of the
book, the room test, and the application. -/

namespace Sys2Proof.Machine

/-- A label classified NEW as the view holds it (R36). -/
structure FreshEntry where
  label : LabelAddr
  base : Base
  target : Version
  items : Items
  masked : Bool
deriving DecidableEq, Repr, Inhabited

/-- The simulated view of the book (R34): the entries with what the records so far have made of them, the
NEW labels in the order of their first record, the labels whose WAITING, HELD or YIELDED entry or whose
successor part a record changed, and those whose entry of the book was replaced, in the order of the
first replacing record. -/
structure FoldView where
  book : List Entry
  fresh : List FreshEntry
  changed : List LabelAddr
  succeeded : List LabelAddr
  replaced : List LabelAddr
deriving DecidableEq, Repr, Inhabited

/-- How a record meets an entry's or a successor's base and target (R35, R37). -/
inductive FoldClass where
  | merge | chain | replace | stale | conflict
deriving DecidableEq, Repr, Inhabited

/-- The five tests of R35, in order. -/
def classify (entryBase : Base) (entryTarget : Version) (base : Base) (target : Version) : FoldClass :=
  if base = entryBase ∧ target = entryTarget then .merge
  else if base = .version entryTarget ∧
      (match entryBase with | .any => true | .version b => newer target b) = true then .chain
  else if (match base with | .any => true | .version b => newer b entryTarget) = true ∧
      atLeast target entryTarget = true then .replace
  else if newer entryTarget target = true then .stale
  else .conflict

/-- The comparison of a record with a successor part (R37). -/
def classifySuccessor (entryTarget : Version) (p : Successor) (base : Base) (target : Version) : FoldClass :=
  if base = .version p.base ∧ target = p.target then .merge
  else if base = .version p.target ∧ newer target entryTarget = true then .chain
  else .conflict

/-- What a record does to the base, target, items and record note it meets; STALE and CONFLICT do
nothing. -/
def applyRecord (c : FoldClass) (r : GatheredRecord) (base : Base) (target : Version) (items : Items)
    (masked : Bool) : Base × Version × Items × Bool :=
  match c with
  | .merge => (base, target, mergeItems items r.items, masked || r.masked)
  | .chain => (base, r.target, mergeItems items r.items, masked || r.masked)
  | .replace => (r.base, r.target, r.items, r.masked)
  | .stale | .conflict => (base, target, items, masked)

/-- Why a check pass stops at a record (R39). -/
inductive FoldStop where
  | stale | conflict | busy
deriving DecidableEq, Repr, Inhabited

/-- The outcome of the check pass: the view at its end, or the stop with the record and its position. -/
inductive FoldResult where
  | stopped (why : FoldStop) (r : GatheredRecord) (position : Nat)
  | done (v : FoldView)
deriving DecidableEq, Repr

/-- A list with a member added once, at its end. -/
def addOnce (l : LabelAddr) (ls : List LabelAddr) : List LabelAddr := if l ∈ ls then ls else ls ++ [l]

/-- A class that stops the pass, or the view it gives. -/
def stopOr (c : FoldClass) (v : FoldView) : Except FoldStop FoldView :=
  match c with
  | .stale => .error .stale
  | .conflict => .error .conflict
  | .merge | .chain | .replace => .ok v

/-- A record on a NEW label's entry in the view (R36). -/
def foldFresh (r : GatheredRecord) (n : FreshEntry) (v : FoldView) : Except FoldStop FoldView :=
  let c := classify n.base n.target r.base r.target
  let (b, t, i, m) := applyRecord c r n.base n.target n.items n.masked
  stopOr c { v with fresh := v.fresh.map (fun x => if x.label = r.label then ⟨r.label, b, t, i, m⟩ else x) }

/-- A record on a WAITING, HELD or YIELDED entry of the book (R35). -/
def foldOpen (r : GatheredRecord) (e : Entry) (v : FoldView) : Except FoldStop FoldView :=
  let c := classify e.base e.target r.base r.target
  let (b, t, i, m) := applyRecord c r e.base e.target e.items e.notes.masked
  stopOr c { v with
    book := putEntry { e with base := b, target := t, items := i, notes := { e.notes with masked := m } } v.book
    changed := addOnce r.label v.changed
    replaced := if c = .replace then addOnce r.label v.replaced else v.replaced }

/-- The view with an entry's successor part set, from a record of group `g` (R42). -/
def withSuccessor (g : OpenGroup) (r : GatheredRecord) (e : Entry) (base target : Version) (items : Items)
    (masked : Bool) (v : FoldView) : FoldView :=
  { v with
    book := putEntry
      { e with successor := some ⟨base, target, items, g.effective, g.cls, g.number, masked⟩ } v.book
    succeeded := addOnce r.label v.succeeded }

/-- A record on an entry that is IN_TRANSFER or CLOSING (R37). -/
def foldBusy (g : OpenGroup) (r : GatheredRecord) (e : Entry) (v : FoldView) : Except FoldStop FoldView :=
  match e.successor with
  | none =>
    if r.base = .version e.target then .ok (withSuccessor g r e e.target r.target r.items r.masked v)
    else if e.isClosing then .error .stale
    else .error .busy
  | some p =>
    let c := classifySuccessor e.target p r.base r.target
    let (_, t, i, m) := applyRecord c r (.version p.base) p.target p.items p.masked
    stopOr c (withSuccessor g r e p.base t i m v)

/-- One record classified against the view and applied to it (R34). -/
def foldRecord (g : OpenGroup) (r : GatheredRecord) (v : FoldView) : Except FoldStop FoldView :=
  match v.book.find? (fun e => e.label == r.label) with
  | some e => if e.isOpen then foldOpen r e v else foldBusy g r e v
  | none =>
    match v.fresh.find? (fun n => n.label == r.label) with
    | some n => foldFresh r n v
    | none => .ok { v with fresh := v.fresh ++ [⟨r.label, r.base, r.target, r.items, r.masked⟩] }

/-- The check pass over the records from a position on (R34). -/
def checkPass (g : OpenGroup) : List GatheredRecord → Nat → FoldView → FoldResult
  | [], _, v => .done v
  | r :: rs, position, v =>
    match foldRecord g r v with
    | .ok w => checkPass g rs (position + 1) w
    | .error why => .stopped why r position

/-- The view as the book stands when CLOSE GROUP is taken (R34). -/
def startView (s : State) : FoldView := ⟨s.book, [], [], [], []⟩

/-- The room test: as many free slots as labels classified NEW (R38). -/
def roomFor (v : FoldView) (s : State) : Bool := decide (v.fresh.length ≤ s.freeSlots)

/-! ### The application (R40 to R43) -/

/-- The SUPERSEDED report of an entry as it stood in the book (R43). -/
def supersededReport (s : State) (t : State) (l : LabelAddr) : State :=
  match s.entryOf l with
  | some e => eventReport (ownReport .superseded e s) t
  | none => t

/-- What a touched entry takes from the group (R41), before its re-check for fit. -/
def touch (g : OpenGroup) (c : StationConfig) (clock : StoreTime) (e : Entry) : Entry :=
  evaluate c clock <| recompute
    { e with
      state := .waiting, effective := g.effective, cls := g.cls, lastGroup := g.number, attempts := 0 }

/-- A new entry in a slot (R36, R41). -/
def freshEntry (g : OpenGroup) (s : State) (slot : Nat) (n : FreshEntry) : Entry :=
  touch g s.config s.clock
    { slot := slot, label := n.label, state := .waiting, lane := .night, late := false
      base := n.base, target := n.target, effective := g.effective, cls := g.cls
      lastGroup := g.number, items := n.items, face := {}, notes := { masked := n.masked }
      attempts := 0, limit := limitFor s n.label, lastOutcome := none, successor := none }

/-- The book with every new entry in the lowest-numbered slot free at its moment (R40). -/
def placeFresh (g : OpenGroup) (s : State) (ns : List FreshEntry) (book : List Entry) : List Entry :=
  ns.foldl (fun b n => insertEntry (freshEntry g s (lowestFree b) n) b) book

/-- What follows the application for one touched entry: its LATE report, then, for an entry that was
HELD, the re-check against the Roster's model, and so of one entry 205 before 201 (R41, R51). `s` is the state
before the fold. DEDUCED (notes/assumptions/16.md): an entry that was not HELD is not re-checked. -/
def afterTouch (s : State) (t : State) (e : Entry) : State :=
  let was := s.entryOf e.label
  let t := noteLate (was.any (fun o => o.late)) e t
  if was.any (fun o => o.state == .held) then
    match t.recordOf e.label with
    | some r => refit r.model e t
    | none => t
  else t

/-- A standoff remembers that a fold has touched the entry it would offer (R85). -/
def markTouched (touched : List LabelAddr) (d : Dialogue) : Dialogue :=
  match d with
  | .standingOff c => if c.label ∈ touched then .standingOff { c with touched := true } else d
  | _ => d

/-- The application of the view that a successful check pass left (R40 to R43): the SUPERSEDED reports in
the order of the replacing records, then the entries, then what follows each in order of slot. -/
def applyFold (g : OpenGroup) (v : FoldView) (s : State) : State :=
  let touched := v.changed ++ v.fresh.map (fun n => n.label)
  let book := placeFresh g s v.fresh
    (v.book.map (fun e => if e.label ∈ v.changed then touch g s.config s.clock e else e))
  let t := v.replaced.foldl (supersededReport s) s
  let t := { t with book := book, dialogue := markTouched touched s.dialogue }
  (book.filter (fun e => e.label ∈ touched)).foldl (afterTouch s) t

/-- The four counts of the OK response (R40): a label counts once, a new entry as created, an entry of the
book that was replaced as a replacement. -/
def foldCounts (v : FoldView) : ResponseBody :=
  .foldCounts v.fresh.length (v.changed.length - v.replaced.length) v.succeeded.length v.replaced.length

end Sys2Proof.Machine
end

