-- ==== Sys2Proof/Machine/Gatherer.lean ====
section
/-! DEFINITION. The Record Gatherer's requests (2.2): OPEN GROUP, RECORD, CLOSE GROUP, ABORT GROUP, and
the idle timer. Each request gives the state after it and the answer. -/

namespace Sys2Proof.Machine

/-- An answer with no body. -/
def plain (st : Status) : Answer := ⟨st, .none⟩

/-- The answer to a request that met a fault, which has been latched (R165). -/
def refusal (d : Detail) : Answer := ⟨.refused, .refused d⟩

/-- The idle timer of an open group restarts at 60 (R29). -/
def restartIdle (s : State) : State :=
  { s with group := s.group.map (fun g => { g with idle := 60 }) }

/-- The group and its gathering area are discarded, and the idle timer stops. -/
def closeTheGroup (s : State) : State := { s with group := none }

/-- The open group's number, or 0 with no group open (R145). -/
def State.groupNumber (s : State) : GroupNo := (s.group.map (fun g => g.number)).getD 0

/-- A fault of the Gatherer, answered REFUSED (R26, R151). -/
def gathererRefuses (d : Detail) (label : LabelAddr) (source : Byte) (group : GroupNo) (s : State) :
    State × Answer :=
  (settle (latch d label source group s), refusal d)

/-- OPEN GROUP (R27). -/
def openGroupAct (number : GroupNo) (effective : StoreTime) (cls : Byte) (s : State) : State × Answer :=
  match s.group with
  | some g => gathererRefuses .d121 0 0 g.number (restartIdle s)
  | none =>
    if h : cls.toNat < 8 then
      if number = 0 then gathererRefuses .d103 0 0 number s
      else ({ s with group := some ⟨number, effective, ⟨cls.toNat, h⟩, 60, []⟩ }, plain .ok)
    else gathererRefuses .d103 0 0 number s

/-- RECORD (R25, R26, R28). -/
def recordAct (body : List Byte) (s : State) : State × Answer :=
  match s.group with
  | none => gathererRefuses .d122 0 0 0 s
  | some g =>
    if 512 ≤ g.gathered.length then
      gathererRefuses .d125 (refusedLabel body) (refusedSource body) g.number (restartIdle s)
    else
      match checkRecord s.config.sources.masks body with
      | .refused d => gathererRefuses d (refusedLabel body) (refusedSource body) g.number (restartIdle s)
      | .accepted r =>
        ({ s with group := some { g with gathered := g.gathered ++ [r], idle := 60 } },
          ⟨.ok, .recordCount (g.gathered.length + 1)⟩)

/-- The fold of a group whose number and count have matched, and its outcome (R39). -/
def foldGroup (g : OpenGroup) (s : State) : State × Answer :=
  match checkPass g g.gathered 1 (startView s) with
  | .stopped .stale r _ =>
    gathererRefuses .d132 r.label (BitVec.ofNat 8 r.source.val) g.number (closeTheGroup s)
  | .stopped .conflict r _ =>
    gathererRefuses .d133 r.label (BitVec.ofNat 8 r.source.val) g.number (closeTheGroup s)
  | .stopped .busy _ position => (restartIdle s, ⟨.busy, .busyAt position⟩)
  | .done v =>
    if roomFor v s then (settle (applyFold g v (closeTheGroup s)), ⟨.ok, foldCounts v⟩)
    else gathererRefuses .d131 0 0 g.number (restartIdle s)

/-- CLOSE GROUP (R31). -/
def closeGroupAct (number : GroupNo) (count : BitVec 16) (s : State) : State × Answer :=
  match s.group with
  | none => gathererRefuses .d123 0 0 0 s
  | some g =>
    if g.number ≠ number then gathererRefuses .d127 0 0 g.number (restartIdle s)
    else if g.gathered.length ≠ count.toNat then gathererRefuses .d124 0 0 g.number (closeTheGroup s)
    else foldGroup g s

/-- ABORT GROUP (R30). -/
def abortGroupAct (s : State) : State × Answer :=
  match s.group with
  | some _ => (closeTheGroup s, plain .ok)
  | none => (s, plain .wrongState)

/-- The idle timer has reached 0 (R29): the group is discarded and fault 126 latched. -/
def expireGroup (s : State) : State :=
  match s.group with
  | some g => latch .d126 0 0 g.number (closeTheGroup s)
  | none => s

/-- The idle timer falls by one at a clock second, and ends the group when it reaches 0 (R29). -/
def idleSecond (s : State) : State :=
  match s.group with
  | some g => if g.idle ≤ 1 then expireGroup s else { s with group := some { g with idle := g.idle - 1 } }
  | none => s

end Sys2Proof.Machine
end

