-- ==== Sys2Proof/Machine/Control.lean ====
section
/-! DEFINITION. The requests of Station Control, the Station Clock, the FRU, the Change Book and the Label
Roster (chapters 3, 4, 8, 9): each gives the state after it and the answer. -/

namespace Sys2Proof.Machine

/-! ### Station Control (8.3) -/

/-- An answer that carries the operating state after the request (8.3, R165). -/
def stateAnswer (st : Status) (s : State) : Answer := ⟨st, .opState s.opState⟩

/-- A move to another operating state, answered OK. -/
def moveTo (o : OpState) (s : State) : State × Answer :=
  let s := settleQuiet { s with opState := o }
  (s, stateAnswer .ok s)

/-- START (R137). -/
def startAct (s : State) : State × Answer :=
  if s.opState ≠ .idle then (s, ⟨.wrongState, .opStateReason s.opState .state⟩)
  else if s.clockSet = false then (s, ⟨.wrongState, .opStateReason s.opState .clockUnset⟩)
  else if s.config.identity.station = 0 then (s, ⟨.wrongState, .opStateReason s.opState .unnumbered⟩)
  else moveTo .run s

/-- PAUSE (R138). -/
def pauseAct (s : State) : State × Answer :=
  if s.opState = .run then moveTo .paused s else (s, stateAnswer .wrongState s)

/-- RESUME (R138). -/
def resumeAct (s : State) : State × Answer :=
  if s.opState = .paused then moveTo .run s else (s, stateAnswer .wrongState s)

/-- STOP (R139). -/
def stopAct (s : State) : State × Answer :=
  if s.opState = .run ∨ s.opState = .paused then moveTo .idle s else (s, stateAnswer .wrongState s)

/-- CLEAR FAULTS (R140, R150). -/
def clearFaultsAct (s : State) : State × Answer :=
  let s := { s with
    latched := noKinds
    firstFault := none
    opState := if s.opState = .halted then .idle else s.opState }
  (s, stateAnswer .ok s)

/-! ### The Station Clock (8.1) -/

/-- The clock set to a new value (R134): the yields move with it, and every entry not CLOSING is evaluated, with
the LATE reports and the faults 205 of R64 in order of slot (R148). DEDUCED: R134's 'SET TIME latches no fault in
any case' is the Station Clock's own part, which has no fault; the faults 205 are the book's, and section 8 of
spec/00_scope.md leaves them to the chapters of the book and the FRU (notes/assumptions/22.md). -/
def setClock (value : StoreTime) (s : State) : State :=
  evaluateAll { s with
    clock := value
    clockSet := true
    timebase := 0
    book := s.book.map (moveYield (value - s.clock)) }

/-- SET TIME (R134). -/
def setTimeAct (value : StoreTime) (s : State) : State × Answer :=
  (settle (setClock value s), ⟨.ok, .times s.clock value⟩)

/-! ### The FRU (9.3, 9.4) -/

/-- The reports taken, and the book's use of the room made (R155). -/
def takeRoom (k : Nat) (s : State) : State :=
  if k = 0 then s else drainClosing { s with reports := s.reports.drop k }

/-- TAKE REPORTS (R155). -/
def takeReportsAct (n : Byte) (s : State) : State × Answer :=
  let k := min (min n.toNat 16) s.reports.length
  let t := takeRoom k s
  (settle t, ⟨.ok, .reports (s.reports.take k) k t.reports.length t.closing.length⟩)

/-- SET ATTENTION (R157). -/
def setAttentionAct (enable : Byte) (s : State) : State × Answer :=
  let s := { s with enable := FlagSet.ofByte enable }
  (s, ⟨.ok, .attention s.enable s.shownFlags⟩)

/-! ### The Change Book (3.5) -/

/-- READ ENTRY (R67, R178): selector 0 names a label, any other the slot in the last two bytes. -/
def readEntryAct (selector : Byte) (address : LabelAddr) (s : State) : State × Answer :=
  if selector = 0 then
    match s.entryOf address with
    | some e => (s, ⟨.ok, .entry e⟩)
    | none => (s, ⟨.ok, .noEntry address⟩)
  else
    match s.entryAt (address.toNat % 65536) with
    | some e => (s, ⟨.ok, .entry e⟩)
    | none => (s, ⟨.ok, .freeSlot (address.toNat % 65536)⟩)

/-- WITHDRAW (R66). -/
def withdrawAct (label : LabelAddr) (s : State) : State × Answer :=
  match s.entryOf label with
  | none => (s, plain .wrongState)
  | some e =>
    match e.state with
    | .inTransfer => (s, plain .busy)
    | .closing _ => (s, plain .wrongState)
    | .waiting | .held | .yielded _ =>
      if s.hasRoom then ((pushReport (ownReport .withdrawn e s) s).freeSlot e.slot, plain .ok)
      else (s, plain .full)

/-! ### The Label Roster (4.6) -/

/-- READ ROSTER (R78). -/
def readRosterAct (first : BitVec 16) (count : Byte) (s : State) : State × Answer :=
  (s, ⟨.ok, .roster s.roster.length ((rosterSlots first.toNat count.toNat).map (rosterLine s))⟩)

/-! ### STATUS (R167) -/

/-- The dialogue as STATUS shows it. -/
def dialogueView : Dialogue → DialogueView
  | .listening => .listening
  | .standingOff c => .standingOff c.label
  | .transferring p c => .transferring c.label p c.fragment
  | .tallying _ => .tallying

/-- The open group as STATUS shows it. -/
def groupView (g : OpenGroup) : GroupView := ⟨g.number, g.effective, g.cls, g.gathered.length, g.idle⟩

/-- The station status (R167). -/
def statusBody (s : State) : StatusBody where
  opState := s.opState
  lastReset := s.lastReset
  station := s.config.identity.station
  clock := s.clock
  clockSet := s.clockSet
  latched := s.latched
  firstFault := s.firstFault
  flags := s.shownFlags
  enable := s.enable
  queueLength := s.reports.length
  nextSeq := s.nextSeq
  closingLength := s.closing.length
  freeSlots := s.freeSlots
  lateCount := s.lateCount
  occupied := s.roster.length
  budget := s.budget
  dialogue := dialogueView s.dialogue
  tallyPairs := s.tally.length
  tallyCount := s.tallyCount
  group := s.group.map groupView

/-- STATUS (R167). -/
def statusAct (s : State) : State × Answer := (s, ⟨.ok, .status (statusBody s)⟩)

/-! ### RESET PORT (R169) -/

/-- RESET PORT: the frame held behind it and the overrun go, any open group is discarded without a fault,
and the last reset kind is PORT. The head of the holding is the RESET PORT itself. -/
def resetPortAct (s : State) : State × Answer :=
  ({ s with holding := s.holding.take 1, overrun := none, group := none, lastReset := .port }, plain .ok)

end Sys2Proof.Machine
end

