-- ==== Sys2Proof/Machine/Link.lean ====
section
/-! DEFINITION. The Batch Link Interface (chapter 10): request frames and their kinds, the checks of a
taken frame, the holding, the overrun, and the receiver. -/

namespace Sys2Proof.Machine

/-! ### Requests and frames (10.4, R178) -/

/-- What checks 3 and 4 of R164 make of a frame's kind and body. -/
inductive ParsedRequest where
  | unknownKind
  | badLength
  | request (i : Instr)
deriving DecidableEq, Repr

/-- A request of fixed body length, read from a body of that length (R164, check 4). -/
def fixedLength (n : Nat) (body : List Byte) (i : Instr) : ParsedRequest :=
  if body.length = n then .request i else .badLength

/-- The request of a kind byte and a body (R178). -/
def parseRequest (kind : Byte) (body : List Byte) : ParsedRequest :=
  match kind.toNat with
  | 0x01 => fixedLength 0 body .status
  | 0x02 => fixedLength 4 body (.setTime (BitVec.ofNat 32 (numAt body 0 4)))
  | 0x10 =>
    fixedLength 7 body
      (.openGroup (BitVec.ofNat 16 (numAt body 0 2)) (BitVec.ofNat 32 (numAt body 2 4)) (body.getD 6 0))
  | 0x11 => .request (.record body)
  | 0x12 =>
    fixedLength 4 body (.closeGroup (BitVec.ofNat 16 (numAt body 0 2)) (BitVec.ofNat 16 (numAt body 2 2)))
  | 0x13 => fixedLength 0 body .abortGroup
  | 0x20 => fixedLength 0 body .start
  | 0x21 => fixedLength 0 body .pause
  | 0x22 => fixedLength 0 body .resume
  | 0x23 => fixedLength 0 body .stop
  | 0x30 => fixedLength 1 body (.takeReports (body.getD 0 0))
  | 0x31 => fixedLength 4 body (.readEntry (body.getD 0 0) (BitVec.ofNat 24 (numAt body 1 3)))
  | 0x32 => fixedLength 3 body (.readRoster (BitVec.ofNat 16 (numAt body 0 2)) (body.getD 2 0))
  | 0x33 => fixedLength 3 body (.withdraw (BitVec.ofNat 24 (numAt body 0 3)))
  | 0x40 => fixedLength 0 body .clearFaults
  | 0x41 => fixedLength 1 body (.setAttention (body.getD 0 0))
  | 0x42 => fixedLength 0 body .resetPort
  | _ => .unknownKind

/-- A good frame of a kind and a body. -/
def goodFrame (kind : Byte) (body : List Byte) : LinkFrame := ⟨kind, body, true⟩

/-- The frame that carries a request (R178); a command that is no request has none. -/
def requestFrame : Instr → Option LinkFrame
  | .status => some (goodFrame 0x01 [])
  | .setTime v => some (goodFrame 0x02 (bytesOfBits 4 v))
  | .openGroup g t c => some (goodFrame 0x10 (bytesOfBits 2 g ++ bytesOfBits 4 t ++ [c]))
  | .record body => some (goodFrame 0x11 body)
  | .closeGroup g n => some (goodFrame 0x12 (bytesOfBits 2 g ++ bytesOfBits 2 n))
  | .abortGroup => some (goodFrame 0x13 [])
  | .start => some (goodFrame 0x20 [])
  | .pause => some (goodFrame 0x21 [])
  | .resume => some (goodFrame 0x22 [])
  | .stop => some (goodFrame 0x23 [])
  | .takeReports n => some (goodFrame 0x30 [n])
  | .readEntry sel a => some (goodFrame 0x31 ([sel] ++ bytesOfBits 3 a))
  | .readRoster f n => some (goodFrame 0x32 (bytesOfBits 2 f ++ [n]))
  | .withdraw l => some (goodFrame 0x33 (bytesOfBits 3 l))
  | .clearFaults => some (goodFrame 0x40 [])
  | .setAttention e => some (goodFrame 0x41 [e])
  | .resetPort => some (goodFrame 0x42 [])
  | .coldStart | .lineReset | .lineResetRelease | .headerRead _ _ | .groupRead _ _ _ | .configReadTimeout
  | .clockSecond | .yieldEnd | .groupIdleTimeout | .tallyPeriodEnd | .batchFrameEnd _ | .linkLoss
  | .responseSent | .heldFrameTaken | .closingListDrain | .airFrameDiscarded _ _ | .frameStart
  | .carrierSensed | .carrierEnd | .call _ _ | .standoffEnd | .offerSent | .ready _ _ | .readyWaitExpiry
  | .fragSent | .fragAck _ | .ackWaitExpiry | .done _ _ | .doneWaitExpiry | .refuse _ _ | .peerOffer _
  | .peerFrag _ | .peerTally _ | .quietWaitEnd | .tallySent | .batchByteReceived _ _ => none

/-- The owning block's action on a request (R166); a command that is no request has none. -/
def requestAct (i : Instr) (s : State) : State × Answer :=
  match i with
  | .status => statusAct s
  | .setTime v => setTimeAct v s
  | .openGroup g t c => openGroupAct g t c s
  | .record body => recordAct body s
  | .closeGroup g n => closeGroupAct g n s
  | .abortGroup => abortGroupAct s
  | .start => startAct s
  | .pause => pauseAct s
  | .resume => resumeAct s
  | .stop => stopAct s
  | .takeReports n => takeReportsAct n s
  | .readEntry sel a => readEntryAct sel a s
  | .readRoster f n => readRosterAct f n s
  | .withdraw l => withdrawAct l s
  | .clearFaults => clearFaultsAct s
  | .setAttention e => setAttentionAct e s
  | .resetPort => resetPortAct s
  | .coldStart | .lineReset | .lineResetRelease | .headerRead _ _ | .groupRead _ _ _ | .configReadTimeout
  | .clockSecond | .yieldEnd | .groupIdleTimeout | .tallyPeriodEnd | .batchFrameEnd _ | .linkLoss
  | .responseSent | .heldFrameTaken | .closingListDrain | .airFrameDiscarded _ _ | .frameStart
  | .carrierSensed | .carrierEnd | .call _ _ | .standoffEnd | .offerSent | .ready _ _ | .readyWaitExpiry
  | .fragSent | .fragAck _ | .ackWaitExpiry | .done _ _ | .doneWaitExpiry | .refuse _ _ | .peerOffer _
  | .peerFrag _ | .peerTally _ | .quietWaitEnd | .tallySent | .batchByteReceived _ _ => (s, plain .unknownRequest)

/-! ### Taking a frame (R162, R164) -/

/-- The response to a frame is begun, at the rate in force (R159, R162). -/
def beginResponse (echo : Byte) (a : Answer) (s : State) : State :=
  { s with response := some ⟨echo, a, s.lineRate⟩ }

/-- The frame at the head of the holding is taken (R164): its four checks in order, then its request at
the owning block as one event. -/
def takeFrame (f : LinkFrame) (s : State) : State :=
  if f.good = false then beginResponse f.kind (plain .badFrame) s
  else if s.opState = .starting then beginResponse f.kind (plain .notReady) s
  else
    match parseRequest f.kind f.body with
    | .unknownKind => beginResponse f.kind (plain .unknownRequest) s
    | .badLength => beginResponse f.kind (plain .badFrame) s
    | .request i =>
      let (t, a) := requestAct i s
      beginResponse f.kind a t

/-- A frame ends (R162, R163): it joins the holding, and is taken at once when the holding was empty and
no response is in progress; with two frames held it is discarded, and the overrun is set pending. -/
def offerFrameToHolding (f : LinkFrame) (s : State) : State :=
  if 2 ≤ s.holding.length then
    match s.overrun with
    | some _ => s
    | none => { s with overrun := some ⟨f.kind, s.holding.length⟩ }
  else
    let t := { s with holding := s.holding ++ [f] }
    if s.holding.isEmpty && s.response.isNone then takeFrame f t else t

/-- The OVERRUN response is begun when it is owed: every frame held at the discard has been answered
(R163). The overrun stays pending until the response has been sent (10.6). -/
def overrunIfOwed (s : State) : State :=
  match s.overrun with
  | some o => if o.before = 0 then beginResponse o.kind (plain .overrun) s else s
  | none => s

/-- One of the frames held at the discard has been answered. -/
def overrunCountsDown (s : State) : State :=
  { s with overrun := s.overrun.map (fun o => { o with before := o.before - 1 }) }

/-- A response has been sent in full (R162, R163): its frame leaves the holding, unless it was the OVERRUN
response, which takes no place and makes the overrun absent; then an OVERRUN response that is owed
begins. -/
def responseEnds (r : Response) (s : State) : State :=
  let s := { s with response := none }
  if r.answer.status = .overrun then { s with overrun := none }
  else overrunIfOwed (overrunCountsDown { s with holding := s.holding.tail })

/-- A request is acted on (R166, R168): its frame is at the head of the holding, where the frame being
acted on stands (R162), and its answer is the response in progress. In STARTING the answer is NOT_READY
(R136). -/
def serve (f : LinkFrame) (act : State → State × Answer) (s : State) : State :=
  let s := { s with holding := f :: s.holding.tail }
  if s.opState = .starting then beginResponse f.kind (plain .notReady) s
  else
    let (t, a) := act s
    beginResponse f.kind a t

/-! ### The receiver (R160, R161) -/

/-- What the bytes after the sync byte make of a frame so far: more bytes are awaited, or the frame has
ended. -/
inductive FrameProgress where
  | more
  | ended (f : LinkFrame)
deriving DecidableEq, Repr

/-- The frame check of the bytes after the sync byte, the last two being the check (R160). -/
def linkCheckGood (bytes : List Byte) : Bool :=
  (crc16 (checkedBytes bytes)).toNat == numAt bytes (bytes.length - 2) 2

/-- The progress of a frame from its bytes after the sync byte: a bad length ends it after the second
length byte; otherwise it ends with its frame check (R160). -/
def frameProgress (bytes : List Byte) (stopMissing : Bool) : FrameProgress :=
  if bytes.length < 2 then .more
  else
    let n := numAt bytes 0 2
    if n = 0 ∨ 255 < n then .ended ⟨0, [], false⟩
    else if bytes.length < n + 4 then .more
    else .ended ⟨bytes.getD 2 0, (bytes.drop 3).take (n - 1), linkCheckGood bytes && !stopMissing⟩

/-- A received byte (R160): HUNTING takes only A5h; RECEIVING counts bytes by the length, and the byte
that completes the frame ends it. -/
def receiveByte (b : Byte) (stopBit : Bool) (s : State) : State :=
  match s.receiver with
  | .hunting => if b = 0xA5 then { s with receiver := .receiving [] (!stopBit) } else s
  | .receiving bytes missing =>
    let bytes := bytes ++ [b]
    let missing := missing || !stopBit
    match frameProgress bytes missing with
    | .more => { s with receiver := .receiving bytes missing }
    | .ended f => offerFrameToHolding f { s with receiver := .hunting }

end Sys2Proof.Machine
end

