-- ==== Sys2Proof/Machine/BatchLink.lean ====
section
/-! DEFINITION. The commands of the Batch Link (chapter 10): BATCH_BYTE_RECEIVED, BATCH_FRAME_END,
LINK_LOSS, RESPONSE_SENT and HELD_FRAME_TAKEN. -/

namespace Sys2Proof.Machine

/-- BATCH_FRAME_END: a request frame ends, the receiver is HUNTING, and the frame is offered to the
holding (R160, R162, R163). -/
def execBatchFrameEnd (frame : LinkFrame) (s : State) : Host.Outcome State Fault Refusal :=
  .next (offerFrameToHolding frame { s with receiver := .hunting })

/-- LINK_LOSS: a partial frame is dropped, and the receiver is HUNTING (R161). -/
def execLinkLoss (s : State) : Host.Outcome State Fault Refusal := .next { s with receiver := .hunting }

/-- RESPONSE_SENT: the response in progress has been sent in full (R162, R163). -/
def execResponseSent (s : State) : Host.Outcome State Fault Refusal :=
  match s.response with
  | some r => .next (responseEnds r s)
  | none => .next s

/-- HELD_FRAME_TAKEN: with no response in progress, the frame at the head of the holding is taken (R162,
R164). -/
def execHeldFrameTaken (s : State) : Host.Outcome State Fault Refusal :=
  match s.response, s.holding with
  | none, f :: _ => .next (takeFrame f s)
  | _, _ => .next s

/-- BATCH_BYTE_RECEIVED: a byte arrives on the receive line (R160). -/
def execBatchByteReceived (byte : Byte) (stopBit : Bool) (s : State) :
    Host.Outcome State Fault Refusal :=
  .next (receiveByte byte stopBit s)

end Sys2Proof.Machine
end

