-- ==== Sys2Proof/Machine/Requests.lean ====
section
/-! DEFINITION. The seventeen requests as commands (R166), and CLOSING_LIST_DRAIN. Each request is served
as the frame at the head of the holding that the Batch Link has taken. -/

namespace Sys2Proof.Machine

/-- STATUS (R167). -/
def execStatus (s : State) : Host.Outcome State Fault Refusal :=
  .next (serve (goodFrame 0x01 []) statusAct s)

/-- SET TIME (R134). -/
def execSetTime (value : StoreTime) (s : State) : Host.Outcome State Fault Refusal :=
  .next (serve (goodFrame 0x02 (bytesOfBits 4 value)) (setTimeAct value) s)

/-- OPEN GROUP (R27). -/
def execOpenGroup (group : GroupNo) (effective : StoreTime) (cls : Byte) (s : State) :
    Host.Outcome State Fault Refusal :=
  .next (serve (goodFrame 0x10 (bytesOfBits 2 group ++ bytesOfBits 4 effective ++ [cls]))
    (openGroupAct group effective cls) s)

/-- RECORD (R25, R28). -/
def execRecord (body : List Byte) (s : State) : Host.Outcome State Fault Refusal :=
  .next (serve (goodFrame 0x11 body) (recordAct body) s)

/-- CLOSE GROUP (R31, R34 to R43). -/
def execCloseGroup (group : GroupNo) (count : BitVec 16) (s : State) :
    Host.Outcome State Fault Refusal :=
  .next (serve (goodFrame 0x12 (bytesOfBits 2 group ++ bytesOfBits 2 count)) (closeGroupAct group count) s)

/-- ABORT GROUP (R30). -/
def execAbortGroup (s : State) : Host.Outcome State Fault Refusal :=
  .next (serve (goodFrame 0x13 []) abortGroupAct s)

/-- START (R137). -/
def execStart (s : State) : Host.Outcome State Fault Refusal :=
  .next (serve (goodFrame 0x20 []) startAct s)

/-- PAUSE (R138). -/
def execPause (s : State) : Host.Outcome State Fault Refusal :=
  .next (serve (goodFrame 0x21 []) pauseAct s)

/-- RESUME (R138). -/
def execResume (s : State) : Host.Outcome State Fault Refusal :=
  .next (serve (goodFrame 0x22 []) resumeAct s)

/-- STOP (R139). -/
def execStop (s : State) : Host.Outcome State Fault Refusal :=
  .next (serve (goodFrame 0x23 []) stopAct s)

/-- CLEAR FAULTS (R140, R150). -/
def execClearFaults (s : State) : Host.Outcome State Fault Refusal :=
  .next (serve (goodFrame 0x40 []) clearFaultsAct s)

/-- TAKE REPORTS (R155). -/
def execTakeReports (n : Byte) (s : State) : Host.Outcome State Fault Refusal :=
  .next (serve (goodFrame 0x30 [n]) (takeReportsAct n) s)

/-- CLOSING_LIST_DRAIN: the book uses the room in the report queue (R61). A TAKE REPORTS that removes
reports already does. -/
def execClosingListDrain (s : State) : Host.Outcome State Fault Refusal := .next (settle (drainClosing s))

/-- READ ENTRY (R67). -/
def execReadEntry (selector : Byte) (address : LabelAddr) (s : State) :
    Host.Outcome State Fault Refusal :=
  .next (serve (goodFrame 0x31 ([selector] ++ bytesOfBits 3 address)) (readEntryAct selector address) s)

/-- READ ROSTER (R78). -/
def execReadRoster (first : BitVec 16) (count : Byte) (s : State) :
    Host.Outcome State Fault Refusal :=
  .next (serve (goodFrame 0x32 (bytesOfBits 2 first ++ [count])) (readRosterAct first count) s)

/-- WITHDRAW (R66). -/
def execWithdraw (label : LabelAddr) (s : State) : Host.Outcome State Fault Refusal :=
  .next (serve (goodFrame 0x33 (bytesOfBits 3 label)) (withdrawAct label) s)

/-- SET ATTENTION (R157). -/
def execSetAttention (enable : Byte) (s : State) : Host.Outcome State Fault Refusal :=
  .next (serve (goodFrame 0x41 [enable]) (setAttentionAct enable) s)

/-- RESET PORT (R169). -/
def execResetPort (s : State) : Host.Outcome State Fault Refusal :=
  .next (serve (goodFrame 0x42 []) resetPortAct s)

end Sys2Proof.Machine
end

