-- ==== Sys2Proof/Machine/Startup.lean ====
section
/-! DEFINITION. Resets and the autoload (chapters 8 and 11): COLD_START, LINE_RESET, LINE_RESET_RELEASE,
HEADER_READ, GROUP_READ, CONFIG_READ_TIMEOUT. -/

namespace Sys2Proof.Machine

/-! ### The image's groups (R173, R174, 12.4) -/

/-- The fixed length of a configuration group (12.4). -/
def groupLength : Nat → Nat
  | 1 => 5
  | 2 => 16
  | 3 => 48
  | 4 => 28
  | _ => 0

/-- The sum of the bytes. -/
def byteSum (bs : List Byte) : Nat := bs.foldl (fun acc b => acc + b.toNat) 0

/-- A group passes its check: its length is the fixed length, and the sum of its bytes from the length byte
through the last content byte, added to the sum check, is 0 modulo 65,536 (R173). -/
def groupCheckGood (k : Nat) (length : Byte) (contents : List Byte) (sumCheck : BitVec 16) : Bool :=
  decide (length.toNat = groupLength k) && decide (contents.length = groupLength k) &&
  decide ((length.toNat + byteSum contents + sumCheck.toNat) % 65536 = 0)

/-- Byte `i` of a group's contents. -/
def contentAt (c : List Byte) (i : Nat) : Byte := c.getD i 0

/-- Every byte of the `n` from offset `i` is at most `m`. -/
def allAtMost (c : List Byte) (i n m : Nat) : Bool :=
  ((c.drop i).take n).all (fun b => decide (b.toNat ≤ m))

/-- Group 1, or `none` when a value is out of range (R174). -/
def readIdentity (c : List Byte) : Option Identity :=
  if 1 ≤ numAt c 0 1 ∧ numAt c 0 1 ≤ 250 ∧ numAt c 3 1 ≤ 7 ∧ numAt c 4 1 ≤ 1 then
    some
      { station := contentAt c 0
        site := BitVec.ofNat 16 (numAt c 1 2)
        channel := numAt c 3 1
        rate := if numAt c 4 1 = 0 then .r115200 else .r460800 }
  else none

/-- Group 2, or `none` when a value is out of range (R174). -/
def readSources (c : List Byte) : Option Sources :=
  if allAtMost c 0 8 63 && allAtMost c 8 8 1 then
    some
      { masks := Vector.ofFn (fun i : Fin 8 => ItemSet.ofByte (contentAt c i))
        classMap := Vector.ofFn (fun i : Fin 8 => if contentAt c (8 + i) = 0 then .night else .urgent) }
  else none

/-- The three bytes of model `i` lie in their ranges (R174). -/
def modelGood (c : List Byte) (i : Nat) : Bool :=
  decide (4 ≤ numAt c (3 * i) 1 ∧ numAt c (3 * i) 1 ≤ 7) && decide (numAt c (3 * i + 1) 1 ≤ 6) &&
  decide (numAt c (3 * i + 2) 1 ≤ 127)

/-- Group 3, or `none` when a value is out of range (R174). -/
def readModels (c : List Byte) : Option (Vector ModelRecord 16) :=
  if (List.range 16).all (modelGood c) then
    some (Vector.ofFn (fun i : Fin 16 =>
      ⟨numAt c (3 * i) 1, numAt c (3 * i + 1) 1, FieldSet.ofByte (contentAt c (3 * i + 2))⟩))
  else none

/-- Severity bytes: 0 CONTINUE, 1 STOP (12.4). -/
def severityOf (b : Byte) : Severity := if b = 0 then .continue_ else .stop

/-- Kind mask bytes: 0 ATTENDED, 1 QUIET (12.4). -/
def kindMaskOf (b : Byte) : KindMask := if b = 0 then .attended else .quiet

/-- Six bytes from offset `i`, one for each fault kind. -/
def perKindAt {α : Type} (f : Byte → α) (c : List Byte) (i : Nat) : PerKind α :=
  ⟨f (contentAt c i), f (contentAt c (i + 1)), f (contentAt c (i + 2)), f (contentAt c (i + 3)),
   f (contentAt c (i + 4)), f (contentAt c (i + 5))⟩

/-- Group 4, or `none` when a value is out of range; the reserve is compared with the group's own capacity
(R174). -/
def readPolicy (c : List Byte) : Option Policy :=
  let limit := numAt c 13 1
  let margin := numAt c 14 4
  let capacity := numAt c 18 4
  let fill := numAt c 22 2
  let reserve := numAt c 24 4
  if (allAtMost c 0 12 1 && allAtMost c 12 1 63) = true ∧ 1 ≤ limit ∧ limit ≤ 15 ∧ margin ≤ 86400 ∧
      1000 ≤ capacity ∧ capacity ≤ 360000 ∧ 1 ≤ fill ∧ fill ≤ 1000 ∧ reserve ≤ capacity then
    some
      { severity := perKindAt severityOf c 0
        mask := perKindAt kindMaskOf c 6
        enable := FlagSet.ofByte (contentAt c 12)
        attemptLimit := limit
        lateMargin := margin
        capacity := capacity
        refill := fill
        reserve := reserve }
  else none

/-- Group `k` of good check takes the place of its defaults, or `none` when a value is out of range
(R174). -/
def takeGroup (k : Nat) (c : List Byte) (p : StationConfig) : Option StationConfig :=
  match k with
  | 1 => (readIdentity c).map (fun g => { p with identity := g })
  | 2 => (readSources c).map (fun g => { p with sources := g })
  | 3 => (readModels c).map (fun g => { p with models := g })
  | 4 => (readPolicy c).map (fun g => { p with policy := g })
  | _ => none

/-! ### The end of the autoload (R175) -/

/-- The pending configuration becomes the configuration in force, each block takes its settings, and the
state becomes HALTED when a kind of severity STOP, judged by the severities now in force, is latched, and
IDLE otherwise. A partial frame at a line rate that changes is dropped (R159). -/
def endAutoload (c : StationConfig) (s : State) : State :=
  let t := { s with
    config := c
    autoload := none
    lineRate := c.identity.rate
    receiver := if s.lineRate = c.identity.rate then s.receiver else .hunting
    enable := c.policy.enable }
  { t with opState := if t.stopLatched then .halted else .idle }

/-- A fault of the Configuration Loader; `k` is the configuration group concerned, or 0 (R145). -/
def latchConfig (d : Detail) (k : Nat) (s : State) : State := latch d 0 0 (BitVec.ofNat 16 k) s

/-- The autoload begins (R171): the pending configuration is the defaults, the header is read. -/
def freshAutoload : Autoload := ⟨.header, defaultConfig⟩

/-! ### The commands -/

/-- COLD_START: power is applied (R68, R79, R100, R121, R131, R132, R135, R142, R143, R159, R170, R171).
The queue of waiting commands and the model's count of choices are kept. -/
def execColdStart (s : State) : Host.Outcome State Fault Refusal :=
  .next { State.reset with choices := s.choices, pending := s.pending }

/-- LINE_RESET: the line reset input is asserted (R68, R79, R100, R121, R131, R132, R135, R142, R143,
R159, R170, R171). The clock, the line rate and the configuration in force are kept. -/
def execLineReset (s : State) : Host.Outcome State Fault Refusal :=
  .next { s with
    opState := .starting
    lastReset := .line
    lineReset := true
    autoload := none
    receiver := .hunting
    holding := []
    response := none
    overrun := none
    group := none
    book := []
    closing := []
    roster := []
    dialogue := .listening
    transmitting := none
    carriers := 0
    tally := []
    tallyCount := 0
    quietWait := none
    budget := 0
    latched := noKinds
    firstFault := none
    halt := false
    reports := []
    nextSeq := 0 }

/-- LINE_RESET_RELEASE: a held line reset input is released, and an autoload begins (R135, R171). With the
input not asserted there is nothing to release. -/
def execLineResetRelease (s : State) : Host.Outcome State Fault Refusal :=
  if s.lineReset then .next { s with lineReset := false, autoload := some freshAutoload } else .next s

/-- HEADER_READ: the configuration memory answers the header read (R172). -/
def execHeaderRead (signature : BitVec 16) (count : Byte) (s : State) :
    Host.Outcome State Fault Refusal :=
  match s.autoload with
  | some ⟨.header, p⟩ =>
    if signature = 0x5A1E ∧ 1 ≤ count.toNat ∧ count.toNat ≤ 4 then
      .next { s with autoload := some ⟨.group 1 count.toNat, p⟩ }
    else .next (endAutoload defaultConfig (latchConfig .d402 0 s))
  | _ => .next s

/-- The autoload goes on after group `k` of `count`, or ends with the last (R173). -/
def afterGroup (k count : Nat) (p : StationConfig) (s : State) : State :=
  if k < count then { s with autoload := some ⟨.group (k + 1) count, p⟩ } else endAutoload p s

/-- GROUP_READ: a configuration group has been read (R173, R174). -/
def execGroupRead (length : Byte) (contents : List Byte) (sumCheck : BitVec 16) (s : State) :
    Host.Outcome State Fault Refusal :=
  match s.autoload with
  | some ⟨.group k count, p⟩ =>
    if groupCheckGood k length contents sumCheck then
      match takeGroup k contents p with
      | some q => .next (afterGroup k count q s)
      | none => .next (afterGroup k count p (latchConfig .d404 k s))
    else .next (endAutoload p (latchConfig .d403 k s))
  | _ => .next s

/-- CONFIG_READ_TIMEOUT: a read is not answered within 10 ms (R172). -/
def execConfigReadTimeout (s : State) : Host.Outcome State Fault Refusal :=
  match s.autoload with
  | some _ => .next (endAutoload defaultConfig (latchConfig .d401 0 s))
  | none => .next s

end Sys2Proof.Machine
end

