-- ==== Sys2Proof/Machine/Time.lean ====
section
/-! DEFINITION. The passage of store time (chapter 8): CLOCK_SECOND, and YIELD_END, GROUP_IDLE_TIMEOUT and
TALLY_PERIOD_END, the ends that a clock second brings about. -/

namespace Sys2Proof.Machine

/-- The book at a clock second: yields end, then lanes and late flags (R133). -/
def bookSecond (s : State) : State := evaluateAll (endYields s)

/-- The tally counter rises by one, to at most 60 (R116). -/
def tallySecond (s : State) : State := { s with tallyCount := min (s.tallyCount + 1) 60 }

/-- The four blocks' clock second (R133). The book and the Gatherer may both latch a fault in it, and no
rule orders the two (R148). -/
def blocksSecond (s : State) : State :=
  eitherOrder (idleSecond (bookSecond s)) (bookSecond (idleSecond s)) |> refill |> tallySecond

/-- CLOCK_SECOND: the clock value rises by one, and outside STARTING the four blocks take the clock second
(R133). -/
def execClockSecond (s : State) : Host.Outcome State Fault Refusal :=
  let t := { s with clock := s.clock + 1, timebase := 0 }
  if s.opState = .starting then .next t else .next (settle (blocksSecond t))

/-- YIELD_END: the yields whose end equals the clock value end (R53). A CLOCK_SECOND already ends them. -/
def execYieldEnd (s : State) : Host.Outcome State Fault Refusal := .next (endYields s)

/-- GROUP_IDLE_TIMEOUT: the idle timer of the open group has reached 0 (R29). A timer above 0 ends no group. A
CLOCK_SECOND that brings the timer to 0 already ends the group. -/
def execGroupIdleTimeout (s : State) : Host.Outcome State Fault Refusal :=
  if s.group.any (fun g => g.idle == 0) then .next (settle (expireGroup s)) else .next s

/-- TALLY_PERIOD_END: the tally counter has reached 10 or 60, and a TALLY that is due and eligible has its
quiet wait (R116, R117). A CLOCK_SECOND already begins it. -/
def execTallyPeriodEnd (s : State) : Host.Outcome State Fault Refusal := .next (settleQuiet s)

end Sys2Proof.Machine
end

