-- ==== Sys2Proof/Machine/Dispatch.lean ====
section
/-! DEFINITION. The meaning of every command: one arm for each constructor of `Instr`. -/

namespace Sys2Proof.Machine

def exec (i : Instr) (s : State) : Host.Outcome State Fault Refusal :=
  match i with
  | .coldStart => Sys2Proof.Machine.execColdStart s
  | .lineReset => Sys2Proof.Machine.execLineReset s
  | .lineResetRelease => Sys2Proof.Machine.execLineResetRelease s
  | .headerRead signature count => Sys2Proof.Machine.execHeaderRead signature count s
  | .groupRead length contents sumCheck => Sys2Proof.Machine.execGroupRead length contents sumCheck s
  | .configReadTimeout => Sys2Proof.Machine.execConfigReadTimeout s
  | .clockSecond => Sys2Proof.Machine.execClockSecond s
  | .yieldEnd => Sys2Proof.Machine.execYieldEnd s
  | .groupIdleTimeout => Sys2Proof.Machine.execGroupIdleTimeout s
  | .tallyPeriodEnd => Sys2Proof.Machine.execTallyPeriodEnd s
  | .batchFrameEnd frame => Sys2Proof.Machine.execBatchFrameEnd frame s
  | .linkLoss => Sys2Proof.Machine.execLinkLoss s
  | .responseSent => Sys2Proof.Machine.execResponseSent s
  | .heldFrameTaken => Sys2Proof.Machine.execHeldFrameTaken s
  | .status => Sys2Proof.Machine.execStatus s
  | .setTime value => Sys2Proof.Machine.execSetTime value s
  | .openGroup group effective cls => Sys2Proof.Machine.execOpenGroup group effective cls s
  | .record body => Sys2Proof.Machine.execRecord body s
  | .closeGroup group count => Sys2Proof.Machine.execCloseGroup group count s
  | .abortGroup => Sys2Proof.Machine.execAbortGroup s
  | .start => Sys2Proof.Machine.execStart s
  | .pause => Sys2Proof.Machine.execPause s
  | .resume => Sys2Proof.Machine.execResume s
  | .stop => Sys2Proof.Machine.execStop s
  | .clearFaults => Sys2Proof.Machine.execClearFaults s
  | .takeReports n => Sys2Proof.Machine.execTakeReports n s
  | .closingListDrain => Sys2Proof.Machine.execClosingListDrain s
  | .readEntry selector address => Sys2Proof.Machine.execReadEntry selector address s
  | .readRoster first count => Sys2Proof.Machine.execReadRoster first count s
  | .withdraw label => Sys2Proof.Machine.execWithdraw label s
  | .setAttention enable => Sys2Proof.Machine.execSetAttention enable s
  | .resetPort => Sys2Proof.Machine.execResetPort s
  | .airFrameDiscarded bytes rssi => Sys2Proof.Machine.execAirFrameDiscarded bytes rssi s
  | .frameStart => Sys2Proof.Machine.execFrameStart s
  | .carrierSensed => Sys2Proof.Machine.execCarrierSensed s
  | .carrierEnd => Sys2Proof.Machine.execCarrierEnd s
  | .call frame rssi => Sys2Proof.Machine.execCall frame rssi s
  | .standoffEnd => Sys2Proof.Machine.execStandoffEnd s
  | .offerSent => Sys2Proof.Machine.execOfferSent s
  | .ready frame rssi => Sys2Proof.Machine.execReady frame rssi s
  | .readyWaitExpiry => Sys2Proof.Machine.execReadyWaitExpiry s
  | .fragSent => Sys2Proof.Machine.execFragSent s
  | .fragAck frame => Sys2Proof.Machine.execFragAck frame s
  | .ackWaitExpiry => Sys2Proof.Machine.execAckWaitExpiry s
  | .done frame rssi => Sys2Proof.Machine.execDone frame rssi s
  | .doneWaitExpiry => Sys2Proof.Machine.execDoneWaitExpiry s
  | .refuse frame rssi => Sys2Proof.Machine.execRefuse frame rssi s
  | .peerOffer frame => Sys2Proof.Machine.execPeerOffer frame s
  | .peerFrag frame => Sys2Proof.Machine.execPeerFrag frame s
  | .peerTally frame => Sys2Proof.Machine.execPeerTally frame s
  | .quietWaitEnd => Sys2Proof.Machine.execQuietWaitEnd s
  | .tallySent => Sys2Proof.Machine.execTallySent s
  | .batchByteReceived byte stopBit => Sys2Proof.Machine.execBatchByteReceived byte stopBit s

end Sys2Proof.Machine
end

