-- ==== Sys2Proof/Machine/Layout.lean ====
section
/-! DEFINITION. The bytes of a response (R165, R178, 12.3): the sync byte, the length, the echo, the status,
the body and the frame check. Where chapter 12 gives no code for an enumeration, the byte is a free value
(notes/assumptions/4.md); where it gives no width for a number, the model takes the fewest whole bytes that
hold the range (notes/assumptions/5.md). -/

namespace Sys2Proof.Machine

/-! ### Parts of a body -/

/-- A flag as one byte, 0 clear and 1 set. DESIGN CHOICE: chapter 12 gives a flag in a response body neither a
code nor a width (notes/assumptions/5.md). -/
def flagByte (b : Bool) : List Byte := [BitVec.ofNat 8 b.toNat]

/-- An optional field: a presence byte, and the field when present (R178). -/
def optionalBytes {α : Type} (f : α → List Byte) : Option α → List Byte
  | none => [0]
  | some a => 1 :: f a

/-- A list: its count, then its members (R178). -/
def listBytes {α : Type} (f : α → List Byte) (xs : List α) : List Byte :=
  BitVec.ofNat 8 xs.length :: xs.flatMap f

/-- The latched fault set, bit n the n-th kind of 9.2.1. DESIGN CHOICE (notes/assumptions/5.md). -/
def latchedByte (p : PerKind Bool) : Byte :=
  byteOfBits [p.recordForm, p.recordRange, p.group, p.book, p.delivery, p.config]

/-- A fault's kind, 1 byte, and detail, 2 bytes (R178). -/
def faultBytes (d : Detail) : List Byte := BitVec.ofNat 8 d.kind.code :: bytesOfNat 2 d.code

/-- "By": the station number, or FFh for LABEL (12.3.2). -/
def Deliverer.byte : Deliverer → Byte
  | .station n => n
  | .label => 0xFF

/-- A base: its kind, 0 a version and 1 ANY, and the version, 0 for ANY. DESIGN CHOICE: in a response a base is
sent as in a RECORD (12.3.1), a kind byte and two bytes; R166 and R178 give it no layout there
(notes/assumptions/5.md). -/
def baseBytes (b : Base) : List Byte :=
  (match b with
    | .any => 1
    | .version _ => 0) :: bytesOfBits 2 (versionOfBase b)

/-! ### Enumerations without codes (free values) -/

/-- The operating state. -/
def OpState.byte (o : OpState) : Byte := Config.unstatedCode 0 (match o with
  | .starting => 0 | .idle => 1 | .run => 2 | .paused => 3 | .halted => 4)

/-- The last reset kind. -/
def ResetKind.byte (r : ResetKind) : Byte := Config.unstatedCode 1 (match r with
  | .cold => 0 | .line => 1 | .port => 2)

/-- The lane. DESIGN CHOICE: the class map's codes, 0 NIGHT and 1 URGENT (12.4; notes/assumptions/5.md). -/
def Lane.byte : Lane → Byte
  | .night => 0
  | .urgent => 1

/-- The state of an entry. -/
def EntryState.byte (e : EntryState) : Byte := Config.unstatedCode 2 (match e with
  | .waiting => 0 | .held => 1 | .yielded _ => 2 | .inTransfer => 3 | .closing _ => 4)

/-- A transfer outcome. -/
def TransferOutcome.byte (o : TransferOutcome) : Byte := Config.unstatedCode 3 (match o with
  | .done => 0 | .current => 1 | .mismatch => 2 | .lowPower => 3 | .noAnswer => 4 | .lost => 5
  | .uncertain => 6 | .badFace => 7 | .cutOff => 8)

/-- A closing outcome. -/
def ClosingOutcome.byte (o : ClosingOutcome) : Byte := Config.unstatedCode 4 (match o with
  | .delivered => 0 | .peerDelivered => 1 | .seenCurrent => 2 | .abandoned => 3 | .mismatch => 4)

/-- The dialogue state. -/
def DialogueView.byte (d : DialogueView) : Byte := Config.unstatedCode 5 (match d with
  | .listening => 0 | .standingOff _ => 1 | .transferring _ _ _ => 2 | .tallying => 3)

/-- The phase of a transfer. -/
def Phase.byte (p : Phase) : Byte := Config.unstatedCode 6 (match p with
  | .awaitReady => 0 | .sending _ => 1 | .awaitAck => 2 | .awaitDone => 3)

/-! ### Reports (12.3.2) -/

/-- A report's 18 bytes. -/
def Report.bytes (r : Report) : List Byte :=
  bytesOfBits 2 r.seq ++ [r.body.kind.code] ++ bytesOfBits 3 r.body.label ++ bytesOfBits 2 r.body.version ++
  bytesOfBits 4 r.body.time ++ [r.body.by_.byte, BitVec.ofNat 8 r.body.attempts] ++
  bytesOfNat 2 r.body.notes.toNat ++ bytesOfBits 2 r.body.lastGroup

/-! ### STATUS (R167) -/

/-- The first-fault log (R146). -/
def FaultLog.bytes (l : FaultLog) : List Byte :=
  faultBytes l.detail ++ bytesOfBits 3 l.label ++ [l.source] ++ bytesOfBits 2 l.group ++ bytesOfBits 4 l.time

/-- The context's label, while there is a context. -/
def DialogueView.label? : DialogueView → Option LabelAddr
  | .standingOff l | .transferring l _ _ => some l
  | .listening | .tallying => none

/-- The phase and the fragment index, while TRANSFERRING. DESIGN CHOICE: the two are present together, and are
sent as one optional field behind one presence byte; R167 and R178 do not say whether they are one or two
(notes/assumptions/5.md). -/
def DialogueView.phase? : DialogueView → Option (Phase × Nat)
  | .transferring _ p k => some (p, k)
  | .listening | .standingOff _ | .tallying => none

/-- The open group. -/
def GroupView.bytes (g : GroupView) : List Byte :=
  bytesOfBits 2 g.number ++ bytesOfBits 4 g.effective ++ [BitVec.ofNat 8 g.cls.val] ++
  bytesOfNat 2 g.count ++ [BitVec.ofNat 8 g.idle]

/-- The station status, in the order of R167. -/
def StatusBody.bytes (b : StatusBody) : List Byte :=
  [b.opState.byte, b.lastReset.byte, b.station] ++ bytesOfBits 4 b.clock ++ flagByte b.clockSet ++
  [latchedByte b.latched] ++ optionalBytes FaultLog.bytes b.firstFault ++
  [b.flags.toByte, b.enable.toByte] ++ bytesOfNat 2 b.queueLength ++ bytesOfBits 2 b.nextSeq ++
  bytesOfNat 2 b.closingLength ++ bytesOfNat 2 b.freeSlots ++ bytesOfNat 2 b.lateCount ++
  bytesOfNat 2 b.occupied ++ bytesOfNat 4 b.budget ++ [b.dialogue.byte] ++
  optionalBytes (bytesOfBits 3) b.dialogue.label? ++
  optionalBytes (fun p => [Phase.byte p.1, BitVec.ofNat 8 p.2]) b.dialogue.phase? ++
  [BitVec.ofNat 8 b.tallyPairs, BitVec.ofNat 8 b.tallyCount] ++ optionalBytes GroupView.bytes b.group

/-! ### READ ENTRY (R46, R67) -/

/-- The markdown's kind and value (12.3.1). -/
def Markdown.bytes : Markdown → List Byte
  | .none => 0 :: bytesOfNat 4 0
  | .percent r => 1 :: bytesOfNat 4 r
  | .amount c => 2 :: bytesOfNat 4 c
  | .set p => 3 :: bytesOfNat 4 p

/-- The ending rule, 0 and 0 with none: see `PriceItem.bytes`. -/
def endingBytes : Option Ending → List Byte
  | none => bytesOfNat 4 0
  | some e => bytesOfNat 2 e.modulus ++ bytesOfNat 2 e.value

/-- A PRICE item's contents. DESIGN CHOICE: in a response its optional ending rule and floor are sent as in a
RECORD (12.3.1), 0 where absent, and not behind presence bytes; 12.3 gives merged inputs in a response no
layout (notes/assumptions/5.md). -/
def PriceItem.bytes (p : PriceItem) : List Byte :=
  bytesOfNat 4 p.ticket ++ p.markdown.bytes ++ endingBytes p.ending ++ bytesOfNat 4 p.floor

/-- A UNIT item's contents (12.3.1). -/
def UnitItem.bytes (u : UnitItem) : List Byte :=
  bytesOfNat 4 u.quantity ++ bytesOfNat 4 u.basis ++ [BitVec.ofNat 8 u.code.toNat]

/-- The merged inputs. DESIGN CHOICE: every item is an optional field of its own, in the order of 12.3.1 and
with its widths, without a tag (notes/assumptions/5.md). -/
def Items.bytes (i : Items) : List Byte :=
  optionalBytes PriceItem.bytes i.price ++ optionalBytes UnitItem.bytes i.unit ++
  optionalBytes (fun b => [BitVec.ofNat 8 b.toNat]) i.badge ++
  optionalBytes (fun b => [BitVec.ofNat 8 b.toNat]) i.stock ++
  optionalBytes (bytesOfNat 2) i.ends ++ optionalBytes (bytesOfNat 1) i.locate

/-- The computed face. DESIGN CHOICE: every field is an optional field of its own, with the widths of 12.2 and
the unit price behind its code (notes/assumptions/5.md). -/
def Face.bytes (f : Face) : List Byte :=
  optionalBytes (bytesOfNat 4) f.price ++ optionalBytes (bytesOfNat 4) f.was ++
  optionalBytes (bytesOfNat 1) f.save ++
  optionalBytes (fun u => BitVec.ofNat 8 u.1.toNat :: bytesOfNat 4 u.2) f.unit ++
  optionalBytes (fun b => [BitVec.ofNat 8 b.toNat]) f.badge ++
  optionalBytes (fun b => [BitVec.ofNat 8 b.toNat]) f.stock ++
  optionalBytes (bytesOfNat 2) f.ends ++ optionalBytes (bytesOfNat 1) f.locate

/-- The yield end, in YIELDED. -/
def EntryState.yieldEnd? : EntryState → Option StoreTime
  | .yielded u => some u
  | .waiting | .held | .inTransfer | .closing _ => none

/-- The closing record, in CLOSING. -/
def EntryState.closing? : EntryState → Option ClosingRecord
  | .closing r => some r
  | .waiting | .held | .inTransfer | .yielded _ => none

/-- A closing record, in the order of R59. DESIGN CHOICE: the deliverer is sent as in a report, and version and
time with a report's widths (12.3.2; notes/assumptions/5.md). -/
def ClosingRecord.bytes (r : ClosingRecord) : List Byte :=
  [r.outcome.byte, r.deliverer.byte] ++ bytesOfBits 2 r.version ++ bytesOfBits 4 r.time

/-- A successor part. DESIGN CHOICE: its base, always a version, is sent as an entry's base is, behind a kind
byte; 12.3 gives a successor part no layout (notes/assumptions/5.md). -/
def Successor.bytes (p : Successor) : List Byte :=
  baseBytes (.version p.base) ++ bytesOfBits 2 p.target ++ p.items.bytes ++ bytesOfBits 4 p.effective ++
  [BitVec.ofNat 8 p.cls.val] ++ bytesOfBits 2 p.lastGroup ++ flagByte p.masked

/-- An entry, in the order of R46. DESIGN CHOICE: its three note parts are sent as one set of twelve bits, the
two bytes a report carries (12.3.2); 12.3 gives an entry's notes no layout (notes/assumptions/5.md). -/
def Entry.bytes (e : Entry) : List Byte :=
  bytesOfNat 2 e.slot ++ bytesOfBits 3 e.label ++ [e.state.byte, e.lane.byte] ++ flagByte e.late ++
  baseBytes e.base ++ bytesOfBits 2 e.target ++ bytesOfBits 4 e.effective ++ [BitVec.ofNat 8 e.cls.val] ++
  bytesOfBits 2 e.lastGroup ++ e.items.bytes ++ e.face.bytes ++ bytesOfNat 2 e.notes.toNat ++
  [BitVec.ofNat 8 e.attempts, BitVec.ofNat 8 e.limit] ++
  optionalBytes (bytesOfBits 4) e.state.yieldEnd? ++
  optionalBytes (fun o => [TransferOutcome.byte o]) e.lastOutcome ++
  optionalBytes ClosingRecord.bytes e.state.closing? ++ optionalBytes Successor.bytes e.successor

/-- The byte that tells an entry or record (0), "free" (1) and "no entry" (2) apart; a free value. -/
def replyByte (n : Nat) : Byte := Config.unstatedCode 7 n

/-! ### READ ROSTER (R69, R78) -/

/-- One line of the list. -/
def RosterLine.bytes : RosterLine → List Byte
  | .free slot => replyByte 1 :: bytesOfNat 2 slot
  | .occupied r rank hasEntry =>
    replyByte 0 :: (bytesOfNat 2 r.slot ++ bytesOfBits 3 r.label ++ [BitVec.ofNat 8 r.model.toNat] ++
      bytesOfBits 2 r.held ++ [BitVec.ofNat 8 r.battery.toNat, BitVec.ofInt 8 r.signal] ++
      bytesOfBits 4 r.lastHeard ++ bytesOfNat 2 r.calls ++ flagByte r.busy ++ bytesOfNat 2 rank ++
      flagByte hasEntry)

/-! ### A response (R165) -/

/-- The body of a response (R165, R166, R178). -/
def ResponseBody.bytes : ResponseBody → List Byte
  | .none => []
  | .status b => b.bytes
  | .times old new => bytesOfBits 4 old ++ bytesOfBits 4 new
  | .recordCount n => bytesOfNat 2 n
  | .foldCounts created changed successors replaced =>
    bytesOfNat 2 created ++ bytesOfNat 2 changed ++ bytesOfNat 2 successors ++ bytesOfNat 2 replaced
  | .opState s => [s.byte]
  | .opStateReason s r => [s.byte, r.code]
  | .reports taken removed queueLength closingLength =>
    listBytes Report.bytes taken ++ bytesOfNat 1 removed ++ bytesOfNat 2 queueLength ++
    bytesOfNat 2 closingLength
  | .entry e => replyByte 0 :: e.bytes
  | .freeSlot slot => replyByte 1 :: bytesOfNat 2 slot
  | .noEntry label => replyByte 2 :: bytesOfBits 3 label
  | .roster occupied lines => bytesOfNat 2 occupied ++ listBytes RosterLine.bytes lines
  | .attention enable flags => [enable.toByte, flags.toByte]
  | .refused d => faultBytes d
  | .busyAt position => bytesOfNat 2 134 ++ bytesOfNat 2 position

/-- The bytes of a response on the link (R165). -/
def Response.bytes (r : Response) : List Byte :=
  let body := r.answer.body.bytes
  let checked := bytesOfNat 2 (body.length + 2) ++ [r.echo, r.answer.status.code] ++ body
  0xA5 :: (checked ++ bytesOfBits 2 (crc16 checked))

end Sys2Proof.Machine
end

