-- ==== Sys2Proof/Safety.lean ====
section
/-! DEFINITION. The terms in which claims speak of the station: what every reachable state keeps, and how
an answered request looks. Each predicate holds at reset and every command keeps it, alone or beside
those its docstring names. -/

namespace Sys2Proof.Machine

/-! ### Answers -/

/-- The state in which a request is being answered: its frame at the head of the holding, and the response
in progress, with the request's kind byte as echo, at the rate in force (R162, R165). -/
def answered (i : Instr) (a : Answer) (s : State) : State :=
  match requestFrame i with
  | some f => { s with holding := f :: s.holding.tail, response := some ⟨f.kind, a, s.lineRate⟩ }
  | none => s

/-- The state after a fault is latched that halts nothing (R144, R146). -/
def faulted (d : Detail) (label : LabelAddr) (source : Byte) (group : GroupNo) (s : State) : State :=
  { s with
    latched := s.latched.insert d.kind
    firstFault := if s.latched = noKinds then some ⟨d, label, source, group, s.clock⟩ else s.firstFault }

/-! ### STARTING and HALTED -/

/-- An autoload runs only in STARTING, and none runs while the line reset input is held (R135, R171). -/
abbrev AutoloadInStarting (s : State) : Prop :=
  (s.autoload.isSome = true → s.opState = .starting) ∧
  (s.lineReset = true → s.opState = .starting ∧ s.autoload = none)

/-- While the station is STARTING every block is empty and nothing is on the air (R68, R79, R80, R121,
R131, R135, R136). -/
abbrev StartingIsEmpty (s : State) : Prop :=
  (s.opState = .starting →
    s.group = none ∧ s.book = [] ∧ s.closing = [] ∧ s.roster = [] ∧ s.dialogue = .listening ∧
    s.transmitting = none ∧ s.carriers = 0 ∧ s.tally = [] ∧ s.tallyCount = 0 ∧ s.quietWait = none ∧
    s.budget = 0 ∧ s.reports = []) ∧
  AutoloadInStarting s

/-- A HALTED station transmits nothing and holds no standoff and no transfer (R98, R119, R136, R141). -/
abbrev HaltedIsSilent (s : State) : Prop :=
  s.opState = .halted → s.dialogue = .listening ∧ s.transmitting = none ∧ s.quietWait = none

/-- A latched fault of severity STOP holds the station in HALTED, but for STARTING; no halt is left over at
a command's end (R135, R141, R147). -/
abbrev StopFaultHalts (s : State) : Prop :=
  s.halt = false ∧
  (s.stopLatched = true → s.opState = .halted ∨ s.opState = .starting) ∧
  AutoloadInStarting s

/-- RUN and PAUSED are reached only with the clock set and a station number (R137, R138). -/
abbrev RunIsNumbered (s : State) : Prop :=
  (s.opState = .run ∨ s.opState = .paused → s.clockSet = true ∧ s.config.identity.station ≠ 0) ∧
  AutoloadInStarting s

/-! ### Bounds -/

/-- The queues, lists and counters stay within the manual's bounds (R27 to R29, R115, R116, R153, R162). -/
abbrev QueuesWithinBounds (s : State) : Prop :=
  s.reports.length ≤ 256 ∧ s.tally.length ≤ 64 ∧ s.tallyCount ≤ 60 ∧ s.holding.length ≤ 2 ∧
  (∀ g ∈ s.group, g.number ≠ 0 ∧ 1 ≤ g.idle ∧ g.idle ≤ 60 ∧ g.gathered.length ≤ 512)

/-- A pending overrun waits for frames that are held, and is answered by the OVERRUN response; a response
other than OVERRUN answers the frame at the head of the holding (R162, R163). -/
abbrev OverrunWaits (s : State) : Prop :=
  (∀ o ∈ s.overrun, o.before ≤ s.holding.length) ∧
  (∀ r ∈ s.response, r.answer.status = .overrun → s.overrun = some ⟨r.echo, 0⟩) ∧
  (∀ r ∈ s.response, r.answer.status ≠ .overrun → s.holding ≠ [])

/-- The budget level lies in 0..capacity (R123). -/
abbrev BudgetWithinCapacity (s : State) : Prop := s.budget ≤ s.capacity

/-- Every value of a configuration lies in its range (R174), or is the default of group 1, station 0. -/
abbrev ConfigInRange (c : StationConfig) : Prop :=
  c.identity.station.toNat ≤ 250 ∧ c.identity.channel ≤ 7 ∧
  (∀ i : Fin 16, 4 ≤ c.models[i].priceDigits ∧ c.models[i].priceDigits ≤ 7 ∧ c.models[i].unitDigits ≤ 6) ∧
  1 ≤ c.policy.attemptLimit ∧ c.policy.attemptLimit ≤ 15 ∧ c.policy.lateMargin ≤ 86400 ∧
  1000 ≤ c.policy.capacity ∧ c.policy.capacity ≤ 360000 ∧ 1 ≤ c.policy.refill ∧ c.policy.refill ≤ 1000 ∧
  c.policy.reserve ≤ c.policy.capacity

/-- The configuration in force and the pending one lie in their ranges (R171, R174). -/
abbrev ConfigsInRange (s : State) : Prop :=
  ConfigInRange s.config ∧ (∀ a ∈ s.autoload, ConfigInRange a.pendingConfig)

/-! ### Faults -/

/-- The first-fault log is present exactly while the latched set is non-empty, and names a latched kind
(R146). -/
abbrev LogMatchesLatched (s : State) : Prop :=
  (s.firstFault.isSome = true ↔ s.latched ≠ noKinds) ∧
  (∀ l ∈ s.firstFault, s.latched.get l.detail.kind = true)

/-! ### The book and the Roster -/

/-- Every slot holds one entry and every label has one (R45). -/
abbrev BookIsKeyed (s : State) : Prop :=
  s.book.Pairwise (fun a b => a.slot < b.slot) ∧ s.book.Pairwise (fun a b => a.label ≠ b.label) ∧
  (∀ e ∈ s.book, e.slot < slotCount)

/-- A change whose base is a version has a newer target (R25, R47). -/
abbrev VersionLaw (base : Base) (target : Version) : Prop := targetGood base target = true

/-- The laws of an entry: its target is newer than a base that is a version; a successor part exists only
in IN_TRANSFER and CLOSING, on the entry's target and newer than it; its attempts are at most its limit;
a CLOSING entry is not late (R47, R56, R59). -/
abbrev EntryLaw (e : Entry) : Prop :=
  VersionLaw e.base e.target ∧
  (∀ p ∈ e.successor, e.isOpen = false ∧ p.base = e.target ∧ newer p.target e.target = true) ∧
  e.attempts ≤ e.limit ∧ (e.isClosing = true → e.late = false)

/-- Every entry keeps the laws of an entry, and every gathered record that of a change. -/
abbrev EntriesKeepLaw (s : State) : Prop :=
  (∀ e ∈ s.book, EntryLaw e) ∧ (∀ g ∈ s.group, ∀ r ∈ g.gathered, VersionLaw r.base r.target)

/-- The closing order list holds each CLOSING entry's slot once, and is empty while the report queue has
room (R59 to R61). Beside `BookIsKeyed`. -/
abbrev ClosingListHolds (s : State) : Prop :=
  s.closing.Nodup ∧
  (∀ n ∈ s.closing, ∃ e ∈ s.book, e.slot = n ∧ e.isClosing = true) ∧
  (∀ e ∈ s.book, e.isClosing = true → e.slot ∈ s.closing) ∧
  (s.hasRoom = true → s.closing = [])

/-- While a transfer is in flight exactly its entry is IN_TRANSFER, and while none is, no entry is (R54);
the entry that an untouched standoff would offer, if it is still there, is WAITING with the context's target
(R83, R85). Beside `BookIsKeyed` and `ClosingListHolds`. -/
abbrev TransferHasEntry (s : State) : Prop :=
  match s.dialogue with
  | .transferring _ c =>
    (∃ e ∈ s.book, e.slot = c.slot ∧ e.label = c.label ∧ e.target = c.target ∧ e.state = .inTransfer) ∧
    (∀ e ∈ s.book, e.state = .inTransfer → e.slot = c.slot)
  | .standingOff c =>
    (∀ e ∈ s.book, e.state ≠ .inTransfer) ∧
    (c.touched = false → ∀ e ∈ s.book, e.slot = c.slot → e.label = c.label →
      e.state = .waiting ∧ e.target = c.target)
  | .listening | .tallying _ => ∀ e ∈ s.book, e.state ≠ .inTransfer

/-- Every roster slot and label has one record, the occupied slots are those below the occupied count, and
the fields lie in their ranges (R69, R71, R73, R78). -/
abbrev RosterIsKeyed (s : State) : Prop :=
  s.roster.Pairwise (fun a b => a.slot ≠ b.slot) ∧ s.roster.Pairwise (fun a b => a.label ≠ b.label) ∧
  s.roster.length ≤ slotCount ∧
  (∀ r ∈ s.roster, r.slot < s.roster.length ∧ 1 ≤ r.calls ∧ r.calls ≤ 65535 ∧
    -120 ≤ r.signal ∧ r.signal ≤ 0)

/-! ### The Engine -/

/-- The airtime of the fragments before the `k`-th, each at its real size (R89). -/
def fragmentsBefore (face : List Byte) (k : Nat) : Nat :=
  ((List.range (k - 1)).map (fun i => fragAirtime (fragmentPayload face (i + 1)).length)).sum

/-- What a transfer's context holds in a phase (R80, R86, R89 to R91): the covered airtime is that of the
frames sent whole for the first time, and the Engine waits exactly when it is not sending. -/
abbrev ContextFits (phase : Phase) (c : TransferContext) (sending : Bool) : Prop :=
  c.face.length ≤ 27 ∧ 1 ≤ c.fragment ∧ c.fragment ≤ fragmentCount c.face ∧ c.resends ≤ 2 ∧
  (match phase with
    | .awaitReady => c.wait.isNone = sending ∧ c.covered = (if sending then 0 else offerAirtime)
    | .sending false =>
      sending = true ∧ c.wait = none ∧ c.covered = offerAirtime + fragmentsBefore c.face c.fragment
    | .sending true =>
      sending = true ∧ c.wait = none ∧ c.covered = offerAirtime + fragmentsBefore c.face (c.fragment + 1)
    | .awaitAck =>
      sending = false ∧ c.wait.isSome = true ∧
      c.covered = offerAirtime + fragmentsBefore c.face (c.fragment + 1)
    | .awaitDone =>
      sending = false ∧ c.wait.isSome = true ∧ c.fragment = fragmentCount c.face ∧
      c.covered = offerAirtime + fragmentsBefore c.face (c.fragment + 1))

/-- The dialogue state, the context and what is on the air agree (R80, R81, R105, R107, R118). The model's choice
(log entry 24): in a standoff the current fragment is 1. -/
abbrev EngineAgrees (s : State) : Prop :=
  match s.dialogue with
  | .listening => s.transmitting = none
  | .standingOff c =>
    s.transmitting = none ∧ s.carriers = 0 ∧ c.face.length ≤ 27 ∧ c.fragment = 1 ∧ c.resends = 0 ∧
    c.wait = none ∧ c.delayUs ≤ 7500
  | .transferring p c => ContextFits p c s.transmitting.isSome
  | .tallying n => s.transmitting.isSome = true ∧ n ≤ 16 ∧ n ≤ s.tally.length

/-- The quiet wait runs exactly while a TALLY is eligible and no carrier is sensed (R117). -/
abbrev QuietWaitFollows (s : State) : Prop := s.quietWait = (settleQuiet s).quietWait

/-! ### What stays the same -/

/-- The operating setup is unchanged: the configuration, the autoload, the line reset input, the last reset
kind and the clock. -/
abbrev SameSetup (s t : State) : Prop :=
  t.config = s.config ∧ t.autoload = s.autoload ∧ t.lineReset = s.lineReset ∧ t.lastReset = s.lastReset ∧
  t.clock = s.clock ∧ t.clockSet = s.clockSet ∧ t.timebase = s.timebase

/-- The Batch Link Interface is unchanged. -/
abbrev SameLink (s t : State) : Prop :=
  t.lineRate = s.lineRate ∧ t.receiver = s.receiver ∧ t.holding = s.holding ∧ t.response = s.response ∧
  t.overrun = s.overrun

/-- The Change Book is unchanged. -/
abbrev SameBook (s t : State) : Prop := t.book = s.book ∧ t.closing = s.closing

/-- The Dialogue Engine's exchange, its tallies and the budget are unchanged. -/
abbrev SameEngine (s t : State) : Prop :=
  t.dialogue = s.dialogue ∧ t.transmitting = s.transmitting ∧ t.carriers = s.carriers ∧ t.tally = s.tally ∧
  t.tallyCount = s.tallyCount ∧ t.quietWait = s.quietWait ∧ t.budget = s.budget

/-- The latched faults and their log are unchanged. -/
abbrev SameFaults (s t : State) : Prop := t.latched = s.latched ∧ t.firstFault = s.firstFault

/-- The report queue is unchanged. -/
abbrev SameReports (s t : State) : Prop := t.reports = s.reports ∧ t.nextSeq = s.nextSeq

/-- No fault of the kinds named moves the operating state: each has severity CONTINUE, as every kind but
CONFIG has by default, or the station is HALTED already, where a halt changes nothing (R141, R147); and no
halt is waiting. -/
abbrev NothingHalts (s : State) (kinds : List FaultKind) : Prop :=
  s.halt = false ∧ (s.opState = .halted ∨ ∀ k ∈ kinds, s.config.policy.severity.get k = .continue_)

/-- The quiet wait that R117 gives a state. -/
def quietAfter (s : State) : Option Nat := (settleQuiet s).quietWait

/-- The Engine is TALLYING. -/
def isTallying (s : State) : Bool :=
  match s.dialogue with
  | .tallying _ => true
  | .listening | .standingOff _ | .transferring _ _ => false

/-- The station hears the air: it is not STARTING and not sending, and no halt is waiting. -/
abbrev Hears (s : State) : Prop :=
  s.opState ≠ .starting ∧ s.transmitting = none ∧ s.halt = false ∧ isTallying s = false

/-! ### Reports queued and faults taken -/

/-- Reports with consecutive sequence numbers (R152). -/
def numbered (seq : BitVec 16) (bodies : List ReportBody) : List Report :=
  bodies.mapIdx (fun i b => ⟨seq + BitVec.ofNat 16 i, b⟩)

/-- `t` has queued these reports of `s`, in order (R152, R153). -/
abbrev Queues (s t : State) (bodies : List ReportBody) : Prop :=
  t.reports = s.reports ++ numbered s.nextSeq bodies ∧ t.nextSeq = s.nextSeq + BitVec.ofNat 16 bodies.length

/-- `t` has taken these faults of `s`, in order (R144, R146, R148). -/
abbrev Latches (s t : State) (faults : List FaultLog) : Prop :=
  t.latched = faults.foldl (fun l f => l.insert f.detail.kind) s.latched ∧
  t.firstFault = (match faults with
    | f :: _ => if s.latched = noKinds then some f else s.firstFault
    | [] => s.firstFault)

/-- `t` has taken these faults of `s`, all of one kind, in an order that no rule gives: the log, when it was
armed, holds one of them (R148). -/
abbrev LatchesEither (s t : State) (kind : FaultKind) (faults : List FaultLog) : Prop :=
  t.latched = s.latched.insert kind ∧
  (s.latched = noKinds → ∃ f ∈ faults, t.firstFault = some f) ∧
  (s.latched ≠ noKinds → t.firstFault = s.firstFault)

/-- The own station as the maker of a report (R152). -/
def ownStation (s : State) : Deliverer := .station s.config.identity.station

/-- An entry's LATE report at a clock value (R62, R64). -/
def lateBody (s : State) (clock : StoreTime) (e : Entry) : ReportBody :=
  ⟨.late, e.label, e.target, clock, ownStation s, e.attempts, e.notes, e.lastGroup⟩

/-- An entry's fault 205 (R64, R145). -/
def lateFault (s : State) (e : Entry) : FaultLog := ⟨.d205, e.label, 0, e.lastGroup, s.clock⟩

/-- An entry's HELD report (R50, R62). -/
def heldBody (s : State) (e : Entry) : ReportBody :=
  ⟨.held, e.label, e.target, s.clock, ownStation s, e.attempts, e.notes, e.lastGroup⟩

/-- An entry's SUPERSEDED report, of the entry as it was (R43, R62). -/
def supersededBody (s : State) (e : Entry) : ReportBody :=
  ⟨.superseded, e.label, e.target, s.clock, ownStation s, e.attempts, e.notes, e.lastGroup⟩

/-- An entry's fault 201 (R50, R145). -/
def heldFault (s : State) (e : Entry) : FaultLog := ⟨.d201, e.label, 0, e.lastGroup, s.clock⟩

/-! ### Evaluations, promotions and chains -/

/-- An entry not CLOSING after an evaluation at a clock value (R63, R64). -/
def evaluatedAt (c : StationConfig) (clock : StoreTime) (e : Entry) : Entry :=
  { e with
    late := decide (e.effective.toNat ≤ clock.toNat)
    lane := if c.sources.classMap[e.cls] = .urgent ∨ e.effective = 0 ∨
        e.effective.toNat ≤ clock.toNat + c.policy.lateMargin then .urgent else .night }

/-- The attempt limit of a label (R56): the configured one, halved and rounded up when the Roster records a
battery level of 0, 1 or 2. -/
def attemptLimitOf (s : State) (l : LabelAddr) : Nat :=
  if (s.recordOf l).any (fun r => decide (r.battery.toNat ≤ 2)) then (s.config.policy.attemptLimit + 1) / 2
  else s.config.policy.attemptLimit

/-- Items with those of a later change in place of their kinds (R35). -/
def overlaid (old new : Items) : Items where
  price := new.price <|> old.price
  unit := new.unit <|> old.unit
  badge := new.badge <|> old.badge
  stock := new.stock <|> old.stock
  ends := new.ends <|> old.ends
  locate := new.locate <|> old.locate

/-- An entry with other content: its items, their face and computation notes, its record note, and no fit
notes (R16). -/
def withContent (items : Items) (masked : Bool) (e : Entry) : Entry :=
  { e with
    items := items, face := computeFace items
    notes := { masked := masked, comp := computeNotes items, fit := {} } }

/-- The entry that a successor part becomes at its promotion (R60). -/
def promotedEntry (s : State) (e : Entry) (p : Successor) : Entry :=
  evaluatedAt s.config s.clock <| withContent p.items p.masked
    { e with
      state := .waiting, base := .version e.target, target := p.target, effective := p.effective, cls := p.cls
      lastGroup := p.lastGroup, attempts := 0, limit := attemptLimitOf s e.label, lastOutcome := none
      successor := none }

/-- What a closed entry's slot holds next: its successor part, promoted, or nothing (R60). -/
def promotedOf (s : State) (e : Entry) : Option Entry := e.successor.map (promotedEntry s e)

/-- The book without a closed entry, or with its successor part promoted in its slot (R60). -/
def closedBook (s : State) (e : Entry) : List Entry :=
  match promotedOf s e with
  | some n => putEntry n s.book
  | none => s.book.filter (fun x => x.slot != e.slot)

/-- The entries made late by the promotion of a closed entry's successor part: at most one. -/
def promotedLate (s : State) (e : Entry) : List Entry := (promotedOf s e).toList.filter (fun n => n.late)

/-- The closing report of an entry that closes with a closing record (R62). -/
def closingOf (e : Entry) (r : ClosingRecord) : ReportBody :=
  ⟨match r.outcome with
      | .delivered => .delivered
      | .peerDelivered => .peerDelivered
      | .seenCurrent => .seenCurrent
      | .abandoned => .abandoned
      | .mismatch => .mismatch,
    e.label, if r.outcome = .delivered ∨ r.outcome = .abandoned then e.target else r.version,
    r.time, r.deliverer, e.attempts, e.notes, e.lastGroup⟩

/-- An entry that enters CLOSING in this state has its report queued at once: the closing order list is empty and
the report queue has room (R59). -/
def closesNow (s : State) : Bool := decide (s.closing = [] ∧ s.reports.length < 256)

/-- The entries that an entry's closing makes late at once: its successor part, promoted late. -/
def closingLate (s : State) (e : Entry) : List Entry := if closesNow s then promotedLate s e else []

/-- `t` has closed an entry of `s` with this closing record (R59 to R62, R64). With the closing order list empty
and room in the queue its report is queued at once, and its slot freed or its successor part promoted; otherwise
the entry is CLOSING with the record, not late and for the rest as it was, its slot is at the end of the closing
order list, and nothing is reported yet. -/
abbrev Closes (s t : State) (e : Entry) (r : ClosingRecord) : Prop :=
  (closesNow s = true →
    t.book = closedBook s e ∧ t.closing = s.closing ∧
    Queues s t (closingOf e r ::
      ((promotedLate s e).map (lateBody s s.clock)).take (255 - s.reports.length))) ∧
  (closesNow s = false →
    t.book = putEntry { e with state := .closing r, late := false } s.book ∧
    t.closing = s.closing ++ [e.slot] ∧ SameReports s t)

/-- An entry that returns to WAITING from IN_TRANSFER: with its successor part chained into it, or taken as
promotion takes it where the chain would break the version law (R57). The model's inference (log entry 15): the
last transfer outcome, which a promotion removes, stays also where the chain would break the law. -/
def waitingAgain (s : State) (e : Entry) : Entry :=
  match e.successor with
  | none => { e with state := .waiting }
  | some p =>
    let next := { e with
      state := .waiting, target := p.target, effective := p.effective, cls := p.cls, lastGroup := p.lastGroup
      attempts := 0, successor := none }
    evaluatedAt s.config s.clock <|
      if VersionLaw e.base p.target then
        withContent (overlaid e.items p.items) (e.notes.masked || p.masked) next
      else
        withContent p.items p.masked
          { next with base := .version e.target, limit := attemptLimitOf s e.label }

/-- The entries made late by an entry's return to WAITING: at most one (R57, R64). -/
def waitingLate (s : State) (e : Entry) : List Entry :=
  [waitingAgain s e].filter (fun n => n.late && !e.late)

/-- `t` has returned an entry of `s` to WAITING (R57, R64); with the model's inference of `waitingAgain` (log
entry 15) where the chain would break the version law. -/
abbrev ReturnsToWaiting (s t : State) (e : Entry) : Prop :=
  t.book = putEntry (waitingAgain s e) s.book ∧
  Queues s t (((waitingLate s e).map (lateBody s s.clock)).take (256 - s.reports.length))

/-- The closing report of a CLOSING entry (R62). -/
def closingBody (e : Entry) : Option ReportBody :=
  match e.state with
  | .closing r => some (closingOf e r)
  | .waiting | .held | .yielded _ | .inTransfer => none

/-- `t` has used the closing order list of `s` from its head while the queue, which held `kept`, had room: the
closing reports in the order of the list, each slot freed or its successor part promoted, and when the list is
empty or the queue full the LATE reports of the promoted entries, in order (R60, R61). -/
abbrev Drained (s t : State) (kept : List Report) : Prop :=
  let m := min s.closing.length (256 - kept.length)
  let closed := (s.closing.take m).filterMap s.entryAt
  let late := closed.flatMap (promotedLate s)
  let bodies := closed.filterMap closingBody ++
    (late.map (lateBody s s.clock)).take (256 - kept.length - m)
  t.closing = s.closing.drop m ∧
  t.book = s.book.filterMap (fun e => if e.slot ∈ s.closing.take m then promotedOf s e else some e) ∧
  t.reports = kept ++ numbered s.nextSeq bodies ∧
  t.nextSeq = s.nextSeq + BitVec.ofNat 16 bodies.length ∧
  Latches s t (late.map (lateFault s))

/-- The entries whose late flag becomes set at a clock value, in order of slot (R64). -/
def newlyLate (s : State) (clock : StoreTime) : List Entry :=
  s.book.filter (fun e => !e.isClosing && !e.late && decide (e.effective.toNat ≤ clock.toNat))

/-- What an evaluation at a clock value reports and latches: a LATE report for every entry whose late flag
becomes set, in order of slot, as far as the queue has room, and a fault of the delivery kind when there is
one (R64, R148, R153). -/
abbrev LateNews (s t : State) (clock : StoreTime) : Prop :=
  Queues s t (((newlyLate s clock).map (lateBody s clock)).take (256 - s.reports.length)) ∧
  (t.latched.delivery = true ↔ s.latched.delivery = true ∨ newlyLate s clock ≠ [])

/-! ### The halt -/

/-- The station with no kind of severity STOP. -/
def unstopped (s : State) : State :=
  { s with config := { s.config with policy := { s.config.policy with
      severity := ⟨.continue_, .continue_, .continue_, .continue_, .continue_, .continue_⟩ } } }

/-- What a frame cut short counts of the estimate, as sent whole; a re-send is not covered by it (R89, R99). -/
def cutAirtime (c : TransferContext) : Phase → Nat
  | .awaitReady => 584
  | .sending false => 376 + 16 * ((c.face.drop (16 * (c.fragment - 1))).take 16).length
  | .sending true | .awaitAck | .awaitDone => 0

/-- `t` is `s` with a halt taken (R98, R99, R119, R128, R141): HALTED, with nothing on the air, no quiet wait and no
standoff. A transfer is cut off: its entry returns to WAITING as CUT_OFF, and the estimate less what was sent is
returned. The model's choice (log entry 26): a cut before the OFFER has been sent may fall at the very start, and
then it returns the estimate whole. -/
abbrev HaltsWork (s t : State) : Prop :=
  t.opState = .halted ∧ t.dialogue = .listening ∧ t.transmitting = none ∧ t.quietWait = none ∧
  t = { s with
    opState := t.opState, dialogue := t.dialogue, transmitting := t.transmitting, quietWait := t.quietWait,
    budget := t.budget, book := t.book, reports := t.reports, nextSeq := t.nextSeq, latched := t.latched,
    firstFault := t.firstFault, choices := t.choices } ∧
  (s.isTransferring = false →
    t.book = s.book ∧ t.budget = s.budget ∧ SameReports s t ∧ SameFaults s t ∧ t.choices = s.choices) ∧
  (∀ p c e, s.dialogue = .transferring p c → s.entryAt c.slot = some e →
    (let back := { e with lastOutcome := some .cutOff }
    let returned := fun n => min (s.budget + (estimateOf c.face - (c.covered + n))) (s.config.policy.capacity * 100)
    ReturnsToWaiting s t back ∧ Latches s t ((waitingLate s back).map (lateFault s)) ∧
    (t.budget = returned (if s.transmitting = none then 0 else cutAirtime c p) ∨
      (p = .awaitReady ∧ s.transmitting ≠ none ∧ t.budget = returned 0))))

/-! ### A group's records, taken in order -/

/-- What the records of a group so far have made of one label (R34 to R37): no entry yet, the change of its new or
open entry and whether a record has replaced it, or its entry IN_TRANSFER or CLOSING with the successor part. -/
inductive LabelView where
  | absent
  | change (base : Base) (target : Version) (items : Items) (masked replaced : Bool)
  | later (e : Entry)
deriving DecidableEq, Repr

/-- A label as the book holds it before a fold. -/
def viewOf (s : State) (l : LabelAddr) : LabelView :=
  match s.entryOf l with
  | none => .absent
  | some e => if e.isOpen then .change e.base e.target e.items e.notes.masked false else .later e

/-- A record of group `g` on its label (R35 to R37): MERGE, CHAIN, REPLACE, a new entry or a successor part; or why
it stops the fold: its fault, or none where it meets a busy entry (R39). -/
def LabelView.take (g : OpenGroup) (r : GatheredRecord) : LabelView → Except (Option Detail) LabelView
  | .absent => .ok (.change r.base r.target r.items r.masked false)
  | .change base target items masked replaced =>
    if r.base = base ∧ r.target = target then
      .ok (.change base target (overlaid items r.items) (masked || r.masked) replaced)
    else if r.base = .version target ∧ VersionLaw base r.target then
      .ok (.change base r.target (overlaid items r.items) (masked || r.masked) replaced)
    else if (match r.base with
        | .any => true
        | .version b => newer b target) = true ∧ atLeast r.target target = true then
      .ok (.change r.base r.target r.items r.masked true)
    else .error (some (if newer target r.target then .d132 else .d133))
  | .later e =>
    match e.successor with
    | none =>
      if r.base = .version e.target then
        .ok (.later { e with
          successor := some ⟨e.target, r.target, r.items, g.effective, g.cls, g.number, r.masked⟩ })
      else .error (if e.isClosing then some .d132 else none)
    | some p =>
      if r.base = .version p.base ∧ r.target = p.target ∨
          r.base = .version p.target ∧ newer r.target e.target = true then
        .ok (.later { e with
          successor := some ⟨p.base, r.target, overlaid p.items r.items, g.effective, g.cls, g.number,
            p.masked || r.masked⟩ })
      else .error (some .d133)

/-- What a group's records up to some point have made of a label: its own records, in order (R34). -/
def viewAfter (g : OpenGroup) (s : State) (rs : List GatheredRecord) (l : LabelAddr) :
    Except (Option Detail) LabelView :=
  (rs.filter (fun r => r.label == l)).foldlM (fun v r => v.take g r) (viewOf s l)

/-- The labels of a group's records, each once, in order of its first record. -/
def labelsOf : List GatheredRecord → List LabelAddr
  | [] => []
  | r :: rs => r.label :: (labelsOf rs).filter (fun l => l != r.label)

/-- The label has an entry WAITING, HELD or YIELDED. -/
def hasOpen (s : State) (l : LabelAddr) : Bool := (s.entryOf l).any Entry.isOpen

/-- Some record so far has replaced the label's change. -/
def replacedAfter (g : OpenGroup) (s : State) (rs : List GatheredRecord) (l : LabelAddr) : Bool :=
  match viewAfter g s rs l with
  | .ok (.change _ _ _ _ replaced) => replaced
  | .ok .absent | .ok (.later _) | .error _ => false

/-- The entries of the book that a group's records replace, in order of the first record that replaces each
(R43). -/
def supersededEntries (g : OpenGroup) (s : State) : List Entry :=
  (List.range g.gathered.length).filterMap (fun k =>
    (g.gathered[k]?).bind (fun r =>
      if replacedAfter g s (g.gathered.take (k + 1)) r.label &&
          !replacedAfter g s (g.gathered.take k) r.label then
        s.entryOf r.label
      else none))

/-- The entry of a label with a change that a fold has made of it (R36, R41, R56), from its entry before or, with
none, in the slot given. -/
def foldedEntry (g : OpenGroup) (s : State) (slot : Nat) (l : LabelAddr) : LabelView → Option Entry
  | .absent => none
  | .change base target items masked _ =>
    let made : Entry := (s.entryOf l).getD
      { slot, label := l, state := .waiting, lane := .night, late := false, base, target,
        effective := g.effective, cls := g.cls, lastGroup := g.number, items, face := {}, notes := {},
        attempts := 0, limit := attemptLimitOf s l, lastOutcome := none, successor := none }
    some <| evaluatedAt s.config s.clock <| withContent items masked
      { made with
        state := .waiting, base := base, target := target, effective := g.effective, cls := g.cls,
        lastGroup := g.number, attempts := 0 }
  | .later e => some e

/-- The entry of a label after its re-check for fit, which an entry that was HELD before the fold has against the
model of the Roster (R41, R51). The model's inference (log entry 16): no other entry is fitted again. -/
def refittedEntry (s : State) (e : Entry) : Entry :=
  if (s.entryOf e.label).any (fun o => o.state == .held) then
    match s.recordOf e.label with
    | none => e
    | some x =>
      match fit e.face s.config.models[x.model.toFin] with
      | some (_, n) => { e with notes := { e.notes with fit := n } }
      | none => { e with state := .held }
  else e

/-- The entry that a group's records, all taken, leave a label. -/
def entryAfter (g : OpenGroup) (s : State) (slot : Nat) (l : LabelAddr) : Option Entry :=
  match viewAfter g s g.gathered l with
  | .ok v =>
    (foldedEntry g s slot l v).map (fun e => if (s.entryOf l).all Entry.isOpen then refittedEntry s e else e)
  | .error _ => none

/-- A touched entry after a fold was made late by it. -/
def madeLate (s : State) (e : Entry) : Bool := e.late && !(s.entryOf e.label).any (fun o => o.late)

/-- What a fold reports of a touched entry, LATE before HELD (R41, R62). The LATE report has the notes of before the
re-check. -/
def foldBodies (s : State) (e : Entry) : List ReportBody :=
  (if madeLate s e then [lateBody s s.clock { e with notes := { e.notes with fit := {} } }] else []) ++
  (if e.state = .held then [heldBody s e] else [])

/-- The faults that a fold takes of a touched entry, 205 before 201 (R41). -/
def foldFaults (s : State) (e : Entry) : List FaultLog :=
  (if madeLate s e then [lateFault s e] else []) ++ (if e.state = .held then [heldFault s e] else [])

/-! ### Frames of a label heard -/

/-- The Roster after a frame of a label other than a CALL (R70, R72, R73): the label's record has the frame's
level and time and the version it states, and is at the head of the recency order; a label with no record
leaves the Roster as it is. -/
def heardRoster (s : State) (l : LabelAddr) (version : Option Version) (rssi : Int) : List RosterRecord :=
  match s.recordOf l with
  | some r =>
    { r with held := version.getD r.held, signal := max (-120) (min rssi 0), lastHeard := s.clock } ::
      s.roster.filter (fun x => x.label != l)
  | none => s.roster

/-- The Roster after a CALL (R69 to R71, R73, R75, R76): the label's record, or a new one in the lowest-numbered
free slot, or with every slot occupied in that of the least recently heard record whose label has no entry, if
there is one; at the head of the recency order. -/
def calledRoster (f : CallFrame) (rssi : Int) (s : State) : List RosterRecord :=
  let record := fun (slot calls : Nat) =>
    (⟨slot, f.label, f.model, f.held, f.battery, max (-120) (min rssi 0), s.clock, calls,
      s.isTransferring⟩ : RosterRecord)
  match s.recordOf f.label with
  | some r => record r.slot (min (r.calls + 1) 65535) :: s.roster.filter (fun x => x.label != f.label)
  | none =>
    if s.roster.length < 4096 then
      record (((List.range (s.roster.length + 1)).find? (fun n => s.roster.all (fun r => r.slot != n))).getD 0) 1 ::
        s.roster
    else
      match (s.roster.filter (fun r => (s.entryOf r.label).isNone)).getLast? with
      | some v => record v.slot 1 :: s.roster.filter (fun x => x.label != v.label)
      | none => s.roster

/-- The tally list after a pair joins it (R115): an equal pair does not join again, and the oldest of 64 pairs
makes way. -/
def tallyJoined (p : LabelAddr × Version) (l : List (LabelAddr × Version)) : List (LabelAddr × Version) :=
  if p ∈ l then l else l.drop (l.length - 63) ++ [p]

/-- The dialogue after a frame that no phase awaits, before any deadline (R81, R107): a standoff has ended, and
a wait goes on. -/
def dialogueGoesOn : Dialogue → Dialogue
  | .standingOff _ => .listening
  | .transferring p c => .transferring p { c with wait := c.wait.map (fun w => { w with met := false }) }
  | .listening => .listening
  | .tallying n => .tallying n

/-- No wait has passed its deadline (R81). -/
def deadlineAhead (s : State) : Bool :=
  match s.dialogue with
  | .transferring _ c => c.wait.all (fun w => !w.passed)
  | .listening | .standingOff _ | .tallying _ => true

/-- The command by which the wait of a phase expires (R87, R91, R92). -/
def expiryOf : Phase → Option Instr
  | .awaitReady => some .readyWaitExpiry
  | .awaitAck => some .ackWaitExpiry
  | .awaitDone => some .doneWaitExpiry
  | .sending _ => none

/-- `i` is the end of a frame, heard in `s`, that no phase awaits, and `u` is `s` with what the frame does to the
blocks beside the Engine (R81, R88, R107). A standoff has ended, and a wait whose deadline is ahead goes on. A wait
that the frame's start had met and whose deadline has passed expires now, after what the frame does; that order is
the model's inference (log entry 23). -/
abbrev NotAwaited (i : Instr) (s u : State) : Prop :=
  (deadlineAhead s = true →
    ∃ t, exec i s = .next t ∧ t.dialogue = dialogueGoesOn s.dialogue ∧ t.carriers = s.carriers - 1 ∧
      QuietWaitFollows t ∧
      t = { u with dialogue := t.dialogue, carriers := t.carriers, quietWait := t.quietWait }) ∧
  (∀ p c w x, s.dialogue = .transferring p c → c.wait = some w → w.met = true → w.passed = true →
    expiryOf p = some x →
    exec i s = exec x { u with
      dialogue := .transferring p { c with wait := some { w with met := false } }, carriers := s.carriers - 1 })

/-- The label of the transfer in flight (R88). -/
def transferLabel (s : State) : Option LabelAddr :=
  match s.dialogue with
  | .transferring _ c => some c.label
  | .listening | .standingOff _ | .tallying _ => none

/-- `t` has taken one pair of a TALLY from a peer (R49, R72, R88, R104, R120). A pair of an address outside
1..16,777,214 is skipped. The Roster takes a newer version and keeps an equal, older or ambiguous one, moving no
record. The label's open entry whose target the version reaches closes as PEER_DELIVERED by the sender, unless the
label is the one in transfer; every other entry is unchanged. -/
abbrev TakesPair (sender : StationNo) (p : LabelAddr × Version) (s t : State) : Prop :=
  (p.1.toNat < 1 ∨ 16777214 < p.1.toNat → t = s) ∧
  (1 ≤ p.1.toNat → p.1.toNat ≤ 16777214 →
    t.roster = s.roster.map (fun r =>
      if r.label = p.1 ∧ newer p.2 r.held = true then { r with held := p.2 } else r) ∧
    (∀ e, transferLabel s ≠ some p.1 → s.entryOf p.1 = some e → e.isOpen = true →
      atLeast p.2 e.target = true →
      Closes s t e ⟨.peerDelivered, .station sender, p.2, s.clock⟩ ∧
      Latches s t ((closingLate s e).map (lateFault s))) ∧
    (transferLabel s = some p.1 ∨
        (∀ e, s.entryOf p.1 = some e → e.isOpen = false ∨ atLeast p.2 e.target = false) →
      SameBook s t ∧ SameReports s t ∧ SameFaults s t) ∧
    t = { s with
      book := t.book, closing := t.closing, roster := t.roster, reports := t.reports, nextSeq := t.nextSeq,
      latched := t.latched, firstFault := t.firstFault })

/-- `t` has taken the pairs of a TALLY from a peer, one after another (R120). -/
def TakesPairs (sender : StationNo) : List (LabelAddr × Version) → State → State → Prop
  | [], s, t => t = s
  | p :: ps, s, t => ∃ u, TakesPair sender p s u ∧ TakesPairs sender ps u t

/-- A DONE or REFUSE of the transfer's label that names the own station ends the transfer now (R90, R92). -/
def endAwaited (s : State) : Bool :=
  match s.dialogue with
  | .transferring .awaitDone _ => true
  | .transferring .awaitAck c => c.fragment == fragmentCount c.face
  | .transferring .awaitReady _ | .transferring (.sending _) _ | .listening | .standingOff _
  | .tallying _ => false

/-- The phase awaits a READY (R87). -/
def readyIsAwaited (s : State) : Bool :=
  match s.dialogue with
  | .transferring .awaitReady _ => true
  | .transferring .awaitAck _ | .transferring .awaitDone _ | .transferring (.sending _) _ | .listening
  | .standingOff _ | .tallying _ => false

/-! ### Kinds of command -/

/-- The command is an event of the air (chapters 5 and 6). -/
def isOfAir : Instr → Bool
  | .airFrameDiscarded _ _ | .frameStart | .carrierSensed | .carrierEnd | .call _ _ | .standoffEnd
  | .offerSent | .ready _ _ | .readyWaitExpiry | .fragSent | .fragAck _ | .ackWaitExpiry | .done _ _
  | .doneWaitExpiry | .refuse _ _ | .peerOffer _ | .peerFrag _ | .peerTally _ | .quietWaitEnd
  | .tallySent => true
  | .coldStart | .lineReset | .lineResetRelease | .headerRead _ _ | .groupRead _ _ _ | .configReadTimeout
  | .clockSecond | .yieldEnd | .groupIdleTimeout | .tallyPeriodEnd | .batchFrameEnd _ | .linkLoss
  | .responseSent | .heldFrameTaken | .status | .setTime _ | .openGroup _ _ _ | .record _
  | .closeGroup _ _ | .abortGroup | .start | .pause | .resume | .stop | .clearFaults | .takeReports _
  | .closingListDrain | .readEntry _ _ | .readRoster _ _ | .withdraw _ | .setAttention _ | .resetPort
  | .batchByteReceived _ _ => false

/-- The command of a decoded frame that ends (chapters 5 and 6). -/
def commandOf (f : AirFrame) (rssi : Int) : Instr :=
  match f with
  | .call f => .call f rssi
  | .offer f => .peerOffer f
  | .ready f => .ready f rssi
  | .frag f => .peerFrag f
  | .fragAck f => .fragAck f
  | .done f => .done f rssi
  | .refuse f => .refuse f rssi
  | .tally f => .peerTally f

/-! ### Sequences of commands -/

/-- The commands executed one after another, from an outcome. -/
def execAll : List Instr → State → Host.Outcome State Fault Refusal
  | [], s => .next s
  | c :: cs, s =>
    match exec c s with
    | .next t => execAll cs t
    | .fault f => .fault f
    | .refused r => .refused r

/-- The bytes of a request frame on the link (12.3): the sync byte, the length, the kind, the body and the
frame check. -/
def linkBytes (kind : Byte) (body : List Byte) : List Byte :=
  let checked := bytesOfNat 2 (body.length + 1) ++ kind :: body
  0xA5 :: (checked ++ bytesOfBits 2 (crc16 checked))

/-! ### RECORD bodies (12.3.1) -/

/-- The bytes of an item of a known kind. -/
def RawItem.bytes : RawItem → List Byte
  | .price ticket kind value modulus ending floor =>
    1 :: (bytesOfNat 4 ticket ++ bytesOfNat 1 kind ++ bytesOfNat 4 value ++ bytesOfNat 2 modulus ++
      bytesOfNat 2 ending ++ bytesOfNat 4 floor)
  | .unit quantity basis code => 2 :: (bytesOfNat 4 quantity ++ bytesOfNat 4 basis ++ bytesOfNat 1 code)
  | .badge code => 3 :: bytesOfNat 1 code
  | .stock code => 4 :: bytesOfNat 1 code
  | .ends day => 5 :: bytesOfNat 2 day
  | .locate minutes => 6 :: bytesOfNat 1 minutes
  | .unknown => []

/-- The item is of a known kind and its values fit their fields. -/
def RawItem.fits : RawItem → Bool
  | .price ticket kind value modulus ending floor =>
    decide (ticket < 4294967296 ∧ kind < 256 ∧ value < 4294967296 ∧ modulus < 65536 ∧ ending < 65536 ∧
      floor < 4294967296)
  | .unit quantity basis code => decide (quantity < 4294967296 ∧ basis < 4294967296 ∧ code < 256)
  | .badge code | .stock code | .locate code => decide (code < 256)
  | .ends day => decide (day < 65536)
  | .unknown => false

/-- The item's codes lie within their sets (R25, check 3; 12.2). -/
def RawItem.codesInSets : RawItem → Bool
  | .price _ kind _ _ _ _ => decide (kind ≤ 3)
  | .unit _ _ code => decide (1 ≤ code ∧ code ≤ 6)
  | .badge code => decide (code ≤ 5)
  | .stock code => decide (code ≤ 3)
  | .ends _ | .locate _ | .unknown => true

/-- The item's values lie in their ranges (R25, check 7). -/
def RawItem.valuesGood : RawItem → Bool
  | .price ticket kind value modulus ending floor =>
    decide (1 ≤ ticket ∧ ticket ≤ 9999999 ∧ (kind = 1 → value ≤ 1000) ∧ (kind = 2 → value ≤ 9999999) ∧
      (kind = 3 → 1 ≤ value ∧ value ≤ 9999999) ∧
      ((modulus = 0 ∧ ending = 0) ∨ ((modulus = 10 ∨ modulus = 100 ∨ modulus = 1000) ∧ ending < modulus)) ∧
      floor ≤ ticket)
  | .unit quantity basis _ => decide (1 ≤ quantity ∧ quantity ≤ 999999 ∧ 1 ≤ basis ∧ basis ≤ 100000)
  | .locate minutes => decide (minutes ≤ 240)
  | .badge _ | .stock _ | .ends _ | .unknown => true

/-! ### The configuration image (12.4) -/

/-- A severity's byte. -/
def Severity.byte : Severity → Byte
  | .continue_ => 0
  | .stop => 1

/-- A kind mask's byte. -/
def KindMask.byte : KindMask → Byte
  | .attended => 0
  | .quiet => 1

/-- A source mask's byte. -/
def ItemSet.toByte (m : ItemSet) : Byte := byteOfBits [m.price, m.unit, m.badge, m.stock, m.ends, m.locate]

/-- A field set's byte. -/
def FieldSet.toByte (f : FieldSet) : Byte :=
  byteOfBits [f.was, f.save, f.unit, f.badge, f.stock, f.ends, f.locate]

/-- One byte for each fault kind. -/
def perKindBytes {α : Type} (f : α → Byte) (p : PerKind α) : List Byte :=
  [f p.recordForm, f p.recordRange, f p.group, f p.book, f p.delivery, f p.config]

/-- The contents of configuration group `k` (12.4). -/
def imageContents (c : StationConfig) : Nat → List Byte
  | 1 =>
    [c.identity.station] ++ bytesOfBits 2 c.identity.site ++
    [BitVec.ofNat 8 c.identity.channel, if c.identity.rate = .r115200 then 0 else 1]
  | 2 => c.sources.masks.toList.map ItemSet.toByte ++ c.sources.classMap.toList.map Lane.byte
  | 3 =>
    c.models.toList.flatMap (fun m =>
      [BitVec.ofNat 8 m.priceDigits, BitVec.ofNat 8 m.unitDigits, m.fields.toByte])
  | 4 =>
    perKindBytes Severity.byte c.policy.severity ++ perKindBytes KindMask.byte c.policy.mask ++
    [c.policy.enable.toByte, BitVec.ofNat 8 c.policy.attemptLimit] ++ bytesOfNat 4 c.policy.lateMargin ++
    bytesOfNat 4 c.policy.capacity ++ bytesOfNat 2 c.policy.refill ++ bytesOfNat 4 c.policy.reserve
  | _ => []

/-- The contents of configuration group `k` lie in their ranges (R174, 12.4): numbers within their bounds,
enumeration bytes within their codes, and no bit of a set byte above its last member. -/
def groupInRange (k : Nat) (c : List Byte) : Bool :=
  let at_ := fun (i : Nat) => (c.getD i 0).toNat
  let number := fun (i n : Nat) => natOfBytes ((c.drop i).take n)
  match k with
  | 1 => decide (1 ≤ at_ 0 ∧ at_ 0 ≤ 250 ∧ at_ 3 ≤ 7 ∧ at_ 4 ≤ 1)
  | 2 => decide ((∀ i < 8, at_ i < 2 ^ 6) ∧ (∀ i < 8, at_ (8 + i) ≤ 1))
  | 3 =>
    decide (∀ i < 16, 4 ≤ at_ (3 * i) ∧ at_ (3 * i) ≤ 7 ∧ at_ (3 * i + 1) ≤ 6 ∧ at_ (3 * i + 2) < 2 ^ 7)
  | 4 =>
    decide <| (∀ i < 12, at_ i ≤ 1) ∧ at_ 12 < 2 ^ 6 ∧ 1 ≤ at_ 13 ∧ at_ 13 ≤ 15 ∧ number 14 4 ≤ 86400 ∧
    1000 ≤ number 18 4 ∧ number 18 4 ≤ 360000 ∧ 1 ≤ number 22 2 ∧ number 22 2 ≤ 1000 ∧
    number 24 4 ≤ number 18 4
  | _ => false

/-- The sum check that makes a group's sum 0 modulo 65,536 (R173). -/
def imageSum (contents : List Byte) : BitVec 16 := 0 - BitVec.ofNat 16 (contents.length + byteSum contents)

/-- The read of a group that holds these contents. -/
def groupReadOf (contents : List Byte) : Instr :=
  .groupRead (BitVec.ofNat 8 contents.length) contents (imageSum contents)

/-- The reads of an image that holds a configuration in four groups. -/
def imageReads (c : StationConfig) : List Instr :=
  [.headerRead 0x5A1E 4, groupReadOf (imageContents c 1), groupReadOf (imageContents c 2),
   groupReadOf (imageContents c 3), groupReadOf (imageContents c 4)]

end Sys2Proof.Machine
end

