-- ==== Sys2Proof/WellFormed.lean ====
section
/-! DEFINITION. Well-formed commands: those whose operands a frame of chapter 12 can carry, with the
ranges that R104 and R160 ask of a frame before any block acts on it. `exec` gives an ill-formed command a
meaning too (an ill-formed air frame is discarded, R104). -/

namespace Sys2Proof

/-- 1..16,777,214 (R23). -/
def LabelAddr.wf (a : LabelAddr) : Bool := decide (1 ≤ a.toNat) && decide (a.toNat ≤ 16777214)

/-- 1..250 (R104, check 5). -/
def StationNo.wf (n : StationNo) : Bool := decide (1 ≤ n.toNat) && decide (n.toNat ≤ 250)

/-- A request body holds at most 254 bytes: a length of 1..255 counts the kind too (R160). -/
def requestBodyFits (body : List Byte) : Bool := decide (body.length ≤ 254)

/-- The operands of a command lie in the ranges their frame gives them. -/
def Instr.wf : Instr → Bool
  | .groupRead length contents _ => decide (contents.length = length.toNat)
  | .batchFrameEnd f => requestBodyFits f.body
  | .record body => requestBodyFits body
  | .airFrameDiscarded bytes _ => decide (bytes.length ≤ 257)
  | .call f _ => f.label.wf
  | .ready f _ => StationNo.wf f.station && f.label.wf
  | .fragAck f => StationNo.wf f.station && f.label.wf
  | .done f _ => StationNo.wf f.station && f.label.wf
  | .refuse f _ => StationNo.wf f.station && f.label.wf
  | .peerOffer f => StationNo.wf f.sender && f.label.wf
  | .peerFrag f => StationNo.wf f.sender && f.label.wf && decide (f.payload.length ≤ 16)
  | .peerTally f => StationNo.wf f.sender && decide (f.pairs.length ≤ 16)
  | .coldStart | .lineReset | .lineResetRelease | .headerRead _ _ | .configReadTimeout
  | .clockSecond | .yieldEnd | .groupIdleTimeout | .tallyPeriodEnd
  | .linkLoss | .responseSent | .heldFrameTaken
  | .status | .setTime _ | .openGroup _ _ _ | .closeGroup _ _ | .abortGroup
  | .start | .pause | .resume | .stop | .clearFaults | .takeReports _ | .closingListDrain
  | .readEntry _ _ | .readRoster _ _ | .withdraw _ | .setAttention _ | .resetPort
  | .frameStart | .carrierSensed | .carrierEnd | .standoffEnd | .offerSent
  | .readyWaitExpiry | .fragSent | .ackWaitExpiry | .doneWaitExpiry | .quietWaitEnd | .tallySent
  | .batchByteReceived _ _ => true

end Sys2Proof
end

