-- ==== Sys2Proof/Certificates/Slice0/Obligations.lean ====
section
/-! DEFINITION. The statements for the provers. Each is one `Prop`; OBLIGATIONS.json gives its title, its
tier and the rules it rests on, and Sys2Proof/Tests/Slice0.lean a state and operands that meet its
hypotheses. -/

open Sys2Proof Sys2Proof.Machine

/-! ### The step and the queue -/

/-- A step takes the command at the front of the queue and executes it with the queue's rest. -/
def Obligations.StepTakesFrontCommand : Prop :=
  ∀ (c : Instr) (s : State), step { s with pending := c :: s.pending } = exec c s

/-- No command ends in a fault or a refusal: in every state, with any operands, there is a next state; and no
command touches the commands that wait behind it. The model's choice: a command whose event cannot occur
changes nothing (log entry 2), and the queue is the model's own (log entry 6). -/
def Obligations.EveryCommandCompletes : Prop :=
  ∀ (i : Instr) (s : State), ∃ t, exec i s = .next t ∧ t.pending = s.pending

/-! ### Resets and the autoload -/

/-- COLD_START leaves every block at the values the manual gives for a cold start. LINE_RESET empties what a
cold start empties, but keeps the clock, its set flag, its timebase, the line rate and the configuration in
force; no autoload runs while the input is held, and LINE_RESET_RELEASE begins one with the defaults pending
(R68, R79, R80, R121, R131, R132, R135, R142, R143, R159, R170, R171). -/
def Obligations.ResetResults : Prop :=
  (∀ s : State, ∃ t, exec .coldStart s = .next t ∧
    t.opState = .starting ∧ t.lastReset = .cold ∧ t.clock = 0 ∧ t.clockSet = false ∧
    t.timebase = 0 ∧ t.lineReset = false ∧ t.config = defaultConfig ∧ t.autoload = some ⟨.header, defaultConfig⟩ ∧
    t.lineRate = .r115200 ∧ t.receiver = .hunting ∧ t.holding = [] ∧ t.response = none ∧ t.overrun = none ∧
    t.group = none ∧ t.book = [] ∧ t.closing = [] ∧ t.roster = [] ∧
    t.dialogue = .listening ∧ t.transmitting = none ∧ t.tally = [] ∧ t.tallyCount = 0 ∧ t.quietWait = none ∧
    t.budget = 0 ∧ t.latched = noKinds ∧ t.firstFault = none ∧ t.reports = [] ∧ t.nextSeq = 0 ∧
    t.carriers = 0 ∧ t.enable = defaultConfig.policy.enable ∧
    t.flags = ⟨false, false, false, false, false, false⟩ ∧ t.attnLow = false) ∧
  (∀ s : State, ∃ t, exec .lineReset s = .next t ∧
    t.opState = .starting ∧ t.lastReset = .line ∧ t.lineReset = true ∧ t.autoload = none ∧
    t.clock = s.clock ∧ t.clockSet = s.clockSet ∧ t.timebase = s.timebase ∧
    t.lineRate = s.lineRate ∧ t.config = s.config ∧
    t.receiver = .hunting ∧ t.holding = [] ∧ t.response = none ∧ t.overrun = none ∧
    t.group = none ∧ t.book = [] ∧ t.closing = [] ∧ t.roster = [] ∧
    t.dialogue = .listening ∧ t.transmitting = none ∧ t.tally = [] ∧ t.tallyCount = 0 ∧ t.quietWait = none ∧
    t.budget = 0 ∧ t.latched = noKinds ∧ t.firstFault = none ∧ t.reports = [] ∧ t.nextSeq = 0 ∧
    t.carriers = 0 ∧ t.enable = s.enable ∧
    t.flags = ⟨false, false, false, false, false, false⟩ ∧ t.attnLow = false) ∧
  (∀ s : State, s.lineReset = true →
    exec .lineResetRelease s =
      .next { s with lineReset := false, autoload := some ⟨.header, defaultConfig⟩ })

/-- An image of four groups whose values lie in their ranges loads as itself: after the reads it is the
configuration in force, every block has its settings, and the station is IDLE, or HALTED when a kind of
severity STOP is latched (R171 to R175). -/
def Obligations.ImageLoadsAsItself : Prop :=
  ∀ (c : StationConfig) (s : State),
    ConfigInRange c → c.identity.station ≠ 0 → s.autoload = some ⟨.header, defaultConfig⟩ →
    ∃ t, execAll (imageReads c) s = .next t ∧ t.config = c ∧ t.autoload = none ∧
      t.lineRate = c.identity.rate ∧ t.enable = c.policy.enable ∧
      t.opState = (if s.latched.anyWith (c.policy.severity.map (fun v => v == Severity.stop)) then
        OpState.halted else OpState.idle) ∧
      t = { s with
        config := t.config, autoload := t.autoload, lineRate := t.lineRate, receiver := t.receiver,
        enable := t.enable, opState := t.opState }

/-- The reads of an autoload (R172 to R175). A good header begins group 1, and a group that passes takes the
place of its defaults. A wrong header latches 402 and an unanswered read 401, both with every default in
force; a group of bad length or sum latches 403 and ends the autoload with the groups accepted so far; a
value out of range latches 404 and the group keeps its defaults. After the last group the pending
configuration comes into force, and the station is HALTED when a kind of severity STOP is latched and IDLE
otherwise. Out of range are exactly the contents outside `groupInRange`: a number outside its bounds (station 0 is
one), a code outside an enumeration's, a bit of a set byte above its last member (R174, 12.4). Contents in range
are read as the one configuration whose image they are, and leave the other groups. -/
def Obligations.AutoloadReads : Prop :=
  (∀ (k : Nat) (contents : List Byte) (p : StationConfig), k ∈ [1, 2, 3, 4] → contents.length = groupLength k →
    (takeGroup k contents p = none ↔ groupInRange k contents = false) ∧
    (∀ q, takeGroup k contents p = some q →
      imageContents q k = contents ∧ (k ≠ 1 → q.identity = p.identity) ∧ (k ≠ 2 → q.sources = p.sources) ∧
      (k ≠ 3 → q.models = p.models) ∧ (k ≠ 4 → q.policy = p.policy))) ∧
  (∀ (s : State) (p : StationConfig),
    (let ends := fun (i : Instr) (c : StationConfig) (faults : List FaultLog) =>
      ∃ t, exec i s = .next t ∧ t.autoload = none ∧ t.config = c ∧ t.lineRate = c.identity.rate ∧
        t.enable = c.policy.enable ∧
        t.receiver = (if s.lineRate = c.identity.rate then s.receiver else .hunting) ∧
        t.opState = (if t.latched.anyWith (c.policy.severity.map (fun v => v == Severity.stop)) then
          OpState.halted else OpState.idle) ∧
        Latches s t faults ∧
        t = { s with
          config := t.config, autoload := t.autoload, lineRate := t.lineRate, receiver := t.receiver,
          enable := t.enable, opState := t.opState, latched := t.latched, firstFault := t.firstFault,
          halt := t.halt }
    let fault := fun (d : Detail) (k : Nat) => (⟨d, 0, 0, BitVec.ofNat 16 k, s.clock⟩ : FaultLog)
    (∀ count : Byte, s.autoload = some ⟨.header, p⟩ → 1 ≤ count.toNat → count.toNat ≤ 4 →
      exec (.headerRead 0x5A1E count) s = .next { s with autoload := some ⟨.group 1 count.toNat, p⟩ }) ∧
    (∀ (signature : BitVec 16) (count : Byte),
      s.autoload = some ⟨.header, p⟩ → signature ≠ 0x5A1E ∨ count = 0 ∨ 4 < count.toNat →
      ends (.headerRead signature count) defaultConfig [fault .d402 0] ∧
      (∀ t, exec (.headerRead signature count) s = .next t → t.opState = .halted)) ∧
    (∀ stage : LoadStage, s.autoload = some ⟨stage, p⟩ →
      ends .configReadTimeout defaultConfig [fault .d401 0] ∧
      (∀ t, exec .configReadTimeout s = .next t → t.opState = .halted)) ∧
    (∀ (k count : Nat) (length : Byte) (contents : List Byte) (check : BitVec 16),
      s.autoload = some ⟨.group k count, p⟩ →
      length.toNat ≠ groupLength k ∨ contents.length ≠ groupLength k ∨
        (length.toNat + byteSum contents + check.toNat) % 65536 ≠ 0 →
      ends (.groupRead length contents check) p [fault .d403 k]) ∧
    (∀ (k count : Nat) (contents : List Byte) (check : BitVec 16),
      s.autoload = some ⟨.group k count, p⟩ → contents.length = groupLength k →
      (contents.length + byteSum contents + check.toNat) % 65536 = 0 →
      (let i : Instr := .groupRead (BitVec.ofNat 8 contents.length) contents check
      (∀ q, takeGroup k contents p = some q →
        (k < count → exec i s = .next { s with autoload := some ⟨.group (k + 1) count, q⟩ }) ∧
        (count ≤ k → ends i q [])) ∧
      (takeGroup k contents p = none →
        (k < count → ∃ t, exec i s = .next t ∧ t.autoload = some ⟨.group (k + 1) count, p⟩ ∧
          Latches s t [fault .d404 k] ∧
          t = { s with
            autoload := t.autoload, latched := t.latched, firstFault := t.firstFault, halt := t.halt }) ∧
        (count ≤ k → ends i p [fault .d404 k]))))))

/-! ### The passage of store time -/

/-- CLOCK_SECOND (R116, R125, R133, R29, R53, R63, R64): in STARTING only the clock moves; otherwise the book
ends its yields and evaluates every entry not CLOSING, reporting those that become late; the Meter refills; the
idle timer falls, discarding the group at 0; the tally counter rises. A log that was armed holds the fault 205
of the lowest slot, or the 126 of the group; with both it holds one of them, since no rule orders the two (R148;
log entry 3). Neither DELIVERY nor GROUP faults halt here. -/
def Obligations.ClockSecondResult : Prop :=
  ∀ s : State,
    (s.opState = .starting → exec .clockSecond s = .next { s with clock := s.clock + 1, timebase := 0 }) ∧
    (s.opState ≠ .starting → NothingHalts s [.group, .delivery] →
      ∃ t, exec .clockSecond s = .next t ∧
        t.clock = s.clock + 1 ∧ t.timebase = 0 ∧
        t.book = s.book.map (fun e =>
          if e.isClosing then e
          else evaluatedAt s.config (s.clock + 1)
            (if e.state = .yielded (s.clock + 1) then { e with state := .waiting } else e)) ∧
        t.budget = min (s.budget + s.config.policy.refill * 100) (s.config.policy.capacity * 100) ∧
        t.tallyCount = min (s.tallyCount + 1) 60 ∧
        t.group = s.group.bind (fun g => if 1 < g.idle then some { g with idle := g.idle - 1 } else none) ∧
        LateNews s t (s.clock + 1) ∧
        t.latched = { s.latched with
          delivery := t.latched.delivery
          group := s.latched.group || s.group.any (fun g => decide (g.idle ≤ 1)) } ∧
        (s.latched = noKinds →
          (let late : Option FaultLog := (newlyLate s (s.clock + 1)).head?.map
            (fun e => ⟨.d205, e.label, 0, e.lastGroup, s.clock + 1⟩)
          let expired : Option FaultLog := (s.group.filter (fun g => decide (g.idle ≤ 1))).map
            (fun g => ⟨.d126, 0, 0, g.number, s.clock + 1⟩)
          (late = none → expired = none → t.firstFault = s.firstFault) ∧
          (∀ l, late = some l → expired = none → t.firstFault = some l) ∧
          (∀ x, late = none → expired = some x → t.firstFault = some x) ∧
          (∀ l x, late = some l → expired = some x → t.firstFault = some l ∨ t.firstFault = some x))) ∧
        (s.latched ≠ noKinds → t.firstFault = s.firstFault) ∧
        QuietWaitFollows t ∧
        t = { s with
          clock := t.clock, timebase := t.timebase, book := t.book, budget := t.budget,
          tallyCount := t.tallyCount, group := t.group, reports := t.reports, nextSeq := t.nextSeq,
          latched := t.latched, firstFault := t.firstFault, quietWait := t.quietWait, choices := t.choices })

/-- YIELD_END ends the yields whose end equals the clock; GROUP_IDLE_TIMEOUT discards the open group whose timer
is 0 and latches 126, and ends no other group; TALLY_PERIOD_END lets an eligible TALLY begin its quiet wait
(R29, R53, R116, R117). -/
def Obligations.TimedEndsResult : Prop :=
  ∀ s : State,
    exec .yieldEnd s = .next { s with
      book := s.book.map (fun e => if e.state = .yielded s.clock then { e with state := .waiting } else e) } ∧
    (∀ g, s.group = some g → g.idle = 0 → NothingHalts s [.group] →
      exec .groupIdleTimeout s =
        .next (faulted .d126 0 0 g.number { s with group := none, quietWait := quietAfter s })) ∧
    ((∀ g, s.group = some g → g.idle ≠ 0) → exec .groupIdleTimeout s = .next s) ∧
    exec .tallyPeriodEnd s = .next { s with
      quietWait := if (16 ≤ s.tally.length ∨ (10 ≤ s.tallyCount ∧ s.tally ≠ []) ∨ s.tallyCount = 60) ∧
          (s.opState = .run ∨ s.opState = .paused) ∧ s.dialogue = .listening ∧ s.carriers = 0 then
        some (1 + s.config.identity.station.toNat % 8) else none }

/-! ### The Batch Link -/

/-- BATCH_FRAME_END by the table of R163: with two frames held the frame is discarded and the overrun is
pending with the first such kind; behind a held frame or a response in progress it waits; otherwise it is
taken at once, whatever frame it is, just as HELD_FRAME_TAKEN takes it from the holding; so a bad frame is
answered BAD_FRAME (R162 to R164). -/
def Obligations.BatchFrameEndResult : Prop :=
  ∀ (f : LinkFrame) (s : State),
    (2 ≤ s.holding.length →
      exec (.batchFrameEnd f) s = .next { s with
        receiver := .hunting, overrun := some (s.overrun.getD ⟨f.kind, s.holding.length⟩) }) ∧
    (s.holding.length < 2 → s.holding ≠ [] ∨ s.response ≠ none →
      exec (.batchFrameEnd f) s = .next { s with receiver := .hunting, holding := s.holding ++ [f] }) ∧
    (s.holding = [] → s.response = none →
      exec (.batchFrameEnd f) s = exec .heldFrameTaken { s with receiver := .hunting, holding := [f] } ∧
      (f.good = false →
        exec (.batchFrameEnd f) s = .next { s with
          receiver := .hunting, holding := [f]
          response := some ⟨f.kind, ⟨.badFrame, .none⟩, s.lineRate⟩ }))

/-- LINK_LOSS drops a partial frame only; RESPONSE_SENT frees the answered frame's place, and begins the
OVERRUN response after the last frame held at the discard; that response, once sent, takes no place and makes
the overrun absent (R161 to R163). -/
def Obligations.LinkEventsResult : Prop :=
  ∀ s : State,
    exec .linkLoss s = .next { s with receiver := .hunting } ∧
    (∀ r, s.response = some r → r.answer.status ≠ .overrun → s.overrun = none →
      exec .responseSent s = .next { s with response := none, holding := s.holding.tail }) ∧
    (∀ r k n, s.response = some r → r.answer.status ≠ .overrun → s.overrun = some ⟨k, n + 2⟩ →
      exec .responseSent s = .next { s with
        response := none, holding := s.holding.tail, overrun := some ⟨k, n + 1⟩ }) ∧
    (∀ r k, s.response = some r → r.answer.status ≠ .overrun → s.overrun = some ⟨k, 1⟩ →
      exec .responseSent s = .next { s with
        response := some ⟨k, ⟨.overrun, .none⟩, s.lineRate⟩, holding := s.holding.tail
        overrun := some ⟨k, 0⟩ }) ∧
    (∀ r, s.response = some r → r.answer.status = .overrun →
      exec .responseSent s = .next { s with response := none, overrun := none })

/-- A request acts the same whether it is commanded by its row or taken from the link as the frame that
carries it: at its frame's end with nothing held, or from the head of the holding (R162, R164, R168). -/
def Obligations.FrameActsAsRequest : Prop :=
  ∀ (i : Instr) (f : LinkFrame) (s : State), requestFrame i = some f → s.response = none →
    (s.holding = [] → exec (.batchFrameEnd f) s = exec i { s with receiver := .hunting }) ∧
    (∀ rest, s.holding = f :: rest → ∃ t, exec .heldFrameTaken s = .next t ∧ exec i s = .next t)

/-- The body of every request reads back as the request: no operand is lost or changed (R178). -/
def Obligations.RequestBodiesReadBack : Prop :=
  ∀ (i : Instr) (f : LinkFrame), requestFrame i = some f →
    f.good = true ∧ parseRequest f.kind f.body = .request i

/-- A HUNTING receiver waits for the sync byte; a RECEIVING one adds bytes, keeping a missing stop bit, while
the frame is incomplete, and a length of 0 or above 255 ends the frame as a bad one. So the bytes of a request
frame with any frame check, received one by one, act as the end of that frame, whose check is good exactly when
the frame check is that of 12.4 and no stop bit was missing (R160). -/
def Obligations.BytesEndAsFrame : Prop :=
  (∀ (b : Byte) (stop : Bool) (s : State), s.receiver = .hunting →
    exec (.batchByteReceived b stop) s =
      .next (if b = 0xA5 then { s with receiver := .receiving [] (!stop) } else s)) ∧
  (∀ (bytes : List Byte) (missing : Bool) (b : Byte) (stop : Bool) (s : State),
    s.receiver = .receiving bytes missing →
    (let n := natOfBytes ((bytes ++ [b]).take 2)
    (bytes = [] ∨ (1 ≤ n ∧ n ≤ 255 ∧ bytes.length + 1 < n + 4) →
      exec (.batchByteReceived b stop) s =
        .next { s with receiver := .receiving (bytes ++ [b]) (missing || !stop) }) ∧
    (bytes ≠ [] → n = 0 ∨ 255 < n →
      exec (.batchByteReceived b stop) s = exec (.batchFrameEnd ⟨0, [], false⟩) s))) ∧
  (∀ (kind : Byte) (body : List Byte) (check : BitVec 16) (stops : List Bool) (s : State),
    body.length ≤ 254 → stops.length = body.length + 6 → s.receiver = .hunting →
    (let checked := bytesOfNat 2 (body.length + 1) ++ kind :: body
    execAll (((0xA5 :: (checked ++ bytesOfBits 2 check)).zip stops).map
        (fun p => .batchByteReceived p.1 p.2)) s =
      exec (.batchFrameEnd ⟨kind, body, decide (check = crc16 checked ∧ ∀ b ∈ stops, b = true)⟩) s))

/-- The first of the four checks of R164 that a taken frame fails decides its answer, sent with no body, and
the frame has no other effect; in STARTING every request is answered NOT_READY and does nothing else (R136,
R164). -/
def Obligations.TakenFrameChecks : Prop :=
  (∀ (f : LinkFrame) (rest : List LinkFrame) (s : State), s.response = none → s.holding = f :: rest →
    (let answer := fun st : Status =>
      (.next { s with response := some ⟨f.kind, ⟨st, .none⟩, s.lineRate⟩ } : Host.Outcome State Fault Refusal)
    (f.good = false → exec .heldFrameTaken s = answer .badFrame) ∧
    (f.good = true → s.opState = .starting → exec .heldFrameTaken s = answer .notReady) ∧
    (f.good = true → s.opState ≠ .starting →
      f.kind ∉ ([0x01, 0x02, 0x10, 0x11, 0x12, 0x13, 0x20, 0x21, 0x22, 0x23, 0x30, 0x31, 0x32, 0x33, 0x40,
        0x41, 0x42] : List Byte) →
      exec .heldFrameTaken s = answer .unknownRequest) ∧
    (∀ n, f.good = true → s.opState ≠ .starting →
      (f.kind, n) ∈ ([(0x01, 0), (0x02, 4), (0x10, 7), (0x12, 4), (0x13, 0), (0x20, 0), (0x21, 0), (0x22, 0),
        (0x23, 0), (0x30, 1), (0x31, 4), (0x32, 3), (0x33, 3), (0x40, 0), (0x41, 1), (0x42, 0)] :
        List (Byte × Nat)) →
      f.body.length ≠ n → exec .heldFrameTaken s = answer .badFrame))) ∧
  (∀ (i : Instr) (f : LinkFrame) (s : State), requestFrame i = some f → s.opState = .starting →
    exec i s = .next (answered i ⟨.notReady, .none⟩ s))

/-! ### The requests -/

/-- STATUS, READ ENTRY and READ ROSTER change nothing but the link, and read the blocks as they stand (R67,
R78, R167). -/
def Obligations.ReadsAnswerAsItStands : Prop :=
  ∀ s : State, s.opState ≠ .starting →
    (∃ b, exec .status s = .next (answered .status ⟨.ok, .status b⟩ s) ∧
      b.opState = s.opState ∧ b.lastReset = s.lastReset ∧ b.station = s.config.identity.station ∧
      b.clock = s.clock ∧ b.clockSet = s.clockSet ∧ b.latched = s.latched ∧ b.firstFault = s.firstFault ∧
      b.flags = s.flags.inter s.enable ∧ b.enable = s.enable ∧ b.queueLength = s.reports.length ∧
      b.nextSeq = s.nextSeq ∧ b.closingLength = s.closing.length ∧
      b.freeSlots = 4096 - s.book.length ∧ b.lateCount = (s.book.filter (fun e => e.late)).length ∧
      b.occupied = s.roster.length ∧ b.budget = s.budget ∧ b.tallyPairs = s.tally.length ∧
      b.tallyCount = s.tallyCount ∧
      b.dialogue = (match s.dialogue with
        | .listening => .listening
        | .standingOff c => .standingOff c.label
        | .transferring p c => .transferring c.label p c.fragment
        | .tallying _ => .tallying) ∧
      b.group = s.group.map (fun g => ⟨g.number, g.effective, g.cls, g.gathered.length, g.idle⟩)) ∧
    (∀ (l : LabelAddr) (e : Entry), s.entryOf l = some e →
      exec (.readEntry 0 l) s = .next (answered (.readEntry 0 l) ⟨.ok, .entry e⟩ s)) ∧
    (∀ l : LabelAddr, s.entryOf l = none →
      exec (.readEntry 0 l) s = .next (answered (.readEntry 0 l) ⟨.ok, .noEntry l⟩ s)) ∧
    (∀ (sel : Byte) (n : LabelAddr) (e : Entry), sel ≠ 0 → n.toNat < 65536 → s.entryAt n.toNat = some e →
      exec (.readEntry sel n) s = .next (answered (.readEntry sel n) ⟨.ok, .entry e⟩ s)) ∧
    (∀ (sel : Byte) (n : LabelAddr), sel ≠ 0 → n.toNat < 65536 → s.entryAt n.toNat = none →
      exec (.readEntry sel n) s = .next (answered (.readEntry sel n) ⟨.ok, .freeSlot n.toNat⟩ s)) ∧
    (∀ (first : BitVec 16) (count : Byte), ∃ lines,
      exec (.readRoster first count) s =
        .next (answered (.readRoster first count) ⟨.ok, .roster s.roster.length lines⟩ s) ∧
      lines.length = min (min count.toNat 16) (4096 - first.toNat) ∧
      (∀ i < lines.length, (∀ r ∈ s.roster, r.slot ≠ first.toNat + i) →
        lines[i]? = some (.free (first.toNat + i))) ∧
      (s.roster.Pairwise (fun a b => a.slot ≠ b.slot) → ∀ i < lines.length, ∀ (k : Nat) (r : RosterRecord),
        s.roster[k]? = some r → r.slot = first.toNat + i →
        lines[i]? = some (.occupied r (k + 1) (s.entryOf r.label).isSome)))

/-- SET TIME sets the clock and its set flag, restarts the timebase, moves every yield end by the difference,
and evaluates every entry not CLOSING, reporting those that become late in order of slot; it neither refills nor
counts (R53, R63, R64, R125, R134). Fault 205 is latched for each entry that becomes late, in order of slot (R64,
R148). The model's inference (log entry 22): the last sentence of R134, that SET TIME latches no fault, speaks of the
Station Clock's own part, and the book's faults 205 follow R64 and R148. -/
def Obligations.SetTimeResult : Prop :=
  ∀ (v : StoreTime) (s : State), s.opState ≠ .starting → NothingHalts s [.delivery] →
    ∃ t, exec (.setTime v) s = .next t ∧
      t.clock = v ∧ t.clockSet = true ∧ t.timebase = 0 ∧
      t.response = some ⟨0x02, ⟨.ok, .times s.clock v⟩, s.lineRate⟩ ∧
      t.holding = ⟨0x02, bytesOfBits 4 v, true⟩ :: s.holding.tail ∧
      t.book = s.book.map (fun e =>
        if e.isClosing then e
        else evaluatedAt s.config v { e with
          state := match e.state with
            | .yielded u => .yielded (u + (v - s.clock))
            | x => x }) ∧
      Queues s t (((newlyLate s v).map (lateBody s v)).take (256 - s.reports.length)) ∧
      Latches s t ((newlyLate s v).map (fun e => ⟨.d205, e.label, 0, e.lastGroup, v⟩)) ∧
      QuietWaitFollows t ∧
      t = { s with
        clock := t.clock, clockSet := t.clockSet, timebase := t.timebase, book := t.book,
        reports := t.reports, nextSeq := t.nextSeq, latched := t.latched, firstFault := t.firstFault,
        quietWait := t.quietWait, holding := t.holding, response := t.response }

/-- OPEN GROUP opens a group with its timer at 60, or is refused: 121 with a group open, whose timer restarts,
103 for number 0 or a class above 7. RECORD appends an accepted record and answers its count, or is refused:
122 with no group, 125 with 512 records, the first failing check's detail otherwise; the refusal restarts
the idle timer (R25 to R29, R145). -/
def Obligations.GatheringResults : Prop :=
  (∀ (n : GroupNo) (time : StoreTime) (cls : Byte) (s : State), s.opState ≠ .starting →
    (∀ h : cls.toNat < 8, s.group = none → n ≠ 0 →
      exec (.openGroup n time cls) s = .next (answered (.openGroup n time cls) ⟨.ok, .none⟩
        { s with group := some ⟨n, time, ⟨cls.toNat, h⟩, 60, []⟩ })) ∧
    (s.group = none → n = 0 ∨ 8 ≤ cls.toNat → NothingHalts s [.recordForm] →
      exec (.openGroup n time cls) s = .next (answered (.openGroup n time cls) ⟨.refused, .refused .d103⟩
        (faulted .d103 0 0 n { s with quietWait := quietAfter s }))) ∧
    (∀ g, s.group = some g → NothingHalts s [.group] →
      exec (.openGroup n time cls) s = .next (answered (.openGroup n time cls) ⟨.refused, .refused .d121⟩
        (faulted .d121 0 0 g.number
          { s with group := some { g with idle := 60 }, quietWait := quietAfter s })))) ∧
  (∀ (body : List Byte) (s : State), s.opState ≠ .starting →
    (s.group = none → NothingHalts s [.group] →
      exec (.record body) s = .next (answered (.record body) ⟨.refused, .refused .d122⟩
        (faulted .d122 0 0 0 { s with quietWait := quietAfter s }))) ∧
    (∀ g, s.group = some g →
      (∀ r, g.gathered.length < 512 → checkRecord s.config.sources.masks body = .accepted r →
        exec (.record body) s = .next (answered (.record body) ⟨.ok, .recordCount (g.gathered.length + 1)⟩
          { s with group := some { g with gathered := g.gathered ++ [r], idle := 60 } })) ∧
      (∀ d, g.gathered.length < 512 → checkRecord s.config.sources.masks body = .refused d →
        NothingHalts s [d.kind] →
        exec (.record body) s = .next (answered (.record body) ⟨.refused, .refused d⟩
          (faulted d (if body.length < 4 then 0 else BitVec.ofNat 24 (natOfBytes ((body.drop 1).take 3)))
            (body.headD 0) g.number
            { s with group := some { g with idle := 60 }, quietWait := quietAfter s }))) ∧
      (512 ≤ g.gathered.length → NothingHalts s [.group] →
        exec (.record body) s = .next (answered (.record body) ⟨.refused, .refused .d125⟩
          (faulted .d125 (if body.length < 4 then 0 else BitVec.ofNat 24 (natOfBytes ((body.drop 1).take 3)))
            (body.headD 0) g.number
            { s with group := some { g with idle := 60 }, quietWait := quietAfter s })))))

/-- The checks of R25 on a RECORD body. The first that fails, in their order, gives the refusal its detail: for
a body of the layout of 12.3.1 with any field values and any items. A record that passes them all is accepted
with exactly its fields and the items its source's mask leaves. So an accepted record is what R23 and R25
allow: a valid label, a target newer than a base that is a version, at least one item, every item inside its
source's mask, and every item's values in range. The model's choice (log entry 27): a body that repeats a kind before
an item of an unknown tag is refused by the repeated kind, 101, and not by the tag, 102. -/
def Obligations.RecordChecks : Prop :=
  (∀ (masks : Vector ItemSet 8) (body : List Byte), body.length < 10 → checkRecord masks body = .refused .d101) ∧
  (∀ (masks : Vector ItemSet 8) (source : Byte) (label : LabelAddr) (baseKind : Byte) (version target : Version)
      (is : List RawItem), is.length < 256 → (∀ i ∈ is, i.fits) →
    (let body := fun (count : Byte) (items : List Byte) =>
      source :: (bytesOfBits 3 label ++ [baseKind] ++ bytesOfBits 2 version ++ bytesOfBits 2 target ++
        [count] ++ items)
    let refused := fun d => checkRecord masks (body (BitVec.ofNat 8 is.length) (is.flatMap RawItem.bytes)) =
      .refused d
    -- check 1
    (is = [] → refused .d101) ∧
    (∀ count : Byte, count.toNat ≠ is.length →
      checkRecord masks (body count (is.flatMap RawItem.bytes)) = .refused .d101) ∧
    (∀ (x : Byte) (xs : List Byte),
      checkRecord masks (body (BitVec.ofNat 8 is.length) (is.flatMap RawItem.bytes ++ x :: xs)) =
        .refused .d101) ∧
    (∀ k < (is.flatMap RawItem.bytes).length,
      checkRecord masks (body (BitVec.ofNat 8 is.length) ((is.flatMap RawItem.bytes).take k)) =
        .refused .d101) ∧
    (¬ (is.filterMap RawItem.tag).Nodup →
      refused .d101 ∧
      (∀ (count tag : Byte) (rest : List Byte), is.length < count.toNat → tag = 0 ∨ 6 < tag.toNat →
        checkRecord masks (body count (is.flatMap RawItem.bytes ++ tag :: rest)) = .refused .d101)) ∧
    ((is.filterMap RawItem.tag).Nodup →
      -- check 2
      (∀ (count tag : Byte) (rest : List Byte), is.length < count.toNat → tag = 0 ∨ 6 < tag.toNat →
        checkRecord masks (body count (is.flatMap RawItem.bytes ++ tag :: rest)) = .refused .d102) ∧
      -- check 3
      (is ≠ [] → 8 ≤ source.toNat ∨ 1 < baseKind.toNat ∨ (∃ i ∈ is, i.codesInSets = false) → refused .d103) ∧
      (is ≠ [] → ∀ h : source.toNat < 8, baseKind.toNat ≤ 1 → (∀ i ∈ is, i.codesInSets = true) →
        (let base : Base := if baseKind = 1 then .any else .version version
        let kept := is.filter (RawItem.inMask masks[source.toNat])
        -- check 4
        (label.wf = false → refused .d111) ∧
        (label.wf = true →
          -- check 5
          (baseKind = 0 → newer target version = false → refused .d115) ∧
          (baseKind = 1 ∨ newer target version = true →
            -- check 6
            (kept = [] → refused .d116) ∧
            -- check 7, PRICE
            (∀ ticket kind value modulus ending floor, .price ticket kind value modulus ending floor ∈ kept →
              (let valueGood := (kind = 1 → value ≤ 1000) ∧ (kind = 2 → value ≤ 9999999) ∧
                (kind = 3 → 1 ≤ value ∧ value ≤ 9999999)
              let endingGood := (modulus = 0 ∧ ending = 0) ∨
                ((modulus = 10 ∨ modulus = 100 ∨ modulus = 1000) ∧ ending < modulus)
              (ticket = 0 ∨ 9999999 < ticket → refused .d112) ∧
              (1 ≤ ticket → ticket ≤ 9999999 →
                (¬ valueGood → refused (if kind = 1 then .d118 else .d112)) ∧
                (valueGood → ¬ endingGood → refused .d114) ∧
                (valueGood → endingGood → ticket < floor → refused .d113)))) ∧
            ((∀ ticket kind value modulus ending floor, .price ticket kind value modulus ending floor ∈ kept →
                (RawItem.price ticket kind value modulus ending floor).valuesGood) →
              -- check 7, UNIT and LOCATE
              (∀ quantity basis code, .unit quantity basis code ∈ kept →
                quantity = 0 ∨ 999999 < quantity ∨ basis = 0 ∨ 100000 < basis → refused .d117) ∧
              (∀ minutes, .locate minutes ∈ kept → 240 < minutes → refused .d117) ∧
              -- accepted
              (kept ≠ [] → (∀ i ∈ kept, i.valuesGood) →
                ∃ r, checkRecord masks (body (BitVec.ofNat 8 is.length) (is.flatMap RawItem.bytes)) = .accepted r ∧
                  r.source.val = source.toNat ∧ r.label = label ∧ r.base = base ∧ r.target = target ∧
                  r.masked = decide (kept.length < is.length) ∧
                  (∀ ticket kind value modulus ending floor,
                    .price ticket kind value modulus ending floor ∈ kept →
                    r.items.price = some ⟨ticket,
                      if kind = 1 then .percent value else if kind = 2 then .amount value
                        else if kind = 3 then .set value else .none,
                      if modulus = 0 then none else some ⟨modulus, ending⟩, floor⟩) ∧
                  (∀ quantity basis code, .unit quantity basis code ∈ kept →
                    ∃ c : UnitCode, c.toNat = code ∧ r.items.unit = some ⟨quantity, basis, c⟩) ∧
                  (∀ code, .badge code ∈ kept → ∃ c : Badge, c.toNat = code ∧ r.items.badge = some c) ∧
                  (∀ code, .stock code ∈ kept → ∃ c : StockMark, c.toNat = code ∧ r.items.stock = some c) ∧
                  (∀ day, .ends day ∈ kept → r.items.ends = some day) ∧
                  (∀ minutes, .locate minutes ∈ kept → r.items.locate = some minutes) ∧
                  (r.items.price.isSome ↔ ∃ i ∈ kept, i.tag = some 1) ∧
                  (r.items.unit.isSome ↔ ∃ i ∈ kept, i.tag = some 2) ∧
                  (r.items.badge.isSome ↔ ∃ i ∈ kept, i.tag = some 3) ∧
                  (r.items.stock.isSome ↔ ∃ i ∈ kept, i.tag = some 4) ∧
                  (r.items.ends.isSome ↔ ∃ i ∈ kept, i.tag = some 5) ∧
                  (r.items.locate.isSome ↔ ∃ i ∈ kept, i.tag = some 6)))))))))) ∧
  (∀ (masks : Vector ItemSet 8) (body : List Byte) (r : GatheredRecord),
    checkRecord masks body = .accepted r →
    1 ≤ r.label.toNat ∧ r.label.toNat ≤ 16777214 ∧
    (∀ b, r.base = .version b → newer r.target b = true) ∧
    r.items ≠ {} ∧
    (r.items.price.isSome = true → masks[r.source].price = true) ∧
    (r.items.unit.isSome = true → masks[r.source].unit = true) ∧
    (r.items.badge.isSome = true → masks[r.source].badge = true) ∧
    (r.items.stock.isSome = true → masks[r.source].stock = true) ∧
    (r.items.ends.isSome = true → masks[r.source].ends = true) ∧
    (r.items.locate.isSome = true → masks[r.source].locate = true) ∧
    (∀ p, r.items.price = some p →
      1 ≤ p.ticket ∧ p.ticket ≤ 9999999 ∧ p.floor ≤ p.ticket ∧
      (∀ e, p.ending = some e → (e.modulus = 10 ∨ e.modulus = 100 ∨ e.modulus = 1000) ∧ e.value < e.modulus) ∧
      (∀ k, p.markdown = .percent k → k ≤ 1000) ∧ (∀ k, p.markdown = .amount k → k ≤ 9999999) ∧
      (∀ k, p.markdown = .set k → 1 ≤ k ∧ k ≤ 9999999)) ∧
    (∀ u, r.items.unit = some u →
      1 ≤ u.quantity ∧ u.quantity ≤ 999999 ∧ 1 ≤ u.basis ∧ u.basis ≤ 100000) ∧
    (∀ m, r.items.locate = some m → m ≤ 240))

/-- CLOSE GROUP's refusals and stops (R31, R38, R39): each with what becomes of the group, the fault latched
and the answer; the book is unchanged in all of them. -/
def Obligations.CloseGroupRefusals : Prop :=
  ∀ (n : GroupNo) (count : BitVec 16) (s : State), s.opState ≠ .starting → NothingHalts s [.group, .book] →
    (let i : Instr := .closeGroup n count
    let refused := fun (d : Detail) (t : State) =>
      (.next (answered i ⟨.refused, .refused d⟩ t) : Host.Outcome State Fault Refusal)
    (s.group = none → exec i s = refused .d123 (faulted .d123 0 0 0 { s with quietWait := quietAfter s })) ∧
    (∀ g, s.group = some g →
      (let kept := { s with group := some { g with idle := 60 }, quietWait := quietAfter s }
      let closed := { s with group := none, quietWait := quietAfter s }
      (g.number ≠ n → exec i s = refused .d127 (faulted .d127 0 0 g.number kept)) ∧
      (g.number = n → g.gathered.length ≠ count.toNat →
        exec i s = refused .d124 (faulted .d124 0 0 g.number closed)) ∧
      (g.number = n → g.gathered.length = count.toNat →
        (∀ r p, checkPass g g.gathered 1 (startView s) = .stopped .stale r p →
          exec i s = refused .d132
            (faulted .d132 r.label (BitVec.ofNat 8 r.source.val) g.number closed)) ∧
        (∀ r p, checkPass g g.gathered 1 (startView s) = .stopped .conflict r p →
          exec i s = refused .d133
            (faulted .d133 r.label (BitVec.ofNat 8 r.source.val) g.number closed)) ∧
        (∀ r p, checkPass g g.gathered 1 (startView s) = .stopped .busy r p →
          exec i s = .next (answered i ⟨.busy, .busyAt p⟩ { s with group := some { g with idle := 60 } })) ∧
        (∀ v, checkPass g g.gathered 1 (startView s) = .done v → 4096 - s.book.length < v.fresh.length →
          exec i s = refused .d131 (faulted .d131 0 0 g.number kept))))))

/-- CLOSE GROUP with any number of records (R34 to R43). The records are taken in order, each on what those before
it have made of its label (`viewAfter`). The first that its label does not take stops the fold: BUSY with its
position, or 132 or 133 with its label and source; and a fold with more new labels than free slots is refused
with 131. Otherwise the fold is applied. The new labels, in order of their first record, take the lowest-numbered
slot free at their moment; every label of a record has the entry that its records leave (`entryAfter`); every other
entry is as it was. One SUPERSEDED report is queued for each entry of the book that was replaced, in order of the
first record that replaces it; then for every touched entry, in order of slot, the LATE report and fault 205 of one
made late, and the HELD report and fault 201 of one that no longer fits. A label counts once: as created,
changed, with a successor part or replaced. With one record of a label that has no entry, spelled out first, the
entry is WAITING in the lowest-numbered free slot with the record's change and the group's time and class. The
model's inference (log entry 16): only an entry that was HELD before the fold is fitted again. -/
def Obligations.FoldAppliesRecords : Prop :=
  (∀ (g : OpenGroup) (r : GatheredRecord) (s : State),
    s.opState ≠ .starting → NothingHalts s [.delivery] → BookIsKeyed s → s.group = some g → g.gathered = [r] →
    s.entryOf r.label = none → s.book.length < 4096 →
    ∃ t e, exec (.closeGroup g.number 1) s = .next t ∧
      t.response = some ⟨0x12, ⟨.ok, .foldCounts 1 0 0 0⟩, s.lineRate⟩ ∧ t.group = none ∧
      (∀ x, x ∈ t.book ↔ x = e ∨ x ∈ s.book) ∧ t.book.Pairwise (fun a b => a.slot < b.slot) ∧
      (∀ x ∈ s.book, x.slot ≠ e.slot) ∧ (∀ k < e.slot, ∃ x ∈ s.book, x.slot = k) ∧
      e.label = r.label ∧ e.state = .waiting ∧ e.base = r.base ∧ e.target = r.target ∧ e.items = r.items ∧
      e.effective = g.effective ∧ e.cls = g.cls ∧ e.lastGroup = g.number ∧ e.attempts = 0 ∧
      e.late = decide (g.effective.toNat ≤ s.clock.toNat) ∧ e.face = computeFace r.items ∧
      e.notes = { masked := r.masked, comp := computeNotes r.items, fit := {} } ∧
      e.lastOutcome = none ∧ e.successor = none ∧ e.limit = attemptLimitOf s r.label ∧
      (e.lane = .urgent ↔ s.config.sources.classMap[g.cls] = .urgent ∨ g.effective = 0 ∨
        g.effective.toNat ≤ s.clock.toNat + s.config.policy.lateMargin) ∧
      Queues s t (([e].filter (fun n => n.late)).map (lateBody s s.clock) |>.take (256 - s.reports.length)) ∧
      Latches s t (([e].filter (fun n => n.late)).map (lateFault s)) ∧
      t.dialogue = markTouched [r.label] s.dialogue ∧
      t.holding = ⟨0x12, bytesOfBits 2 g.number ++ [0, 1], true⟩ :: s.holding.tail ∧
      QuietWaitFollows t ∧
      t = { s with
        book := t.book, group := t.group, dialogue := t.dialogue, quietWait := t.quietWait,
        reports := t.reports, nextSeq := t.nextSeq, latched := t.latched, firstFault := t.firstFault,
        holding := t.holding, response := t.response }) ∧
  (∀ (g : OpenGroup) (count : BitVec 16) (s : State),
    s.opState ≠ .starting → NothingHalts s [.delivery, .book] → BookIsKeyed s → s.group = some g →
    count.toNat = g.gathered.length →
    (let i : Instr := .closeGroup g.number count
    let kept := { s with group := some { g with idle := 60 } }
    let refused := fun (d : Detail) (l : LabelAddr) (source : Byte) (u : State) =>
      exec i s = .next (answered i ⟨.refused, .refused d⟩
        (faulted d l source g.number { u with quietWait := quietAfter s }))
    let labels := labelsOf g.gathered
    let fresh := labels.filter (fun l => (s.entryOf l).isNone)
    let free := 4096 - s.book.length
    let untouched := fun l => (s.entryOf l).any (fun e => !e.isOpen)
    -- the first record that its label does not take
    (∀ (before after : List GatheredRecord) (r : GatheredRecord) (stop : Option Detail),
      g.gathered = before ++ r :: after → (∀ x ∈ before, ∃ v, viewAfter g s before x.label = .ok v) →
      viewAfter g s (before ++ [r]) r.label = .error stop →
      (stop = none → exec i s = .next (answered i ⟨.busy, .busyAt (before.length + 1)⟩ kept)) ∧
      (∀ d, stop = some d → refused d r.label (BitVec.ofNat 8 r.source.val) { s with group := none })) ∧
    ((∀ l ∈ labels, ∃ v, viewAfter g s g.gathered l = .ok v) →
      -- no room
      (free < fresh.length → refused .d131 0 0 kept) ∧
      -- the application
      (fresh.length ≤ free →
        (let replaced := supersededEntries g s
        ∃ (t : State) (news : List Entry), exec i s = .next t ∧
          t.response = some ⟨0x12, ⟨.ok, .foldCounts fresh.length
            ((labels.filter (hasOpen s)).length - replaced.length) (labels.filter untouched).length
            replaced.length⟩, s.lineRate⟩ ∧
          t.group = none ∧
          news.map Entry.label = fresh ∧
          (∀ (k : Nat) (e : Entry), news[k]? = some e →
            entryAfter g s e.slot e.label = some e ∧
            (∀ x ∈ s.book ++ news.take k, x.slot ≠ e.slot) ∧
            (∀ n < e.slot, ∃ x ∈ s.book ++ news.take k, x.slot = n)) ∧
          t.book.Pairwise (fun a b => a.slot < b.slot) ∧
          (∀ x, x ∈ t.book ↔ x ∈ news ∨ ∃ e ∈ s.book,
            x = if e.label ∈ labels then (entryAfter g s e.slot e.label).getD e else e) ∧
          t.dialogue = markTouched (labels.filter (fun l => !untouched l)) s.dialogue ∧
          (let touched := t.book.filter (fun e => decide (e.label ∈ labels) && !untouched e.label)
          Queues s t ((replaced.map (supersededBody s) ++ touched.flatMap (foldBodies s)).take
            (256 - s.reports.length)) ∧
          Latches s t (touched.flatMap (foldFaults s))) ∧
          t.holding = ⟨0x12, bytesOfBits 2 g.number ++ bytesOfBits 2 count, true⟩ :: s.holding.tail ∧
          QuietWaitFollows t ∧
          t = { s with
            book := t.book, group := t.group, dialogue := t.dialogue, quietWait := t.quietWait,
            reports := t.reports, nextSeq := t.nextSeq, latched := t.latched, firstFault := t.firstFault,
            holding := t.holding, response := t.response })))))

/-- CLOSE GROUP with one record on an entry. On a WAITING, HELD or YIELDED one (R35, R41, R43) a record of the
entry's own base and target merges its items; one based on the entry's target chains; any other one whose base
is ANY or newer than the entry's target, and whose target is at least the entry's, replaces it with a SUPERSEDED
report of the entry as it was. The entry is then WAITING with the group's time and class, no attempts and a new
face, and one that was HELD is fitted again against the Roster's model (R51): of one entry 205 is taken before
201, and its LATE report queued before its HELD report. A record that does none of the three is STALE, fault
132, when the entry's target is newer than the record's, and CONFLICT, fault 133, otherwise; the group is closed
and the book unchanged (R35, R39). On an entry IN_TRANSFER or CLOSING (R37, R42) a record based on its target
makes the successor part, and a record merges or chains with a successor part; the entry keeps every other
field; with no successor part another base is BUSY in IN_TRANSFER and STALE, fault 132, in CLOSING. The model's
inference (log entry 16): only an entry that was HELD before the fold is fitted again. -/
def Obligations.FoldChangesEntry : Prop :=
  ∀ (g : OpenGroup) (r : GatheredRecord) (e : Entry) (s : State),
    s.opState ≠ .starting → NothingHalts s [.delivery, .book] → BookIsKeyed s → EntriesKeepLaw s →
    s.group = some g → g.gathered = [r] → s.entryOf r.label = some e →
    (let i : Instr := .closeGroup g.number 1
    let closed := fun (t : State) (counts : ResponseBody) =>
      exec i s = .next t ∧ t.response = some ⟨0x12, ⟨.ok, counts⟩, s.lineRate⟩ ∧ t.group = none ∧
      t.holding = ⟨0x12, bytesOfBits 2 g.number ++ [0, 1], true⟩ :: s.holding.tail ∧ QuietWaitFollows t ∧
      t = { s with
        book := t.book, group := t.group, dialogue := t.dialogue, reports := t.reports,
        nextSeq := t.nextSeq, latched := t.latched, firstFault := t.firstFault, quietWait := t.quietWait,
        holding := t.holding, response := t.response }
    -- an entry WAITING, HELD or YIELDED
    (e.isOpen = true →
      (let folds := fun (base : Base) (target : Version) (items : Items) (masked superseded : Bool) =>
        let made := evaluatedAt s.config s.clock <| withContent items masked { e with
          state := .waiting, base := base, target := target, effective := g.effective
          cls := g.cls, lastGroup := g.number, attempts := 0 }
        let fitted : Option (Option FitNotes) :=
          if e.state = .held then
            (s.recordOf r.label).map (fun x =>
              (fit made.face s.config.models[x.model.toFin]).map (fun v => v.2))
          else none
        let now : Entry :=
          match fitted with
          | none => made
          | some (some n) => { made with notes := { made.notes with fit := n } }
          | some none => { made with state := .held }
        let late := [made].filter (fun n => n.late && !e.late)
        let held := [now].filter (fun n => n.state == .held)
        ∃ t, closed t (if superseded then .foldCounts 0 0 0 1 else .foldCounts 0 1 0 0) ∧
          t.book = putEntry now s.book ∧ t.dialogue = markTouched [r.label] s.dialogue ∧
          Queues s t (((if superseded then
              [supersededBody s e]
            else []) ++ late.map (lateBody s s.clock) ++ held.map (heldBody s)).take
              (256 - s.reports.length)) ∧
          Latches s t (late.map (lateFault s) ++ held.map (heldFault s))
      let merges := r.base = e.base ∧ r.target = e.target
      let chains := r.base = .version e.target ∧ VersionLaw e.base r.target
      let replaces := (r.base = .any ∨ ∃ b, r.base = .version b ∧ newer b e.target = true) ∧
        atLeast r.target e.target = true
      let stops := fun (d : Detail) =>
        exec i s = .next (answered i ⟨.refused, .refused d⟩
          (faulted d r.label (BitVec.ofNat 8 r.source.val) g.number
            { s with group := none, quietWait := quietAfter s }))
      (merges → folds e.base e.target (overlaid e.items r.items) (e.notes.masked || r.masked) false) ∧
      (chains → folds e.base r.target (overlaid e.items r.items) (e.notes.masked || r.masked) false) ∧
      (¬ merges → replaces → folds r.base r.target r.items r.masked true) ∧
      (¬ merges → ¬ chains → ¬ replaces → newer e.target r.target = true → stops .d132) ∧
      (¬ merges → ¬ chains → ¬ replaces → newer e.target r.target = false → stops .d133))) ∧
    -- an entry IN_TRANSFER or CLOSING
    (e.isOpen = false →
      (let succeeds := fun (p : Successor) =>
        ∃ t, closed t (.foldCounts 0 0 1 0) ∧ t.book = putEntry { e with successor := some p } s.book ∧
          t.dialogue = s.dialogue ∧ SameReports s t ∧ SameFaults s t
      (e.successor = none →
        (r.base = .version e.target →
          succeeds ⟨e.target, r.target, r.items, g.effective, g.cls, g.number, r.masked⟩) ∧
        (r.base ≠ .version e.target → e.state = .inTransfer →
          exec i s = .next (answered i ⟨.busy, .busyAt 1⟩ { s with group := some { g with idle := 60 } })) ∧
        (r.base ≠ .version e.target → e.isClosing = true →
          exec i s = .next (answered i ⟨.refused, .refused .d132⟩
            (faulted .d132 r.label (BitVec.ofNat 8 r.source.val) g.number
              { s with group := none, quietWait := quietAfter s })))) ∧
      (∀ p, e.successor = some p →
        (r.base = .version p.base → r.target = p.target →
          succeeds ⟨p.base, p.target, overlaid p.items r.items, g.effective, g.cls, g.number,
            p.masked || r.masked⟩) ∧
        (r.base = .version p.target → newer r.target e.target = true →
          succeeds ⟨p.base, r.target, overlaid p.items r.items, g.effective, g.cls, g.number,
            p.masked || r.masked⟩) ∧
        (¬ (r.base = .version p.base ∧ r.target = p.target) →
          ¬ (r.base = .version p.target ∧ newer r.target e.target = true) →
          exec i s = .next (answered i ⟨.refused, .refused .d133⟩
            (faulted .d133 r.label (BitVec.ofNat 8 r.source.val) g.number
              { s with group := none, quietWait := quietAfter s })))))))

/-- ABORT GROUP (R30): it carries no body; with a group open it discards the group and its gathering area,
stops the idle timer and answers OK, latching no fault, queuing no report and leaving the book; with none
open it is refused with WRONG_STATE and latches nothing. -/
def Obligations.AbortGroupResult : Prop :=
  requestFrame .abortGroup = some ⟨0x13, [], true⟩ ∧
  ∀ s : State, s.opState ≠ .starting →
    (s.group ≠ none →
      exec .abortGroup s = .next (answered .abortGroup ⟨.ok, .none⟩ { s with group := none })) ∧
    (s.group = none → exec .abortGroup s = .next (answered .abortGroup ⟨.wrongState, .none⟩ s))

/-- START, PAUSE, RESUME and STOP move the operating state, or are refused with WRONG_STATE; the quiet wait
of a due TALLY follows (R117, R119, R137 to R139). -/
def Obligations.OperatingStateRequests : Prop :=
  ∀ s : State, s.opState ≠ .starting →
    (let moved := fun (i : Instr) (o : OpState) =>
      (.next (answered i ⟨.ok, .opState o⟩
        { s with opState := o, quietWait := quietAfter { s with opState := o } }) :
        Host.Outcome State Fault Refusal)
    let refused := fun (i : Instr) =>
      (.next (answered i ⟨.wrongState, .opState s.opState⟩ s) : Host.Outcome State Fault Refusal)
    let startRefused := fun r : StartReason =>
      (.next (answered .start ⟨.wrongState, .opStateReason s.opState r⟩ s) :
        Host.Outcome State Fault Refusal)
    (s.opState = .idle → s.clockSet = true → s.config.identity.station ≠ 0 →
      exec .start s = moved .start .run) ∧
    (s.opState ≠ .idle → exec .start s = startRefused .state) ∧
    (s.opState = .idle → s.clockSet = false → exec .start s = startRefused .clockUnset) ∧
    (s.opState = .idle → s.clockSet = true → s.config.identity.station = 0 →
      exec .start s = startRefused .unnumbered) ∧
    (s.opState = .run → exec .pause s = moved .pause .paused) ∧
    (s.opState ≠ .run → exec .pause s = refused .pause) ∧
    (s.opState = .paused → exec .resume s = moved .resume .run) ∧
    (s.opState ≠ .paused → exec .resume s = refused .resume) ∧
    (s.opState = .run ∨ s.opState = .paused → exec .stop s = moved .stop .idle) ∧
    (s.opState ≠ .run ∧ s.opState ≠ .paused → exec .stop s = refused .stop))

/-- A fault of severity STOP halts the station (R58, R98, R99, R119, R128, R141, R144, R147). First, the three
refusals of a request that needs no group: the request is answered by its own rule, and then the state is
HALTED and the work in flight is stopped. Then every command but COLD_START, in IDLE, RUN, PAUSED and HALTED: with
no kind of severity STOP among those latched after it, it does what it does with every severity CONTINUE; and
otherwise it does that and, outside HALTED, the work it leaves in flight is stopped. A transfer is cut off: its
entry returns to WAITING with last outcome CUT_OFF and no attempt, any successor part chained, and the estimate
less the airtime sent, a frame cut short counting as sent whole, is returned. A standoff ends without an offer; a
TALLY is cut short, its pairs and the tally counter kept and nothing returned; a quiet wait is dropped. The
model's inferences: the halt is taken after the event's other effects (log entry 14), and a chain that would break
the version law keeps the last transfer outcome, here CUT_OFF (log entry 15). The model's choice (log entry 26):
whether a cut before the OFFER has been sent falls at the very start, and then returns the estimate whole, is a free
value, and the statement allows both. -/
def Obligations.HaltStopsWork : Prop :=
  (∀ (i : Instr) (d : Detail) (s : State),
    (∃ (body : List Byte) (m : GroupNo) (count : BitVec 16) (time : StoreTime) (cls : Byte),
      (i, d) ∈ ([(.record body, .d122), (.closeGroup m count, .d123), (.openGroup 0 time cls, .d103)] :
        List (Instr × Detail))) →
    s.group = none → s.halt = false → s.opState = .idle ∨ s.opState = .run ∨ s.opState = .paused →
    s.config.policy.severity.get d.kind = .stop →
    ∃ t, exec i s = .next t ∧ HaltsWork (answered i ⟨.refused, .refused d⟩ (faulted d 0 0 0 s)) t) ∧
  (∀ (i : Instr) (s v : State), i ≠ .coldStart → s.opState ≠ .starting → StopFaultHalts s →
    exec i (unstopped s) = .next v →
    (let u := { v with config := s.config }
    let stops := ∃ k : FaultKind, u.latched.get k = true ∧ s.config.policy.severity.get k = .stop
    (s.opState = .halted ∨ ¬ stops → exec i s = .next u) ∧
    (s.opState ≠ .halted → stops → ∃ t, exec i s = .next t ∧ HaltsWork u t)))

/-- CLEAR FAULTS empties the latched set and the log, re-arms the capture, clears FAULT, moves HALTED to IDLE,
and changes no severity, mask, enable set or report (R140, R150). -/
def Obligations.ClearFaultsResult : Prop :=
  ∀ s : State, s.opState ≠ .starting →
    (let o := if s.opState = .halted then OpState.idle else s.opState
    let t := { s with latched := noKinds, firstFault := none, opState := o }
    exec .clearFaults s = .next (answered .clearFaults ⟨.ok, .opState o⟩ t) ∧ t.flags.fault = false ∧
    ∀ d label source group, (latch d label source group t).firstFault =
      some ⟨d, label, source, group, s.clock⟩)

/-- TAKE REPORTS removes the min(n, 16, queue length) oldest reports and answers them oldest first with the
lengths. With no entry waiting to close, that is all it does. Otherwise, when it removed one, the book uses the
room within the same event: from the head of the closing order list, while the queue has room, each entry's
closing report is queued after the reports that remain, and its slot freed or its successor part promoted; then
come the LATE reports of the entries promoted late (R60, R61, R64, R155). -/
def Obligations.TakeReportsResult : Prop :=
  ∀ (n : Byte) (s : State), s.opState ≠ .starting → NothingHalts s [.delivery] →
    (let k := min (min n.toNat 16) s.reports.length
    (k = 0 ∨ s.closing = [] →
      exec (.takeReports n) s = .next (answered (.takeReports n)
        ⟨.ok, .reports (s.reports.take k) k (s.reports.length - k) s.closing.length⟩
        { s with reports := s.reports.drop k, quietWait := quietAfter s })) ∧
    (0 < k → BookIsKeyed s → s.closing.Nodup →
      (∀ n ∈ s.closing, ∃ e ∈ s.book, e.slot = n ∧ e.isClosing = true) →
      ∃ t, exec (.takeReports n) s = .next t ∧ Drained s t (s.reports.drop k) ∧
        t.response = some ⟨0x30, ⟨.ok, .reports (s.reports.take k) k t.reports.length t.closing.length⟩,
          s.lineRate⟩ ∧
        t.holding = ⟨0x30, [n], true⟩ :: s.holding.tail ∧ QuietWaitFollows t ∧
        t = { s with
          reports := t.reports, nextSeq := t.nextSeq, book := t.book, closing := t.closing,
          latched := t.latched, firstFault := t.firstFault, quietWait := t.quietWait, holding := t.holding,
          response := t.response }))

/-- CLOSING_LIST_DRAIN queues closing reports from the head of the closing order list while the queue has
room, in the order the entries entered CLOSING, and frees their slots or promotes their successor parts, with
the LATE reports of those promoted late at the end (R60, R61, R64). The model's reading (log entry 8): the row
is a command of its own that applies the drain of TAKE REPORTS again; after a TAKE REPORTS it finds the list
empty or the queue full, and so does nothing. -/
def Obligations.ClosingListDrainResult : Prop :=
  ∀ s : State, NothingHalts s [.delivery] → BookIsKeyed s → s.closing.Nodup →
    (∀ n ∈ s.closing, ∃ e ∈ s.book, e.slot = n ∧ e.isClosing = true) → s.opState ≠ .starting →
    ∃ t, exec .closingListDrain s = .next t ∧ Drained s t s.reports ∧ QuietWaitFollows t ∧
      t = { s with
        book := t.book, closing := t.closing, reports := t.reports, nextSeq := t.nextSeq,
        latched := t.latched, firstFault := t.firstFault, quietWait := t.quietWait }

/-- WITHDRAW frees a WAITING, HELD or YIELDED entry with a WITHDRAWN report when the queue has room, is FULL
when it has none, BUSY for an entry IN_TRANSFER, and WRONG_STATE for a CLOSING entry or none (R62, R66). -/
def Obligations.WithdrawResult : Prop :=
  ∀ (l : LabelAddr) (s : State), s.opState ≠ .starting →
    (s.entryOf l = none → exec (.withdraw l) s = .next (answered (.withdraw l) ⟨.wrongState, .none⟩ s)) ∧
    (∀ e, s.entryOf l = some e →
      (e.isOpen = true → s.reports.length < 256 →
        exec (.withdraw l) s = .next (answered (.withdraw l) ⟨.ok, .none⟩
          { s with
            reports := s.reports ++ [⟨s.nextSeq, ⟨.withdrawn, e.label, e.target, s.clock,
              .station s.config.identity.station, e.attempts, e.notes, e.lastGroup⟩⟩]
            nextSeq := s.nextSeq + 1
            book := s.book.filter (fun x => x.slot != e.slot) })) ∧
      (e.isOpen = true → 256 ≤ s.reports.length →
        exec (.withdraw l) s = .next (answered (.withdraw l) ⟨.full, .none⟩ s)) ∧
      (e.state = .inTransfer → exec (.withdraw l) s = .next (answered (.withdraw l) ⟨.busy, .none⟩ s)) ∧
      (e.isClosing = true → exec (.withdraw l) s = .next (answered (.withdraw l) ⟨.wrongState, .none⟩ s)))

/-- SET ATTENTION replaces the enable set and answers it with the flags as STATUS reads them; ATTN is driven
low exactly while a raised flag is enabled, and is released through STARTING (R156 to R158). -/
def Obligations.AttentionResult : Prop :=
  (∀ (b : Byte) (s : State), s.opState ≠ .starting →
    exec (.setAttention b) s = .next (answered (.setAttention b)
      ⟨.ok, .attention (FlagSet.ofByte b) (s.flags.inter (FlagSet.ofByte b))⟩
      { s with enable := FlagSet.ofByte b })) ∧
  (∀ s : State, s.opState = .starting → s.attnLow = false) ∧
  (∀ s : State, s.opState ≠ .starting →
    (s.attnLow = true ↔
      (s.reports ≠ [] ∧ s.enable.reports = true) ∨
      ((∃ k : FaultKind, s.latched.get k = true ∧ s.config.policy.mask.get k = .attended) ∧
        s.enable.fault = true) ∨
      (4096 - s.book.length < 64 ∧ s.enable.bookLow = true) ∨
      ((∃ e ∈ s.book, e.late = true) ∧ s.enable.late = true) ∨
      (s.budget < s.config.policy.reserve * 100 ∧ s.enable.budgetLow = true) ∨
      (s.opState = .halted ∧ s.enable.halted = true)))

/-- RESET PORT discards the frame held behind it, the overrun and the open group, and sets the last reset kind
to PORT; everything else stands (R32, R142, R169). -/
def Obligations.ResetPortResult : Prop :=
  ∀ s : State, s.opState ≠ .starting →
    exec .resetPort s = .next { s with
      holding := [⟨0x42, [], true⟩], overrun := none, group := none, lastReset := .port
      response := some ⟨0x42, ⟨.ok, .none⟩, s.lineRate⟩ }

/-- The mask of a kind decides the FAULT flag alone (R149): it is raised while an ATTENDED kind is latched and
clear otherwise; latching, the log, STATUS and the halt of a fault do not depend on the masks, which
configuration group 4 sets and whose defaults are ATTENDED. -/
def Obligations.MaskDecidesFaultFlag : Prop :=
  (∀ k : FaultKind, defaultConfig.policy.mask.get k = .attended) ∧
  (∀ s : State, s.opState ≠ .starting →
    (s.flags.fault = true ↔
      ∃ k : FaultKind, s.latched.get k = true ∧ s.config.policy.mask.get k = .attended)) ∧
  (∀ (s : State) (m : PerKind KindMask) (d : Detail) (l : LabelAddr) (b : Byte) (g : GroupNo),
    let s' := { s with config := { s.config with policy := { s.config.policy with mask := m } } }
    (latch d l b g s').latched = (latch d l b g s).latched ∧
    (latch d l b g s').firstFault = (latch d l b g s).firstFault ∧
    (latch d l b g s').halt = (latch d l b g s).halt ∧
    (statusBody s').latched = s.latched ∧ (statusBody s').firstFault = s.firstFault) ∧
  (∀ (contents : List Byte) (p q : StationConfig), takeGroup 4 contents p = some q →
    q.policy.mask = perKindAt kindMaskOf contents 6)

/-! ### The air -/

/-- A CALL at the Roster and at the first decision. The Roster takes every CALL that the station hears, in
every state of the Engine, as `calledRoster` says (R69 to R71, R73, R75, R76, R82). A CALL whose model is not the
record's, in every state of the Engine, takes fault 202 and a MODEL_CHANGED report and re-checks a WAITING or HELD
entry against the new model (R51, R74), and then acts as it does with a record of that model: its decisions follow
by the clauses for an unchanged model, here and in `CallBeginsStandoff`. While the Engine is TRANSFERRING the CALL
reaches the Roster only, and a wait goes on (R81, R82). Otherwise a CALL that states at least the target closes the
label's WAITING, HELD or YIELDED entry as SEEN_CURRENT by LABEL, in every operating state but STARTING: with nothing
in the closing order list and room in the report queue its report is queued and its slot freed at once, and
otherwise it joins the end of the list (R48, R59 to R62, R82); and a CALL of a label with no open entry ends at the
Roster. -/
def Obligations.CallClosesCurrentEntry : Prop :=
  ∀ (f : CallFrame) (rssi : Int) (s : State), Hears s → f.label.wf = true →
    (let i : Instr := .call f rssi
    let sameModel := ∀ r, s.recordOf f.label = some r → r.model = f.model
    -- the Roster
    (∃ t, exec i s = .next t ∧ t.roster = calledRoster f rssi s) ∧
    -- a model change
    (∀ r, s.recordOf f.label = some r → r.model ≠ f.model → NothingHalts s [.delivery] → BookIsKeyed s →
      (let changed := fun (attempts : Nat) (notes : Notes) (group : GroupNo) =>
        (⟨.modelChanged, f.label, f.held, s.clock, .label, attempts, notes, group⟩ : ReportBody)
      let fault := fun (group : GroupNo) => (⟨.d202, f.label, 0, group, s.clock⟩ : FaultLog)
      let leaves := fun (u : State) (book : List Entry) (bodies : List ReportBody) (faults : List FaultLog) =>
        u.book = book ∧ Queues s u (bodies.take (256 - s.reports.length)) ∧ Latches s u faults
      ∃ u, exec i s = exec i u ∧
        u.roster = s.roster.map (fun x => if x.label = f.label then { x with model := f.model } else x) ∧
        u = { s with
          book := u.book, roster := u.roster, reports := u.reports, nextSeq := u.nextSeq, latched := u.latched,
          firstFault := u.firstFault } ∧
        (s.entryOf f.label = none → leaves u s.book [changed 0 {} 0] [fault 0]) ∧
        (∀ e, s.entryOf f.label = some e →
          (let body := changed e.attempts e.notes e.lastGroup
          (e.state ≠ .waiting → e.state ≠ .held → leaves u s.book [body] [fault e.lastGroup]) ∧
          (e.state = .waiting ∨ e.state = .held →
            (∀ d n, fit e.face s.config.models[f.model.toFin] = some (d, n) →
              leaves u (putEntry { e with state := .waiting, notes := { e.notes with fit := n } } s.book)
                [body] [fault e.lastGroup]) ∧
            (fit e.face s.config.models[f.model.toFin] = none →
              (let held := { e with state := .held, notes := { e.notes with fit := {} } }
              leaves u (putEntry held s.book)
                (body :: if e.state = .waiting then [heldBody s held] else [])
                (fault e.lastGroup :: if e.state = .waiting then [heldFault s held] else [])))))))) ∧
    -- no decision: the Engine is TRANSFERRING, or the label has no open entry
    (sameModel → s.isTransferring = true ∨ (∀ e, s.entryOf f.label = some e → e.isOpen = false) →
      NotAwaited i s { s with roster := calledRoster f rssi s }) ∧
    -- the first decision
    (∀ e, s.isTransferring = false → sameModel →
      s.entryOf f.label = some e → e.isOpen = true → atLeast f.held e.target = true →
      EntriesKeepLaw s → NothingHalts s [.delivery] →
      ∃ t, exec i s = .next t ∧ t.roster = calledRoster f rssi s ∧
        Closes s t e ⟨.seenCurrent, .label, f.held, s.clock⟩ ∧
        Latches s t ((closingLate s e).map (lateFault s)) ∧
        t.dialogue = .listening ∧ t.carriers = s.carriers - 1 ∧ QuietWaitFollows t ∧
        t = { s with
          book := t.book, closing := t.closing, reports := t.reports, nextSeq := t.nextSeq, roster := t.roster,
          latched := t.latched, firstFault := t.firstFault, dialogue := t.dialogue, carriers := t.carriers,
          quietWait := t.quietWait }))

/-- The second and third decisions of a CALL below the target, with the Engine not TRANSFERRING and the record's
model unchanged (R48, R50, R51, R83). A HELD entry is fitted against the CALL's model: it is WAITING when the
face fits, and otherwise stays HELD with no fault. In RUN, with LISTEN set, the WAITING entry is then decided: a
version that is not its base closes it as MISMATCH by LABEL (R59, R61); a face that does not fit places it in
HELD with fault 201 and a report; otherwise, when the estimate is covered for its lane, the Engine is in
STANDING_OFF with the context of R80 and the delay of R106, nothing being deducted, and when it is not covered
the call is declined (R84, R106, R126). -/
def Obligations.CallBeginsStandoff : Prop :=
  ∀ (f : CallFrame) (rssi : Int) (e : Entry) (s : State),
    Hears s → s.isTransferring = false → f.label.wf = true → BookIsKeyed s →
    (∀ r, s.recordOf f.label = some r → r.model = f.model) →
    s.entryOf f.label = some e → atLeast f.held e.target = false →
    (let model := s.config.models[f.model.toFin]
    let asked := s.opState = .run ∧ f.flags.getLsbD 0 = true
    let baseHeld := e.base = .any ∨ e.base = .version f.held
    let estimate := fun (d : DeliveredFace) => if (encodeFace d).length ≤ 16 then 1216 else 1848
    let need := fun d => estimate d + (if e.lane = .night then s.config.policy.reserve * 100 else 0)
    let withNotes := fun (n : FitNotes) => { e with state := .waiting, notes := { e.notes with fit := n } }
    let unfitted := { e with state := .held, notes := { e.notes with fit := {} } }
    -- what every one of these leaves
    let leaves := fun (t : State) =>
      exec (.call f rssi) s = .next t ∧ t.roster = calledRoster f rssi s ∧ t.carriers = s.carriers - 1 ∧
      QuietWaitFollows t ∧
      t = { s with
        book := t.book, closing := t.closing, roster := t.roster, reports := t.reports, nextSeq := t.nextSeq,
        latched := t.latched, firstFault := t.firstFault, dialogue := t.dialogue, carriers := t.carriers,
        quietWait := t.quietWait }
    -- no more than a fit
    let fits := fun (book : List Entry) =>
      ∃ t, leaves t ∧ t.book = book ∧ t.closing = s.closing ∧ t.dialogue = .listening ∧ SameReports s t ∧
        SameFaults s t
    -- a HELD entry, and a WAITING one that is not asked for
    (e.state = .held → fit e.face model = none → fits (putEntry unfitted s.book)) ∧
    (e.state = .held → ¬ asked → ∀ d n, fit e.face model = some (d, n) →
      fits (putEntry (withNotes n) s.book)) ∧
    (e.state = .waiting → ¬ asked → fits s.book) ∧
    (∀ u, e.state = .yielded u → fits s.book) ∧
    -- the base test
    (asked → ¬ baseHeld → EntriesKeepLaw s → NothingHalts s [.delivery] →
      (let mismatched := fun (x : Entry) =>
        ∃ t, leaves t ∧ t.dialogue = .listening ∧ Closes s t x ⟨.mismatch, .label, f.held, s.clock⟩ ∧
          Latches s t ((closingLate s x).map (lateFault s))
      (e.state = .waiting → mismatched e) ∧
      (e.state = .held → ∀ d n, fit e.face model = some (d, n) → mismatched (withNotes n)))) ∧
    -- the fit
    (asked → baseHeld → e.state = .waiting → fit e.face model = none → NothingHalts s [.delivery] →
      ∃ t, leaves t ∧ t.dialogue = .listening ∧ t.book = putEntry unfitted s.book ∧ t.closing = s.closing ∧
        Queues s t ([heldBody s unfitted].take (256 - s.reports.length)) ∧
        Latches s t [heldFault s unfitted]) ∧
    -- the budget test
    (asked → baseHeld → e.state = .waiting ∨ e.state = .held →
      ∀ d n, fit e.face model = some (d, n) →
      ∃ t, leaves t ∧ t.book = putEntry (withNotes n) s.book ∧ t.closing = s.closing ∧ SameReports s t ∧
        SameFaults s t ∧
        (need d ≤ s.budget → s.carriers ≤ 1 → ∃ c, t.dialogue = .standingOff c ∧ t.quietWait = none ∧
          c.label = e.label ∧ c.slot = e.slot ∧ c.base = e.base ∧ c.target = e.target ∧
          c.effective = e.effective ∧ c.lane = e.lane ∧ c.face = encodeFace d ∧ c.touched = false ∧
          c.delayUs = min (((if e.lane = .night then 8 else 0) +
            ((-40 - max (-100) (min rssi (-40))) / 4).toNat + min e.attempts 7) * 250 +
            s.config.identity.station.toNat % 8 * 25) 7500) ∧
        (s.budget < need d ∨ 1 < s.carriers → t.dialogue = .listening)))

/-- At the end of a standoff's delay the OFFER is committed when the station is in RUN, the entry is WAITING
and untouched and the budget covers the estimate for the context's lane; otherwise the standoff ends and
nothing else happens (R54, R85, R86, R127). -/
def Obligations.StandoffEndCommits : Prop :=
  ∀ (c : TransferContext) (s : State), s.dialogue = .standingOff c → c.face.length ≤ 27 →
    (let estimate := if c.face.length ≤ 16 then 1216 else 1848
    let need := estimate + (if c.lane = .night then s.config.policy.reserve * 100 else 0)
    (∀ e, s.entryAt c.slot = some e → e.label = c.label → e.state = .waiting → s.opState = .run →
      c.touched = false → need ≤ s.budget →
      exec .standoffEnd s = .next { s with
        book := putEntry { e with state := .inTransfer } s.book
        budget := s.budget - estimate
        dialogue := .transferring .awaitReady { c with covered := 0 }
        transmitting := some (.offer
          { sender := s.config.identity.station, label := c.label, base := c.base, target := c.target
            effective := c.effective, clock := s.clock
            faceLength := BitVec.ofNat 8 c.face.length
            fragments := if c.face.length ≤ 16 then 1 else 2
            faceCheck := crc16 c.face })
        quietWait := none }) ∧
    (s.opState ≠ .run ∨ c.touched = true ∨ s.budget < need ∨
        (∀ e, s.entryAt c.slot = some e → e.label ≠ c.label ∨ e.state ≠ .waiting) →
      exec .standoffEnd s = .next { s with
        dialogue := .listening, quietWait := quietAfter { s with dialogue := .listening } }))

/-- OFFER_SENT counts the OFFER's 5.84 ms as covered and begins the READY wait of 5 ms; FRAG_SENT counts a
first sending's airtime, zeroes its re-sends, and begins the wait of 4 ms (R86, R89). -/
def Obligations.SentFramesBeginWaits : Prop :=
  ∀ (c : TransferContext) (s : State),
    (∀ x, s.dialogue = .transferring .awaitReady c → s.transmitting = some x →
      exec .offerSent s = .next { s with
        transmitting := none
        dialogue := .transferring .awaitReady
          { c with covered := c.covered + 584, wait := some ⟨5000, false, false⟩ } }) ∧
    (s.dialogue = .transferring (.sending false) c →
      exec .fragSent s = .next { s with
        transmitting := none
        dialogue := .transferring .awaitAck
          { c with
            covered := c.covered + (376 + 16 * ((c.face.drop (16 * (c.fragment - 1))).take 16).length)
            resends := 0, wait := some ⟨4000, false, false⟩ } }) ∧
    (s.dialogue = .transferring (.sending true) c →
      exec .fragSent s = .next { s with
        transmitting := none
        dialogue := .transferring .awaitAck { c with wait := some ⟨4000, false, false⟩ } })

/-- The READY that AWAIT_READY awaits: READY sends FRAG 1 at once; CURRENT, MISMATCH and LOW_POWER end the
transfer, returning the unspent estimate; CURRENT and MISMATCH close the entry by LABEL with the READY's
version, its report queued at once, promoting a successor part, or its slot put at the end of the closing order
list; LOW_POWER leaves it WAITING without an attempt, chaining one. The Roster takes the level, the time and the
version of every such READY (R55, R57, R59 to R61, R70, R72, R73, R87, R94, R99). The model's inference (log
entry 15): a chain that would break the version law keeps the last transfer outcome, here LOW_POWER. -/
def Obligations.ReadyAwaited : Prop :=
  ∀ (f : ReadyFrame) (rssi : Int) (c : TransferContext) (e : Entry) (s : State),
    Hears s → NothingHalts s [.delivery] →
    s.dialogue = .transferring .awaitReady c → f.label = c.label → f.label.wf = true →
    f.station = s.config.identity.station → StationNo.wf f.station = true →
    BookIsKeyed s → s.entryAt c.slot = some e → e.label = c.label →
    ∃ t, exec (.ready f rssi) s = .next t ∧
      QuietWaitFollows t ∧ t.carriers = s.carriers - 1 ∧
      t.roster = heardRoster s f.label (some f.held) rssi ∧
      t = { s with
        book := t.book, closing := t.closing, roster := t.roster, reports := t.reports, nextSeq := t.nextSeq,
        latched := t.latched, firstFault := t.firstFault, dialogue := t.dialogue, transmitting := t.transmitting,
        carriers := t.carriers, quietWait := t.quietWait, budget := t.budget } ∧
      (f.reason = .ready →
        t.dialogue = .transferring (.sending false) { c with fragment := 1, wait := none } ∧
        t.transmitting = some (.frag
          { sender := s.config.identity.station, label := c.label, index := 1
            count := BitVec.ofNat 8 (fragmentCount c.face), payload := c.face.take 16 }) ∧
        SameBook s t ∧ t.budget = s.budget ∧ SameReports s t ∧ SameFaults s t) ∧
      (f.reason ≠ .ready →
        t.dialogue = .listening ∧ t.transmitting = none ∧
        t.budget = min (s.budget + (estimateOf c.face - c.covered)) (s.config.policy.capacity * 100)) ∧
      (f.reason = .lowPower →
        (let back := { e with lastOutcome := some .lowPower }
        ReturnsToWaiting s t back ∧ t.closing = s.closing ∧
          Latches s t ((waitingLate s back).map (lateFault s)))) ∧
      (f.reason = .current ∨ f.reason = .mismatch →
        (let ended := { e with lastOutcome := some (if f.reason = .current then .current else .mismatch) }
        Closes s t ended
          ⟨if f.reason = .current then .seenCurrent else .mismatch, .label, f.held, s.clock⟩ ∧
        Latches s t ((closingLate s ended).map (lateFault s))))

/-- The FRAG ACK that AWAIT_ACK awaits sends the next fragment at once, or after the last begins the DONE wait
of 10 ms. With any other FRAG ACK (of another index, station or label, or in another phase) the wait goes on
when its deadline has not passed; when it has, the wait that the frame's start had met expires at the frame's
end, as at its own expiry; and so does a FRAG ACK outside a transfer. A FRAG ACK never reaches the Roster (R81, R88,
R90). -/
def Obligations.FragAckAwaited : Prop :=
  (∀ (f : FragAckFrame) (s : State), Hears s → f.label.wf = true → StationNo.wf f.station = true →
    (∀ c, s.dialogue = .transferring .awaitAck c →
      f.label ≠ c.label ∨ f.station ≠ s.config.identity.station ∨ f.index.toNat ≠ c.fragment) →
    NotAwaited (.fragAck f) s s) ∧
  (∀ (f : FragAckFrame) (p : Phase) (c : TransferContext) (s : State),
    Hears s → s.dialogue = .transferring p c → f.label.wf = true → StationNo.wf f.station = true →
    (let acts := fun (d : Dialogue) (x : Option AirFrame) =>
      ∃ t, exec (.fragAck f) s = .next t ∧ t.dialogue = d ∧ t.transmitting = x ∧
        t.carriers = s.carriers - 1 ∧ QuietWaitFollows t ∧
        t = { s with
          dialogue := t.dialogue, transmitting := t.transmitting, carriers := t.carriers,
          quietWait := t.quietWait }
    let awaited := p = .awaitAck ∧ f.label = c.label ∧ f.station = s.config.identity.station ∧
      f.index.toNat = c.fragment
    (awaited → c.fragment < fragmentCount c.face →
      acts (.transferring (.sending false) { c with fragment := c.fragment + 1, wait := none })
        (some (.frag
          { sender := s.config.identity.station, label := c.label
            index := BitVec.ofNat 8 (c.fragment + 1), count := BitVec.ofNat 8 (fragmentCount c.face)
            payload := (c.face.drop (16 * c.fragment)).take 16 }))) ∧
    (awaited → fragmentCount c.face ≤ c.fragment →
      acts (.transferring .awaitDone { c with wait := some ⟨10000, false, false⟩ }) none)))

/-- The waits' expiries: a READY wait ends the transfer NO_ANSWER and a DONE wait UNCERTAIN; a FRAG ACK wait
re-sends the fragment when fewer than two re-sends are used and the budget covers it, and otherwise ends the
transfer LOST. Each of the three outcomes counts an attempt and, below the limit, leaves the entry WAITING with
any successor part chained into it; a wait that a frame start has met does not expire yet (R56, R57, R81, R87,
R91, R92, R99). The model's inference (log entry 15): a chain that would break the version law keeps the last
transfer outcome, here that of the three. -/
def Obligations.WaitExpiries : Prop :=
  ∀ (i : Instr) (p : Phase) (o : TransferOutcome) (c : TransferContext) (w : Wait) (e : Entry) (s : State),
    (i, p, o) ∈ ([(.readyWaitExpiry, .awaitReady, .noAnswer), (.ackWaitExpiry, .awaitAck, .lost),
      (.doneWaitExpiry, .awaitDone, .uncertain)] : List (Instr × Phase × TransferOutcome)) →
    s.halt = false → s.transmitting = none → s.dialogue = .transferring p c → c.wait = some w →
    BookIsKeyed s → s.entryAt c.slot = some e →
    (w.met = true → exec i s = .next { s with
      dialogue := .transferring p { c with wait := some { w with passed := true } }, quietWait := none }) ∧
    (w.met = false →
      (let airtime := 376 + 16 * ((c.face.drop (16 * (c.fragment - 1))).take 16).length
      (p = .awaitAck → c.resends < 2 → airtime ≤ s.budget →
        exec i s = .next { s with
          budget := s.budget - airtime
          dialogue := .transferring (.sending true) { c with resends := c.resends + 1, wait := none }
          transmitting := some (.frag
            { sender := s.config.identity.station, label := c.label, index := BitVec.ofNat 8 c.fragment
              count := BitVec.ofNat 8 (fragmentCount c.face)
              payload := (c.face.drop (16 * (c.fragment - 1))).take 16 })
          quietWait := none }) ∧
      (p ≠ .awaitAck ∨ 2 ≤ c.resends ∨ s.budget < airtime → NothingHalts s [.delivery] →
        e.attempts + 1 < attemptLimitOf s e.label →
        (let back := { e with
          attempts := e.attempts + 1, limit := attemptLimitOf s e.label, lastOutcome := some o }
        ∃ t, exec i s = .next t ∧ ReturnsToWaiting s t back ∧
          Latches s t ((waitingLate s back).map (lateFault s)) ∧
          t.budget = min (s.budget + (estimateOf c.face - c.covered)) (s.config.policy.capacity * 100) ∧
          t.dialogue = .listening ∧ QuietWaitFollows t ∧
          t = { s with
            book := t.book, reports := t.reports, nextSeq := t.nextSeq, latched := t.latched,
            firstFault := t.firstFault, budget := t.budget, dialogue := t.dialogue,
            quietWait := t.quietWait }))))

/-- A transfer that fails at the attempt limit, which a battery level of 0, 1 or 2 halves, closes its entry as
ABANDONED with fault 203 and a report by the own station, and promotes a successor part: NO_ANSWER, LOST and
UNCERTAIN at the expiry of their waits, and BAD_FACE, which latches 204 as well, at a REFUSE. The faults of one
such event, with the 205 of a successor promoted late, are taken in an order that no rule gives: the log holds
one of them (log entry 3). With the queue full or the closing order list not empty the entry joins the list
instead and nothing is promoted. The model's choice (log entry 25): the group of 204 is the last group of the
entry as it was before the REFUSE (R55, R56, R59 to R62, R77, R92, R148). -/
def Obligations.LimitAbandonsEntry : Prop :=
  ∀ (c : TransferContext) (e : Entry) (s : State),
    s.opState ≠ .starting → NothingHalts s [.delivery] → s.transmitting = none → BookIsKeyed s →
    s.entryAt c.slot = some e →
    (let limit := if (s.recordOf e.label).any (fun r => decide (r.battery.toNat ≤ 2)) then
      (s.config.policy.attemptLimit + 1) / 2 else s.config.policy.attemptLimit
    let abandoned := fun (t : State) (o : TransferOutcome) (faults : List FaultLog) =>
      let ended := { e with attempts := limit, limit := limit, lastOutcome := some o }
      t.dialogue = .listening ∧
      Closes s t ended ⟨.abandoned, ownStation s, e.target, s.clock⟩ ∧
      LatchesEither s t .delivery (⟨.d203, e.label, 0, e.lastGroup, s.clock⟩ ::
        (faults ++ (closingLate s ended).map (lateFault s))) ∧
      t.budget = min (s.budget + (estimateOf c.face - c.covered)) (s.config.policy.capacity * 100) ∧
      QuietWaitFollows t
    limit ≤ e.attempts + 1 →
    (∀ (i : Instr) (p : Phase) (o : TransferOutcome) (w : Wait),
      (i, p, o) ∈ ([(.readyWaitExpiry, .awaitReady, .noAnswer), (.ackWaitExpiry, .awaitAck, .lost),
        (.doneWaitExpiry, .awaitDone, .uncertain)] : List (Instr × Phase × TransferOutcome)) →
      s.dialogue = .transferring p c → c.wait = some w → w.met = false →
      (p = .awaitAck → 2 ≤ c.resends ∨
        s.budget < 376 + 16 * ((c.face.drop (16 * (c.fragment - 1))).take 16).length) →
      ∃ t, exec i s = .next t ∧ abandoned t o [] ∧
        t = { s with
          book := t.book, closing := t.closing, reports := t.reports, nextSeq := t.nextSeq, latched := t.latched,
          firstFault := t.firstFault, budget := t.budget, dialogue := t.dialogue, quietWait := t.quietWait,
          choices := t.choices }) ∧
    (∀ (f : RefuseFrame) (rssi : Int) (p : Phase), s.dialogue = .transferring p c →
      p = .awaitDone ∨ (p = .awaitAck ∧ c.fragment = fragmentCount c.face) →
      f.label = c.label → f.label.wf = true → f.station = s.config.identity.station →
      StationNo.wf f.station = true →
      ∃ t, exec (.refuse f rssi) s = .next t ∧
        abandoned t .badFace [⟨.d204, c.label, 0, e.lastGroup, s.clock⟩] ∧
        t.roster = heardRoster s f.label none rssi ∧ t.carriers = s.carriers - 1 ∧
        t = { s with
          book := t.book, closing := t.closing, roster := t.roster, reports := t.reports, nextSeq := t.nextSeq,
          latched := t.latched, firstFault := t.firstFault, budget := t.budget, dialogue := t.dialogue,
          carriers := t.carriers, quietWait := t.quietWait, choices := t.choices }))

/-- A DONE naming the own station in AWAIT_DONE, or in AWAIT_ACK of the last fragment, ends the transfer: the
entry closes as DELIVERED with its target, its report queued at once, promoting a successor part, or its slot
put at the end of the closing order list; the pair of the label and the target joins the tally list, but for an
equal pair, with the oldest of 64 making way; the unspent estimate is returned, and the Roster learns the
version the DONE states (R59 to R61, R70, R72, R73, R90, R92, R94, R99, R115). -/
def Obligations.DoneEndsTransfer : Prop :=
  ∀ (f : DoneFrame) (rssi : Int) (p : Phase) (c : TransferContext) (e : Entry) (s : State),
    Hears s → NothingHalts s [.delivery] → s.dialogue = .transferring p c →
    p = .awaitDone ∨ (p = .awaitAck ∧ c.fragment = fragmentCount c.face) →
    f.label = c.label → f.label.wf = true → f.station = s.config.identity.station →
    StationNo.wf f.station = true → BookIsKeyed s → s.entryAt c.slot = some e → s.tally.length ≤ 64 →
    (let ended := { e with lastOutcome := some .done }
    ∃ t, exec (.done f rssi) s = .next t ∧ t.dialogue = .listening ∧
      Closes s t ended ⟨.delivered, ownStation s, e.target, s.clock⟩ ∧
      Latches s t ((closingLate s ended).map (lateFault s)) ∧
      t.tally = tallyJoined (c.label, c.target) s.tally ∧
      t.budget = min (s.budget + (estimateOf c.face - c.covered)) (s.config.policy.capacity * 100) ∧
      t.roster = heardRoster s f.label (some f.held) rssi ∧
      t.carriers = s.carriers - 1 ∧ QuietWaitFollows t ∧
      t = { s with
        book := t.book, closing := t.closing, roster := t.roster, reports := t.reports, nextSeq := t.nextSeq,
        latched := t.latched, firstFault := t.firstFault, dialogue := t.dialogue, carriers := t.carriers,
        quietWait := t.quietWait, budget := t.budget, tally := t.tally })

/-- A REFUSE naming the own station where a DONE would end the transfer ends it BAD_FACE: fault 204 is
latched, an attempt is counted, and below the limit the entry returns to WAITING, with any successor part
chained into it, which may make it late; the Roster takes the level and the time (R55 to R57, R70, R73, R92, R145,
R148). The model's choice (log entry 25): the group of 204 is the last group of the entry as it was before the
REFUSE, not that of the successor part. The model's inference (log entry 15): a chain that would break the version
law keeps the last transfer outcome, here BAD_FACE. -/
def Obligations.RefuseEndsTransfer : Prop :=
  ∀ (f : RefuseFrame) (rssi : Int) (p : Phase) (c : TransferContext) (e : Entry) (s : State),
    Hears s → NothingHalts s [.delivery] → s.dialogue = .transferring p c →
    p = .awaitDone ∨ (p = .awaitAck ∧ c.fragment = fragmentCount c.face) →
    f.label = c.label → f.label.wf = true → f.station = s.config.identity.station →
    StationNo.wf f.station = true → BookIsKeyed s → s.entryAt c.slot = some e →
    e.attempts + 1 < attemptLimitOf s e.label →
    (let back := { e with
      attempts := e.attempts + 1, limit := attemptLimitOf s e.label, lastOutcome := some .badFace }
    ∃ t, exec (.refuse f rssi) s = .next t ∧ t.dialogue = .listening ∧
      ReturnsToWaiting s t back ∧
      LatchesEither s t .delivery
        (⟨.d204, c.label, 0, e.lastGroup, s.clock⟩ :: (waitingLate s back).map (lateFault s)) ∧
      t.budget = min (s.budget + (estimateOf c.face - c.covered)) (s.config.policy.capacity * 100) ∧
      t.roster = heardRoster s f.label none rssi ∧
      t.carriers = s.carriers - 1 ∧ QuietWaitFollows t ∧
      t = { s with
        book := t.book, roster := t.roster, reports := t.reports, nextSeq := t.nextSeq, latched := t.latched,
        firstFault := t.firstFault, dialogue := t.dialogue, carriers := t.carriers, quietWait := t.quietWait,
        budget := t.budget, choices := t.choices })

/-- A READY, DONE or REFUSE that no phase awaits, with the Engine in any state. The Roster takes the level, the
time and the version that a READY or DONE states (R70, R72, R73). A frame of the label in transfer reaches the
Roster only (R88), and so do a REFUSE and a READY whose reason is not CURRENT (R95, R111, R113). A READY CURRENT
and a DONE confirm the label's open entry whose target the version reaches, and change no other: READY CURRENT
closes it as SEEN_CURRENT by LABEL (R49, R111), DONE as PEER_DELIVERED by the peer it names (R112), or, naming
the own station, as DELIVERED by the own station, and its pair joins the tally list in any case (R95, R115). The
entry's report is queued at once, or its slot joins the closing order list (R59 to R61). A wait goes on, or expires
now (R81, `NotAwaited`). -/
def Obligations.OverheardFramesConfirm : Prop :=
  ∀ (rssi : Int) (s : State),
    Hears s → NothingHalts s [.delivery] → BookIsKeyed s → s.tally.length ≤ 64 →
    (let own := s.config.identity.station
    let rosterOnly := fun (i : Instr) (l : LabelAddr) (version : Option Version) =>
      NotAwaited i s { s with roster := heardRoster s l version rssi }
    let confirms := fun (i : Instr) (l : LabelAddr) (r : ClosingRecord)
        (tally : List (LabelAddr × Version)) =>
      (∀ e, s.entryOf l = some e → e.isOpen = true → atLeast r.version e.target = true →
        ∃ u, NotAwaited i s u ∧ Closes s u e r ∧ Latches s u ((closingLate s e).map (lateFault s)) ∧
          u = { s with
            book := u.book, closing := u.closing, roster := heardRoster s l (some r.version) rssi,
            reports := u.reports, nextSeq := u.nextSeq, latched := u.latched, firstFault := u.firstFault,
            tally := tally }) ∧
      ((∀ e, s.entryOf l = some e → e.isOpen = false ∨ atLeast r.version e.target = false) →
        NotAwaited i s { s with roster := heardRoster s l (some r.version) rssi, tally := tally })
    (∀ f : ReadyFrame, f.label.wf = true → StationNo.wf f.station = true →
      (transferLabel s ≠ some f.label →
        (f.reason = .current →
          confirms (.ready f rssi) f.label ⟨.seenCurrent, .label, f.held, s.clock⟩ s.tally) ∧
        (f.reason ≠ .current → rosterOnly (.ready f rssi) f.label (some f.held))) ∧
      (transferLabel s = some f.label → f.station ≠ own ∨ readyIsAwaited s = false →
        rosterOnly (.ready f rssi) f.label (some f.held))) ∧
    (∀ f : DoneFrame, f.label.wf = true → StationNo.wf f.station = true →
      (transferLabel s ≠ some f.label →
        (f.station = own →
          confirms (.done f rssi) f.label ⟨.delivered, ownStation s, f.held, s.clock⟩
            (tallyJoined (f.label, f.held) s.tally)) ∧
        (f.station ≠ own →
          confirms (.done f rssi) f.label ⟨.peerDelivered, .station f.station, f.held, s.clock⟩ s.tally)) ∧
      (transferLabel s = some f.label → f.station ≠ own ∨ endAwaited s = false →
        rosterOnly (.done f rssi) f.label (some f.held))) ∧
    (∀ f : RefuseFrame, f.label.wf = true → StationNo.wf f.station = true →
      transferLabel s ≠ some f.label ∨ f.station ≠ own ∨ endAwaited s = false →
      rosterOnly (.refuse f rssi) f.label none))

/-- A peer's OFFER, with the Engine in any state, yields the label's open entry for 32 clock seconds and touches
neither the Roster nor the clock; one of a label with no entry, or with an entry IN_TRANSFER or CLOSING, reaches no
block, and neither does a peer's FRAG. A standoff has ended, and a wait goes on, or expires now (R52, R81, R88, R110,
R113, R114, `NotAwaited`). -/
def Obligations.PeerOfferYields : Prop :=
  ∀ s : State, Hears s →
    (∀ f : OfferFrame, f.label.wf = true → StationNo.wf f.sender = true →
      f.sender ≠ s.config.identity.station →
      (∀ e, s.entryOf f.label = some e → e.isOpen = true →
        NotAwaited (.peerOffer f) s
          { s with book := putEntry { e with state := .yielded (s.clock + 32) } s.book }) ∧
      ((∀ e, s.entryOf f.label = some e → e.isOpen = false) → NotAwaited (.peerOffer f) s s)) ∧
    (∀ f : FragFrame, NotAwaited (.peerFrag f) s s)

/-- A peer's TALLY of at most 16 pairs, with the Engine in any state: its pairs are taken one after another, each on
what those before it have left (R120, `TakesPair`). A pair of a bad address is skipped; the Roster takes a newer
version and keeps an equal, older or ambiguous one without moving the record; the label's open entry whose target
the version reaches closes as PEER_DELIVERED by the TALLY's sender, its report queued at once or its slot put at
the end of the closing order list, but for the label in transfer, and any other entry is unchanged (R49, R59 to R61,
R70, R72, R88, R104). A standoff has ended, and a wait goes on, or expires now (R81, `NotAwaited`). -/
def Obligations.PeerTallyConfirms : Prop :=
  ∀ (f : TallyFrame) (s : State),
    Hears s → NothingHalts s [.delivery] → f.pairs.length ≤ 16 → StationNo.wf f.sender = true →
    f.sender ≠ s.config.identity.station → BookIsKeyed s →
    ∃ u, TakesPairs f.sender f.pairs s u ∧ NotAwaited (.peerTally f) s u

/-- At the end of a quiet wait a covered TALLY of the oldest pairs, at most 16, is paid for and begun, and an
uncovered one waits again; sent whole, its pairs leave the list and the tally counter is 0 (R116 to R118,
R127). -/
def Obligations.TallyIsSent : Prop :=
  ∀ s : State,
    (let airtime := 424 + 80 * min 16 s.tally.length
    (s.quietWait ≠ none → airtime ≤ s.budget →
      ∃ x : TallyFrame, exec .quietWaitEnd s = .next { s with
          budget := s.budget - airtime, dialogue := .tallying (min 16 s.tally.length), quietWait := none
          transmitting := some (.tally x) } ∧
        x.sender = s.config.identity.station ∧ x.clock = s.clock ∧ x.pairs = s.tally.take 16) ∧
    (s.quietWait ≠ none → s.budget < airtime → exec .quietWaitEnd s = .next s)) ∧
    (∀ n, s.dialogue = .tallying n → s.halt = false →
      (let t := { s with dialogue := .listening, transmitting := none, tally := s.tally.drop n, tallyCount := 0 }
      exec .tallySent s = .next { t with quietWait := quietAfter t }))

/-- Carrier, frame starts and frames that reach no block (R81, R104, R105, R107, R108, R117). Carrier stops a
standoff, leaving its entry and the budget, and holds off a quiet wait, which begins again in full when the
last carrier ends. What begins or ends while the station sends is counted on, so that a carrier left at the
end of a sending is sensed from there: the end of a TALLY begins no quiet wait then. A frame that ends while
the station sends is lost but for its carrier, and in STARTING nothing is sensed. A frame start meets the wait
in progress; a frame that fails a check of R104, whether it comes as its bytes or as a decoded frame whose
fields fail checks 5 to 7, reaches no block in any state of the Engine: a wait goes on, or expires now
(`NotAwaited`). -/
def Obligations.CarrierAndFrameStarts : Prop :=
  ∀ s : State,
    (s.opState = .starting → exec .carrierSensed s = .next s ∧ exec .carrierEnd s = .next s) ∧
    (s.opState ≠ .starting →
      exec .carrierSensed s = .next { s with
        dialogue := (match s.dialogue with
          | .standingOff _ => .listening
          | d => d)
        carriers := s.carriers + 1, quietWait := none } ∧
      exec .carrierEnd s = .next { s with
        carriers := s.carriers - 1, quietWait := quietAfter { s with carriers := s.carriers - 1 } } ∧
      (s.carriers ≠ 0 → quietAfter s = none) ∧
      (∀ n, s.dialogue = .tallying n → s.carriers ≠ 0 →
        ∃ t, exec .tallySent s = .next t ∧ t.carriers = s.carriers ∧ t.quietWait = none) ∧
      (s.transmitting ≠ none →
        exec .frameStart s = .next s ∧
        ∀ (f : AirFrame) (i : Instr) (rssi : Int), commandOf f rssi = i →
          exec i s = .next { s with carriers := s.carriers - 1 })) ∧
    (Hears s →
      (∀ p c w, s.dialogue = .transferring p c → c.wait = some w →
        exec .frameStart s = .next { s with
          dialogue := .transferring p { c with wait := some { w with met := true } } }) ∧
      (s.isTransferring = false → exec .frameStart s = .next s) ∧
      (∀ (bytes : List Byte) (rssi : Int),
        receive s.config.identity.station s.config.identity.site bytes = none →
        NotAwaited (.airFrameDiscarded bytes rssi) s s) ∧
      (∀ (f : AirFrame) (rssi : Int), f.admissible s.config.identity.station = false →
        NotAwaited (commandOf f rssi) s s))

/-- What the air never touches: no command of the air changes the Batch Link, the open group, the clock, the
configuration, the enable set or the last reset kind (R100, R114, R121, R132, R161). -/
def Obligations.AirKeepsTheRest : Prop :=
  ∀ (i : Instr) (s t : State),
    isOfAir i = true →
    exec i s = .next t →
    SameLink s t ∧ SameSetup s t ∧ t.group = s.group ∧ t.enable = s.enable

/-- A frame of any of the eight kinds, written by the layout of R177, is received as itself by every station
of its site that R104 lets take it: no field is lost or changed. Conversely, only such bytes are received: all
others fail a check of R104 and are discarded. The bytes received are those that the layout gives the frame, with
its site code, size, kind, qualifier and frame check, and its fields pass checks 5 to 7: a good station number, a
good label address, and a sender other than the own station. In an OFFER of base ANY the two base bytes are not
read. -/
def Obligations.AirFramesReadBack : Prop :=
  (∀ (f : AirFrame) (own : StationNo) (site : SiteCode), f.admissible own = true →
    receive own site (f.bytes site) = some f) ∧
  (∀ (f : AirFrame) (own : StationNo) (site : SiteCode) (bytes : List Byte),
    receive own site bytes = some f →
    f.admissible own = true ∧
    (bytes = f.bytes site ∨
      ∃ (x : OfferFrame) (v : Version), f = .offer x ∧ x.base = .any ∧
        (let fields := (AirFrame.offer { x with base := .version v }).fields
        let checked : List Byte := 0x21 :: 24 :: (bytesOfBits 2 site ++ fields)
        bytes = checked ++ bytesOfBits 2 (crc16 checked)))) ∧
  (∀ (f : AirFrame) (own : StationNo),
    (let station := fun n : StationNo => 1 ≤ n.toNat ∧ n.toNat ≤ 250
    let label := fun l : LabelAddr => 1 ≤ l.toNat ∧ l.toNat ≤ 16777214
    f.admissible own = true ↔
      match f with
      | .call x => label x.label
      | .offer x => station x.sender ∧ label x.label ∧ x.sender ≠ own
      | .ready x => station x.station ∧ label x.label
      | .frag x => x.payload.length ≤ 16 ∧ station x.sender ∧ label x.label ∧ x.sender ≠ own
      | .fragAck x => station x.station ∧ label x.label
      | .done x => station x.station ∧ label x.label
      | .refuse x => station x.station ∧ label x.label
      | .tally x => x.pairs.length ≤ 16 ∧ station x.sender ∧ x.sender ≠ own))

/-- The standoff delay (R106): the lane, signal and attempt terms in ticks of 250 µs, the jitter, and the cap;
every delay is a whole multiple of 25 µs of at most 7,500. A CALL that enters STANDING_OFF fixes it from the
CALL's level and the entry's attempts and lane, and no command outside the air changes it. -/
def Obligations.StandoffDelayLaw : Prop :=
  (∀ (station : StationNo) (lane : Lane) (rssi : Int) (attempts : Nat),
    (let level := max (-100) (min rssi (-40))
    ∃ signal : Nat, (signal : Int) = (-40 - level) / 4 ∧ signal ≤ 15 ∧
      (let ticks := (if lane = .urgent then 0 else 8) + signal + min attempts 7
      let jitter := station.toNat % 8 * 25
      let delay := standoffDelay station lane rssi attempts
      ticks ≤ 30 ∧ jitter ≤ 175 ∧ delay = min (ticks * 250 + jitter) 7500 ∧ delay % 25 = 0 ∧
      (attempts ≤ 5 → delay ≤ 7175) ∧
      (7500 < ticks * 250 + jitter → 6 < attempts)))) ∧
  (∀ (f : CallFrame) (rssi : Int) (c : TransferContext) (s t : State), Hears s →
    exec (.call f rssi) s = .next t → t.dialogue = .standingOff c →
    ∃ e, t.entryAt c.slot = some e ∧ e.label = f.label ∧ c.lane = e.lane ∧
      c.delayUs = standoffDelay s.config.identity.station c.lane rssi e.attempts) ∧
  (∀ (i : Instr) (c c' : TransferContext) (s t : State), isOfAir i = false → exec i s = .next t →
    s.dialogue = .standingOff c → t.dialogue = .standingOff c' → c'.delayUs = c.delayUs)

/-! ### The Price Arithmetic Unit -/

/-- The computed price of an item in its ranges, stage by stage, with the notes (R6 to R12). The raw price is
the ticket price, the set price, the ticket price less the amount but not below 0, or the truncated product
with the rate clamped to 900. With PERCENT or AMOUNT and an ending rule it is brought down to the greatest
value not above it that has the ending, and left where there is none. A result of 0 becomes 1, and one below the
effective floor becomes the floor. WAS is shown exactly where a markdown lowered the price, and SAVE is the
truncated percentage, when it is at least 1. -/
def Obligations.PriceLaw : Prop :=
  ∀ p : PriceItem, 1 ≤ p.ticket → p.ticket ≤ 9999999 → p.floor ≤ p.ticket →
    (∀ k, p.markdown = .percent k → k ≤ 1000) → (∀ k, p.markdown = .set k → 1 ≤ k ∧ k ≤ 9999999) →
    (∀ e, p.ending = some e → (e.modulus = 10 ∨ e.modulus = 100 ∨ e.modulus = 1000) ∧ e.value < e.modulus) →
    (let f := computeFace { price := some p }
    let notes := computeNotes { price := some p }
    let used := (∃ k, p.markdown = .percent k) ∨ ∃ k, p.markdown = .amount k
    ∃ raw ended shown, f.price = some shown ∧ 1 ≤ shown ∧ shown ≤ 9999999 ∧ max p.floor 1 ≤ shown ∧
      -- stage 1
      (p.markdown = .none → raw = p.ticket) ∧
      (∀ k, p.markdown = .set k → raw = k) ∧
      (∀ k, p.markdown = .amount k → (k ≤ p.ticket → raw + k = p.ticket) ∧ (p.ticket < k → raw = 0)) ∧
      (∀ k, p.markdown = .percent k →
        raw * 1000 ≤ p.ticket * (1000 - min k 900) ∧ p.ticket * (1000 - min k 900) < (raw + 1) * 1000) ∧
      (notes.rateClamped = true ↔ ∃ k, p.markdown = .percent k ∧ 900 < k) ∧
      -- stage 2
      (∀ e, used → p.ending = some e → e.value ≤ raw →
        ended ≤ raw ∧ raw < ended + e.modulus ∧ ended % e.modulus = e.value) ∧
      (∀ e, used → p.ending = some e → raw < e.value → ended = raw) ∧
      (¬ used ∨ p.ending = none → ended = raw) ∧
      (notes.endingSkipped = true ↔ used ∧ ∃ e, p.ending = some e ∧ raw < e.value) ∧
      -- stages 3 and 4
      shown = max (max ended 1) (max p.floor 1) ∧
      (notes.minPrice = true ↔ ended = 0) ∧ (notes.floored = true ↔ max ended 1 < max p.floor 1) ∧
      ((∀ k, p.markdown ≠ .set k) → shown ≤ p.ticket) ∧
      -- stages 5 and 6
      (f.was = if p.markdown ≠ .none ∧ shown < p.ticket then some p.ticket else none) ∧
      (∀ v, f.save = some v → f.was ≠ none ∧ 1 ≤ v ∧ v ≤ 99 ∧ v * p.ticket ≤ 100 * (p.ticket - shown) ∧
        100 * (p.ticket - shown) < (v + 1) * p.ticket) ∧
      (f.save = none → f.was ≠ none → 100 * (p.ticket - shown) < p.ticket) ∧
      -- the rest
      f.unit = none ∧ f.badge = none ∧ f.stock = none ∧ f.ends = none ∧ f.locate = none ∧
      notes.unitOver = false ∧ notes.unitUnder = false ∧ notes.unitNoPrice = false)

/-- The computation of any items beyond the price stages (R5, R13 to R15). The unit price is the exact quotient of
the shown price, rounded to the nearest cent with a half rounded up. It is present in 1..9,999,999, absent with
UNIT_UNDER at 0 and with UNIT_OVER above, and absent with UNIT_NO_PRICE without a PRICE item; each of the three notes
is clear in every other case. BADGE, STOCK, ENDS and LOCATE are carried as they are. PRICE, WAS, SAVE and their notes
depend on the PRICE item alone, so that `PriceLaw` gives them for any items, and are absent and clear without it. -/
def Obligations.UnitPriceLaw : Prop :=
  ∀ i : Items,
    (let f := computeFace i
    let notes := computeNotes i
    let priced : Items := { price := i.price }
    -- the unit price
    (i.unit = none →
      f.unit = none ∧ notes.unitOver = false ∧ notes.unitUnder = false ∧ notes.unitNoPrice = false) ∧
    (∀ u, i.unit = some u → i.price = none →
      f.unit = none ∧ notes.unitOver = false ∧ notes.unitUnder = false ∧ notes.unitNoPrice = true) ∧
    (∀ u p, i.unit = some u → i.price = some p → 1 ≤ u.quantity →
      ∃ shown x, f.price = some shown ∧
        2 * u.quantity * x ≤ 2 * shown * u.basis + u.quantity ∧
        2 * shown * u.basis + u.quantity < 2 * u.quantity * (x + 1) ∧
        f.unit = (if 1 ≤ x ∧ x ≤ 9999999 then some (u.code, x) else none) ∧
        (notes.unitUnder = true ↔ x = 0) ∧ (notes.unitOver = true ↔ 9999999 < x) ∧
        notes.unitNoPrice = false) ∧
    -- the fields that are carried
    f.badge = i.badge ∧ f.stock = i.stock ∧ f.ends = i.ends ∧ f.locate = i.locate ∧
    -- what depends on the PRICE item alone
    f.price = (computeFace priced).price ∧ f.was = (computeFace priced).was ∧
    f.save = (computeFace priced).save ∧
    notes.rateClamped = (computeNotes priced).rateClamped ∧
    notes.endingSkipped = (computeNotes priced).endingSkipped ∧
    notes.minPrice = (computeNotes priced).minPrice ∧ notes.floored = (computeNotes priced).floored ∧
    (i.price = none →
      f.price = none ∧ f.was = none ∧ f.save = none ∧ notes.rateClamped = false ∧
      notes.endingSkipped = false ∧ notes.minPrice = false ∧ notes.floored = false))

/-- A delivered face is what its model shows of the computed face (R18 to R22). It is refused exactly for a
shown price too wide. WAS with SAVE, and UNIT, are dropped where too wide, and every field outside the field
set; what is left is carried as it is. A face with PRICE carries each of WAS, SAVE and UNIT that the model can
show, as clear where it has no value, and one without carries none. The four fit notes say what was dropped or
cleared. The encoding is the fields that are carried, in the order PRICE, WAS, SAVE, UNIT, BADGE, STOCK, ENDS,
LOCATE, each its tag 1 to 8 and its contents of 4, 4, 1, 5, 1, 1, 2 and 1 bytes, the most significant first, with
all contents 0 for a clear WAS, SAVE or UNIT; it is at most 27 bytes (R22, 12.2). -/
def Obligations.DeliveredFaceFitsModel : Prop :=
  (∀ d : DeliveredFace,
    (let byte := fun n : Nat => BitVec.ofNat 8 n
    let money := fun n : Nat => [byte (n / 16777216), byte (n / 65536), byte (n / 256), byte n]
    ∃ price was save unit badge stock ends locate,
      encodeFace d = price ++ was ++ save ++ unit ++ badge ++ stock ++ ends ++ locate ∧
      (price = match d.price with
        | none => []
        | some x => 1 :: money x) ∧
      (was = match d.was with
        | .notCarried => []
        | .clear => [2, 0, 0, 0, 0]
        | .value x => 2 :: money x) ∧
      (save = match d.save with
        | .notCarried => []
        | .clear => [3, 0]
        | .value x => [3, byte x]) ∧
      (unit = match d.unit with
        | .notCarried => []
        | .clear => [4, 0, 0, 0, 0, 0]
        | .value (code, x) => 4 :: (match code with
            | .per100g => 1
            | .perKg => 2
            | .per100ml => 3
            | .perL => 4
            | .perItem => 5
            | .perM => 6) :: money x) ∧
      (badge = match d.badge with
        | none => []
        | some x => [5, match x with
            | .none => 0
            | .sale => 1
            | .clearance => 2
            | .new => 3
            | .member => 4
            | .final => 5]) ∧
      (stock = match d.stock with
        | none => []
        | some x => [6, match x with
            | .inStock => 0
            | .low => 1
            | .out => 2
            | .ordered => 3]) ∧
      (ends = match d.ends with
        | none => []
        | some x => [7, byte (x / 256), byte x]) ∧
      (locate = match d.locate with
        | none => []
        | some x => [8, byte x]))) ∧
  (∀ (f : Face) (m : ModelRecord),
    (fit f m = none ↔ ∃ p, f.price = some p ∧ 10 ^ m.priceDigits ≤ p) ∧
    (∀ d n, fit f m = some (d, n) →
      (let wasWide := ∃ w, f.was = some w ∧ 10 ^ m.priceDigits ≤ w
      let unitWide := ∃ u, f.unit = some u ∧ (m.unitDigits = 0 ∨ 10 ^ m.unitDigits ≤ u.2)
      let unitShown := m.fields.unit = true ∧ 1 ≤ m.unitDigits
      d.price = f.price ∧
      (f.price = none → d.was = .notCarried ∧ d.save = .notCarried ∧ d.unit = .notCarried) ∧
      (f.price ≠ none →
        (m.fields.was = false → d.was = .notCarried) ∧
        (m.fields.was = true →
          (∀ w, f.was = some w → ¬ wasWide → d.was = .value w) ∧ (f.was = none ∨ wasWide → d.was = .clear)) ∧
        (m.fields.save = false → d.save = .notCarried) ∧
        (m.fields.save = true →
          (∀ v, f.save = some v → ¬ wasWide → d.save = .value v) ∧
          (f.save = none ∨ wasWide → d.save = .clear)) ∧
        (¬ unitShown → d.unit = .notCarried) ∧
        (unitShown →
          (∀ u, f.unit = some u → ¬ unitWide → d.unit = .value u) ∧
          (f.unit = none ∨ unitWide → d.unit = .clear))) ∧
      d.badge = (if m.fields.badge then f.badge else none) ∧
      d.stock = (if m.fields.stock then f.stock else none) ∧
      d.ends = (if m.fields.ends then f.ends else none) ∧
      d.locate = (if m.fields.locate then f.locate else none) ∧
      (n.wasDropped = true ↔ wasWide) ∧ (n.unitDropped = true ↔ unitWide) ∧
      (n.fieldsDropped = true ↔
        (f.was ≠ none ∧ ¬ wasWide ∧ m.fields.was = false) ∨
        (f.save ≠ none ∧ ¬ wasWide ∧ m.fields.save = false) ∨
        (f.unit ≠ none ∧ ¬ unitWide ∧ m.fields.unit = false) ∨
        (f.badge ≠ none ∧ m.fields.badge = false) ∨ (f.stock ≠ none ∧ m.fields.stock = false) ∨
        (f.ends ≠ none ∧ m.fields.ends = false) ∨ (f.locate ≠ none ∧ m.fields.locate = false)) ∧
      (n.unitCleared = true ↔ d.unit = .clear) ∧
      (encodeFace d).length ≤ 27)))

/-! ### What every step keeps -/

/-- The laws below hold at reset. -/
def Obligations.ResetKeepsLaws : Prop :=
  (let s := State.reset
  StartingIsEmpty s ∧ HaltedIsSilent s ∧ StopFaultHalts s ∧ RunIsNumbered s ∧ QueuesWithinBounds s ∧
  OverrunWaits s ∧ BudgetWithinCapacity s ∧ ConfigsInRange s ∧ LogMatchesLatched s ∧ BookIsKeyed s ∧
  EntriesKeepLaw s ∧ ClosingListHolds s ∧ TransferHasEntry s ∧ RosterIsKeyed s ∧ EngineAgrees s ∧
  QuietWaitFollows s)

/-- While STARTING the blocks stay empty and silent; while HALTED nothing is sent; the budget level stays
within 0 and the capacity in force (R79, R80, R98, R119, R121, R123, R125 to R128, R131, R136, R141). -/
def Obligations.StepKeepsSilence : Prop :=
  ∀ s t : State, StartingIsEmpty s → step s = .next t →
    StartingIsEmpty t ∧ (HaltedIsSilent s → HaltedIsSilent t) ∧
    (BudgetWithinCapacity s → BudgetWithinCapacity t)

/-- A latched fault of severity STOP holds the station in HALTED until the faults are cleared; a station in
RUN or PAUSED has a set clock and a number; every configuration that comes into force, and every pending
one, lies in its ranges (R135, R137, R138, R141, R147, R171, R174, R176). -/
def Obligations.StepKeepsControl : Prop :=
  ∀ s t : State, step s = .next t →
    (StopFaultHalts s → StopFaultHalts t) ∧ (RunIsNumbered s → RunIsNumbered t) ∧
    (ConfigsInRange s → ConfigsInRange t)

/-- The queues, lists, counters and the overrun stay within their bounds (R28, R29, R115, R116, R153, R162,
R163). -/
def Obligations.StepKeepsBounds : Prop :=
  ∀ s t : State, QueuesWithinBounds s → OverrunWaits s → step s = .next t →
    QueuesWithinBounds t ∧ OverrunWaits t

/-- The first-fault log (R146): a fault taken with the set empty is written into it whole, and one taken with
the set non-empty leaves it; CLEAR FAULTS, a cold start and a line reset empty it with the set; so every
step keeps it present exactly while the set is non-empty, naming a latched kind; STATUS carries both and changes
neither. -/
def Obligations.FirstFaultLogLaw : Prop :=
  (∀ (d : Detail) (l : LabelAddr) (b : Byte) (g : GroupNo) (s : State),
    (latch d l b g s).latched.get d.kind = true ∧
    (s.latched = noKinds → (latch d l b g s).firstFault = some ⟨d, l, b, g, s.clock⟩) ∧
    (s.latched ≠ noKinds → (latch d l b g s).firstFault = s.firstFault)) ∧
  (∀ s t : State, exec .coldStart s = .next t ∨ exec .lineReset s = .next t ∨
    (s.opState ≠ .starting ∧ exec .clearFaults s = .next t) → t.latched = noKinds ∧ t.firstFault = none) ∧
  (∀ s t : State, exec .status s = .next t → SameFaults s t) ∧
  (∀ s : State, s.opState ≠ .starting →
    ∃ b, exec .status s = .next (answered .status ⟨.ok, .status b⟩ s) ∧ b.latched = s.latched ∧
      b.firstFault = s.firstFault) ∧
  (∀ s t : State, LogMatchesLatched s → step s = .next t → LogMatchesLatched t)

/-- Every slot and every label of the book has one entry, and every entry keeps its law: a target newer than
its base, a successor part only while busy or closing and newer than the target, attempts at most the limit,
no CLOSING entry late (R25, R35, R37, R40, R45, R47, R56, R57, R59, R60). -/
def Obligations.StepKeepsEntries : Prop :=
  ∀ s t : State, BookIsKeyed s → step s = .next t →
    BookIsKeyed t ∧ (EntriesKeepLaw s → EntriesKeepLaw t)

/-- The closing order list holds each CLOSING entry once and is non-empty only while the report queue is full;
while a transfer is in flight exactly its entry is IN_TRANSFER, and while none is, no entry is (R54, R59 to
R61, R154). Beside `QuietWaitFollows`, by which no quiet wait runs in a transfer. -/
def Obligations.StepKeepsClosingAndTransfer : Prop :=
  ∀ s t : State, BookIsKeyed s → ClosingListHolds s → TransferHasEntry s → QuietWaitFollows s →
    step s = .next t → ClosingListHolds t ∧ TransferHasEntry t

/-- The Roster's slots, labels and field ranges (R69, R71, R73, R75, R78). -/
def Obligations.StepKeepsRoster : Prop :=
  ∀ s t : State, RosterIsKeyed s → step s = .next t → RosterIsKeyed t

/-- The Engine's state, phase, context and what is on the air agree, the covered airtime is that of the frames
sent whole for the first time, and the quiet wait runs exactly while R117 says (R80, R81, R86, R89 to R91,
R96, R107, R117, R118). The model's choice (log entry 24): the fragment is 1 before FRAG 1 is sent. -/
def Obligations.StepKeepsEngine : Prop :=
  ∀ s t : State, AutoloadInStarting s → EngineAgrees s → QuietWaitFollows s → step s = .next t →
    EngineAgrees t ∧ QuietWaitFollows t
end

