-- ==== Sys2Proof/Laws/State.lean ====
section
/-! SUPPORT. What each update of the state does to each field: one lemma a field, true by definition, so that
no proof unfolds an update. -/

namespace Sys2Proof.Machine

/-! ### setEntry -/

@[simp] theorem setEntry_opState (s : State) (e : Entry) : (s.setEntry e).opState = s.opState := rfl
@[simp] theorem setEntry_lastReset (s : State) (e : Entry) : (s.setEntry e).lastReset = s.lastReset := rfl
@[simp] theorem setEntry_lineReset (s : State) (e : Entry) : (s.setEntry e).lineReset = s.lineReset := rfl
@[simp] theorem setEntry_config (s : State) (e : Entry) : (s.setEntry e).config = s.config := rfl
@[simp] theorem setEntry_autoload (s : State) (e : Entry) : (s.setEntry e).autoload = s.autoload := rfl
@[simp] theorem setEntry_clock (s : State) (e : Entry) : (s.setEntry e).clock = s.clock := rfl
@[simp] theorem setEntry_clockSet (s : State) (e : Entry) : (s.setEntry e).clockSet = s.clockSet := rfl
@[simp] theorem setEntry_timebase (s : State) (e : Entry) : (s.setEntry e).timebase = s.timebase := rfl
@[simp] theorem setEntry_lineRate (s : State) (e : Entry) : (s.setEntry e).lineRate = s.lineRate := rfl
@[simp] theorem setEntry_receiver (s : State) (e : Entry) : (s.setEntry e).receiver = s.receiver := rfl
@[simp] theorem setEntry_holding (s : State) (e : Entry) : (s.setEntry e).holding = s.holding := rfl
@[simp] theorem setEntry_response (s : State) (e : Entry) : (s.setEntry e).response = s.response := rfl
@[simp] theorem setEntry_overrun (s : State) (e : Entry) : (s.setEntry e).overrun = s.overrun := rfl
@[simp] theorem setEntry_group (s : State) (e : Entry) : (s.setEntry e).group = s.group := rfl
@[simp] theorem setEntry_book (s : State) (e : Entry) : (s.setEntry e).book = putEntry e s.book := rfl
@[simp] theorem setEntry_closing (s : State) (e : Entry) : (s.setEntry e).closing = s.closing := rfl
@[simp] theorem setEntry_roster (s : State) (e : Entry) : (s.setEntry e).roster = s.roster := rfl
@[simp] theorem setEntry_dialogue (s : State) (e : Entry) : (s.setEntry e).dialogue = s.dialogue := rfl
@[simp] theorem setEntry_transmitting (s : State) (e : Entry) : (s.setEntry e).transmitting = s.transmitting := rfl
@[simp] theorem setEntry_carriers (s : State) (e : Entry) : (s.setEntry e).carriers = s.carriers := rfl
@[simp] theorem setEntry_tally (s : State) (e : Entry) : (s.setEntry e).tally = s.tally := rfl
@[simp] theorem setEntry_tallyCount (s : State) (e : Entry) : (s.setEntry e).tallyCount = s.tallyCount := rfl
@[simp] theorem setEntry_quietWait (s : State) (e : Entry) : (s.setEntry e).quietWait = s.quietWait := rfl
@[simp] theorem setEntry_budget (s : State) (e : Entry) : (s.setEntry e).budget = s.budget := rfl
@[simp] theorem setEntry_latched (s : State) (e : Entry) : (s.setEntry e).latched = s.latched := rfl
@[simp] theorem setEntry_firstFault (s : State) (e : Entry) : (s.setEntry e).firstFault = s.firstFault := rfl
@[simp] theorem setEntry_halt (s : State) (e : Entry) : (s.setEntry e).halt = s.halt := rfl
@[simp] theorem setEntry_reports (s : State) (e : Entry) : (s.setEntry e).reports = s.reports := rfl
@[simp] theorem setEntry_nextSeq (s : State) (e : Entry) : (s.setEntry e).nextSeq = s.nextSeq := rfl
@[simp] theorem setEntry_enable (s : State) (e : Entry) : (s.setEntry e).enable = s.enable := rfl
@[simp] theorem setEntry_choices (s : State) (e : Entry) : (s.setEntry e).choices = s.choices := rfl
@[simp] theorem setEntry_pending (s : State) (e : Entry) : (s.setEntry e).pending = s.pending := rfl

/-! ### freeSlot -/

@[simp] theorem freeSlot_opState (s : State) (n : Nat) : (s.freeSlot n).opState = s.opState := rfl
@[simp] theorem freeSlot_lastReset (s : State) (n : Nat) : (s.freeSlot n).lastReset = s.lastReset := rfl
@[simp] theorem freeSlot_lineReset (s : State) (n : Nat) : (s.freeSlot n).lineReset = s.lineReset := rfl
@[simp] theorem freeSlot_config (s : State) (n : Nat) : (s.freeSlot n).config = s.config := rfl
@[simp] theorem freeSlot_autoload (s : State) (n : Nat) : (s.freeSlot n).autoload = s.autoload := rfl
@[simp] theorem freeSlot_clock (s : State) (n : Nat) : (s.freeSlot n).clock = s.clock := rfl
@[simp] theorem freeSlot_clockSet (s : State) (n : Nat) : (s.freeSlot n).clockSet = s.clockSet := rfl
@[simp] theorem freeSlot_timebase (s : State) (n : Nat) : (s.freeSlot n).timebase = s.timebase := rfl
@[simp] theorem freeSlot_lineRate (s : State) (n : Nat) : (s.freeSlot n).lineRate = s.lineRate := rfl
@[simp] theorem freeSlot_receiver (s : State) (n : Nat) : (s.freeSlot n).receiver = s.receiver := rfl
@[simp] theorem freeSlot_holding (s : State) (n : Nat) : (s.freeSlot n).holding = s.holding := rfl
@[simp] theorem freeSlot_response (s : State) (n : Nat) : (s.freeSlot n).response = s.response := rfl
@[simp] theorem freeSlot_overrun (s : State) (n : Nat) : (s.freeSlot n).overrun = s.overrun := rfl
@[simp] theorem freeSlot_group (s : State) (n : Nat) : (s.freeSlot n).group = s.group := rfl
@[simp] theorem freeSlot_book (s : State) (n : Nat) :
    (s.freeSlot n).book = s.book.filter (fun e => e.slot != n) := rfl
@[simp] theorem freeSlot_closing (s : State) (n : Nat) : (s.freeSlot n).closing = s.closing := rfl
@[simp] theorem freeSlot_roster (s : State) (n : Nat) : (s.freeSlot n).roster = s.roster := rfl
@[simp] theorem freeSlot_dialogue (s : State) (n : Nat) : (s.freeSlot n).dialogue = s.dialogue := rfl
@[simp] theorem freeSlot_transmitting (s : State) (n : Nat) : (s.freeSlot n).transmitting = s.transmitting := rfl
@[simp] theorem freeSlot_carriers (s : State) (n : Nat) : (s.freeSlot n).carriers = s.carriers := rfl
@[simp] theorem freeSlot_tally (s : State) (n : Nat) : (s.freeSlot n).tally = s.tally := rfl
@[simp] theorem freeSlot_tallyCount (s : State) (n : Nat) : (s.freeSlot n).tallyCount = s.tallyCount := rfl
@[simp] theorem freeSlot_quietWait (s : State) (n : Nat) : (s.freeSlot n).quietWait = s.quietWait := rfl
@[simp] theorem freeSlot_budget (s : State) (n : Nat) : (s.freeSlot n).budget = s.budget := rfl
@[simp] theorem freeSlot_latched (s : State) (n : Nat) : (s.freeSlot n).latched = s.latched := rfl
@[simp] theorem freeSlot_firstFault (s : State) (n : Nat) : (s.freeSlot n).firstFault = s.firstFault := rfl
@[simp] theorem freeSlot_halt (s : State) (n : Nat) : (s.freeSlot n).halt = s.halt := rfl
@[simp] theorem freeSlot_reports (s : State) (n : Nat) : (s.freeSlot n).reports = s.reports := rfl
@[simp] theorem freeSlot_nextSeq (s : State) (n : Nat) : (s.freeSlot n).nextSeq = s.nextSeq := rfl
@[simp] theorem freeSlot_enable (s : State) (n : Nat) : (s.freeSlot n).enable = s.enable := rfl
@[simp] theorem freeSlot_choices (s : State) (n : Nat) : (s.freeSlot n).choices = s.choices := rfl
@[simp] theorem freeSlot_pending (s : State) (n : Nat) : (s.freeSlot n).pending = s.pending := rfl

/-! ### moveToHead -/

@[simp] theorem moveToHead_opState (s : State) (r : RosterRecord) : (s.moveToHead r).opState = s.opState := rfl
@[simp] theorem moveToHead_lastReset (s : State) (r : RosterRecord) : (s.moveToHead r).lastReset = s.lastReset := rfl
@[simp] theorem moveToHead_lineReset (s : State) (r : RosterRecord) : (s.moveToHead r).lineReset = s.lineReset := rfl
@[simp] theorem moveToHead_config (s : State) (r : RosterRecord) : (s.moveToHead r).config = s.config := rfl
@[simp] theorem moveToHead_autoload (s : State) (r : RosterRecord) : (s.moveToHead r).autoload = s.autoload := rfl
@[simp] theorem moveToHead_clock (s : State) (r : RosterRecord) : (s.moveToHead r).clock = s.clock := rfl
@[simp] theorem moveToHead_clockSet (s : State) (r : RosterRecord) : (s.moveToHead r).clockSet = s.clockSet := rfl
@[simp] theorem moveToHead_timebase (s : State) (r : RosterRecord) : (s.moveToHead r).timebase = s.timebase := rfl
@[simp] theorem moveToHead_lineRate (s : State) (r : RosterRecord) : (s.moveToHead r).lineRate = s.lineRate := rfl
@[simp] theorem moveToHead_receiver (s : State) (r : RosterRecord) : (s.moveToHead r).receiver = s.receiver := rfl
@[simp] theorem moveToHead_holding (s : State) (r : RosterRecord) : (s.moveToHead r).holding = s.holding := rfl
@[simp] theorem moveToHead_response (s : State) (r : RosterRecord) : (s.moveToHead r).response = s.response := rfl
@[simp] theorem moveToHead_overrun (s : State) (r : RosterRecord) : (s.moveToHead r).overrun = s.overrun := rfl
@[simp] theorem moveToHead_group (s : State) (r : RosterRecord) : (s.moveToHead r).group = s.group := rfl
@[simp] theorem moveToHead_book (s : State) (r : RosterRecord) : (s.moveToHead r).book = s.book := rfl
@[simp] theorem moveToHead_closing (s : State) (r : RosterRecord) : (s.moveToHead r).closing = s.closing := rfl
@[simp] theorem moveToHead_roster (s : State) (r : RosterRecord) :
    (s.moveToHead r).roster = r :: without r.label s.roster := rfl
@[simp] theorem moveToHead_dialogue (s : State) (r : RosterRecord) : (s.moveToHead r).dialogue = s.dialogue := rfl
@[simp] theorem moveToHead_transmitting (s : State) (r : RosterRecord) :
    (s.moveToHead r).transmitting = s.transmitting := rfl
@[simp] theorem moveToHead_carriers (s : State) (r : RosterRecord) : (s.moveToHead r).carriers = s.carriers := rfl
@[simp] theorem moveToHead_tally (s : State) (r : RosterRecord) : (s.moveToHead r).tally = s.tally := rfl
@[simp] theorem moveToHead_tallyCount (s : State) (r : RosterRecord) :
    (s.moveToHead r).tallyCount = s.tallyCount := rfl
@[simp] theorem moveToHead_quietWait (s : State) (r : RosterRecord) : (s.moveToHead r).quietWait = s.quietWait := rfl
@[simp] theorem moveToHead_budget (s : State) (r : RosterRecord) : (s.moveToHead r).budget = s.budget := rfl
@[simp] theorem moveToHead_latched (s : State) (r : RosterRecord) : (s.moveToHead r).latched = s.latched := rfl
@[simp] theorem moveToHead_firstFault (s : State) (r : RosterRecord) :
    (s.moveToHead r).firstFault = s.firstFault := rfl
@[simp] theorem moveToHead_halt (s : State) (r : RosterRecord) : (s.moveToHead r).halt = s.halt := rfl
@[simp] theorem moveToHead_reports (s : State) (r : RosterRecord) : (s.moveToHead r).reports = s.reports := rfl
@[simp] theorem moveToHead_nextSeq (s : State) (r : RosterRecord) : (s.moveToHead r).nextSeq = s.nextSeq := rfl
@[simp] theorem moveToHead_enable (s : State) (r : RosterRecord) : (s.moveToHead r).enable = s.enable := rfl
@[simp] theorem moveToHead_choices (s : State) (r : RosterRecord) : (s.moveToHead r).choices = s.choices := rfl
@[simp] theorem moveToHead_pending (s : State) (r : RosterRecord) : (s.moveToHead r).pending = s.pending := rfl

/-! ### latch -/

@[simp] theorem latch_opState (d : Detail) (l : LabelAddr) (b : Byte) (g : GroupNo) (s : State) :
    (latch d l b g s).opState = s.opState := rfl
@[simp] theorem latch_lastReset (d : Detail) (l : LabelAddr) (b : Byte) (g : GroupNo) (s : State) :
    (latch d l b g s).lastReset = s.lastReset := rfl
@[simp] theorem latch_lineReset (d : Detail) (l : LabelAddr) (b : Byte) (g : GroupNo) (s : State) :
    (latch d l b g s).lineReset = s.lineReset := rfl
@[simp] theorem latch_config (d : Detail) (l : LabelAddr) (b : Byte) (g : GroupNo) (s : State) :
    (latch d l b g s).config = s.config := rfl
@[simp] theorem latch_autoload (d : Detail) (l : LabelAddr) (b : Byte) (g : GroupNo) (s : State) :
    (latch d l b g s).autoload = s.autoload := rfl
@[simp] theorem latch_clock (d : Detail) (l : LabelAddr) (b : Byte) (g : GroupNo) (s : State) :
    (latch d l b g s).clock = s.clock := rfl
@[simp] theorem latch_clockSet (d : Detail) (l : LabelAddr) (b : Byte) (g : GroupNo) (s : State) :
    (latch d l b g s).clockSet = s.clockSet := rfl
@[simp] theorem latch_timebase (d : Detail) (l : LabelAddr) (b : Byte) (g : GroupNo) (s : State) :
    (latch d l b g s).timebase = s.timebase := rfl
@[simp] theorem latch_lineRate (d : Detail) (l : LabelAddr) (b : Byte) (g : GroupNo) (s : State) :
    (latch d l b g s).lineRate = s.lineRate := rfl
@[simp] theorem latch_receiver (d : Detail) (l : LabelAddr) (b : Byte) (g : GroupNo) (s : State) :
    (latch d l b g s).receiver = s.receiver := rfl
@[simp] theorem latch_holding (d : Detail) (l : LabelAddr) (b : Byte) (g : GroupNo) (s : State) :
    (latch d l b g s).holding = s.holding := rfl
@[simp] theorem latch_response (d : Detail) (l : LabelAddr) (b : Byte) (g : GroupNo) (s : State) :
    (latch d l b g s).response = s.response := rfl
@[simp] theorem latch_overrun (d : Detail) (l : LabelAddr) (b : Byte) (g : GroupNo) (s : State) :
    (latch d l b g s).overrun = s.overrun := rfl
@[simp] theorem latch_group (d : Detail) (l : LabelAddr) (b : Byte) (g : GroupNo) (s : State) :
    (latch d l b g s).group = s.group := rfl
@[simp] theorem latch_book (d : Detail) (l : LabelAddr) (b : Byte) (g : GroupNo) (s : State) :
    (latch d l b g s).book = s.book := rfl
@[simp] theorem latch_closing (d : Detail) (l : LabelAddr) (b : Byte) (g : GroupNo) (s : State) :
    (latch d l b g s).closing = s.closing := rfl
@[simp] theorem latch_roster (d : Detail) (l : LabelAddr) (b : Byte) (g : GroupNo) (s : State) :
    (latch d l b g s).roster = s.roster := rfl
@[simp] theorem latch_dialogue (d : Detail) (l : LabelAddr) (b : Byte) (g : GroupNo) (s : State) :
    (latch d l b g s).dialogue = s.dialogue := rfl
@[simp] theorem latch_transmitting (d : Detail) (l : LabelAddr) (b : Byte) (g : GroupNo) (s : State) :
    (latch d l b g s).transmitting = s.transmitting := rfl
@[simp] theorem latch_carriers (d : Detail) (l : LabelAddr) (b : Byte) (g : GroupNo) (s : State) :
    (latch d l b g s).carriers = s.carriers := rfl
@[simp] theorem latch_tally (d : Detail) (l : LabelAddr) (b : Byte) (g : GroupNo) (s : State) :
    (latch d l b g s).tally = s.tally := rfl
@[simp] theorem latch_tallyCount (d : Detail) (l : LabelAddr) (b : Byte) (g : GroupNo) (s : State) :
    (latch d l b g s).tallyCount = s.tallyCount := rfl
@[simp] theorem latch_quietWait (d : Detail) (l : LabelAddr) (b : Byte) (g : GroupNo) (s : State) :
    (latch d l b g s).quietWait = s.quietWait := rfl
@[simp] theorem latch_budget (d : Detail) (l : LabelAddr) (b : Byte) (g : GroupNo) (s : State) :
    (latch d l b g s).budget = s.budget := rfl
@[simp] theorem latch_latched (d : Detail) (l : LabelAddr) (b : Byte) (g : GroupNo) (s : State) :
    (latch d l b g s).latched = s.latched.insert d.kind := rfl
@[simp] theorem latch_firstFault (d : Detail) (l : LabelAddr) (b : Byte) (g : GroupNo) (s : State) :
    (latch d l b g s).firstFault = if s.latched.isEmpty then some ⟨d, l, b, g, s.clock⟩ else s.firstFault := rfl
@[simp] theorem latch_halt (d : Detail) (l : LabelAddr) (b : Byte) (g : GroupNo) (s : State) :
    (latch d l b g s).halt = (s.halt || (s.config.policy.severity.get d.kind == .stop && s.opState != .starting)) := rfl
@[simp] theorem latch_reports (d : Detail) (l : LabelAddr) (b : Byte) (g : GroupNo) (s : State) :
    (latch d l b g s).reports = s.reports := rfl
@[simp] theorem latch_nextSeq (d : Detail) (l : LabelAddr) (b : Byte) (g : GroupNo) (s : State) :
    (latch d l b g s).nextSeq = s.nextSeq := rfl
@[simp] theorem latch_enable (d : Detail) (l : LabelAddr) (b : Byte) (g : GroupNo) (s : State) :
    (latch d l b g s).enable = s.enable := rfl
@[simp] theorem latch_choices (d : Detail) (l : LabelAddr) (b : Byte) (g : GroupNo) (s : State) :
    (latch d l b g s).choices = s.choices := rfl
@[simp] theorem latch_pending (d : Detail) (l : LabelAddr) (b : Byte) (g : GroupNo) (s : State) :
    (latch d l b g s).pending = s.pending := rfl

/-! ### pushReport -/

@[simp] theorem pushReport_opState (r : ReportBody) (s : State) : (pushReport r s).opState = s.opState := rfl
@[simp] theorem pushReport_lastReset (r : ReportBody) (s : State) : (pushReport r s).lastReset = s.lastReset := rfl
@[simp] theorem pushReport_lineReset (r : ReportBody) (s : State) : (pushReport r s).lineReset = s.lineReset := rfl
@[simp] theorem pushReport_config (r : ReportBody) (s : State) : (pushReport r s).config = s.config := rfl
@[simp] theorem pushReport_autoload (r : ReportBody) (s : State) : (pushReport r s).autoload = s.autoload := rfl
@[simp] theorem pushReport_clock (r : ReportBody) (s : State) : (pushReport r s).clock = s.clock := rfl
@[simp] theorem pushReport_clockSet (r : ReportBody) (s : State) : (pushReport r s).clockSet = s.clockSet := rfl
@[simp] theorem pushReport_timebase (r : ReportBody) (s : State) : (pushReport r s).timebase = s.timebase := rfl
@[simp] theorem pushReport_lineRate (r : ReportBody) (s : State) : (pushReport r s).lineRate = s.lineRate := rfl
@[simp] theorem pushReport_receiver (r : ReportBody) (s : State) : (pushReport r s).receiver = s.receiver := rfl
@[simp] theorem pushReport_holding (r : ReportBody) (s : State) : (pushReport r s).holding = s.holding := rfl
@[simp] theorem pushReport_response (r : ReportBody) (s : State) : (pushReport r s).response = s.response := rfl
@[simp] theorem pushReport_overrun (r : ReportBody) (s : State) : (pushReport r s).overrun = s.overrun := rfl
@[simp] theorem pushReport_group (r : ReportBody) (s : State) : (pushReport r s).group = s.group := rfl
@[simp] theorem pushReport_book (r : ReportBody) (s : State) : (pushReport r s).book = s.book := rfl
@[simp] theorem pushReport_closing (r : ReportBody) (s : State) : (pushReport r s).closing = s.closing := rfl
@[simp] theorem pushReport_roster (r : ReportBody) (s : State) : (pushReport r s).roster = s.roster := rfl
@[simp] theorem pushReport_dialogue (r : ReportBody) (s : State) : (pushReport r s).dialogue = s.dialogue := rfl
@[simp] theorem pushReport_transmitting (r : ReportBody) (s : State) :
    (pushReport r s).transmitting = s.transmitting := rfl
@[simp] theorem pushReport_carriers (r : ReportBody) (s : State) : (pushReport r s).carriers = s.carriers := rfl
@[simp] theorem pushReport_tally (r : ReportBody) (s : State) : (pushReport r s).tally = s.tally := rfl
@[simp] theorem pushReport_tallyCount (r : ReportBody) (s : State) : (pushReport r s).tallyCount = s.tallyCount := rfl
@[simp] theorem pushReport_quietWait (r : ReportBody) (s : State) : (pushReport r s).quietWait = s.quietWait := rfl
@[simp] theorem pushReport_budget (r : ReportBody) (s : State) : (pushReport r s).budget = s.budget := rfl
@[simp] theorem pushReport_latched (r : ReportBody) (s : State) : (pushReport r s).latched = s.latched := rfl
@[simp] theorem pushReport_firstFault (r : ReportBody) (s : State) : (pushReport r s).firstFault = s.firstFault := rfl
@[simp] theorem pushReport_halt (r : ReportBody) (s : State) : (pushReport r s).halt = s.halt := rfl
@[simp] theorem pushReport_reports (r : ReportBody) (s : State) :
    (pushReport r s).reports = s.reports ++ [⟨s.nextSeq, r⟩] := rfl
@[simp] theorem pushReport_nextSeq (r : ReportBody) (s : State) : (pushReport r s).nextSeq = s.nextSeq + 1 := rfl
@[simp] theorem pushReport_enable (r : ReportBody) (s : State) : (pushReport r s).enable = s.enable := rfl
@[simp] theorem pushReport_choices (r : ReportBody) (s : State) : (pushReport r s).choices = s.choices := rfl
@[simp] theorem pushReport_pending (r : ReportBody) (s : State) : (pushReport r s).pending = s.pending := rfl

/-! ### deduct -/

@[simp] theorem deduct_opState (n : Nat) (s : State) : (deduct n s).opState = s.opState := rfl
@[simp] theorem deduct_lastReset (n : Nat) (s : State) : (deduct n s).lastReset = s.lastReset := rfl
@[simp] theorem deduct_lineReset (n : Nat) (s : State) : (deduct n s).lineReset = s.lineReset := rfl
@[simp] theorem deduct_config (n : Nat) (s : State) : (deduct n s).config = s.config := rfl
@[simp] theorem deduct_autoload (n : Nat) (s : State) : (deduct n s).autoload = s.autoload := rfl
@[simp] theorem deduct_clock (n : Nat) (s : State) : (deduct n s).clock = s.clock := rfl
@[simp] theorem deduct_clockSet (n : Nat) (s : State) : (deduct n s).clockSet = s.clockSet := rfl
@[simp] theorem deduct_timebase (n : Nat) (s : State) : (deduct n s).timebase = s.timebase := rfl
@[simp] theorem deduct_lineRate (n : Nat) (s : State) : (deduct n s).lineRate = s.lineRate := rfl
@[simp] theorem deduct_receiver (n : Nat) (s : State) : (deduct n s).receiver = s.receiver := rfl
@[simp] theorem deduct_holding (n : Nat) (s : State) : (deduct n s).holding = s.holding := rfl
@[simp] theorem deduct_response (n : Nat) (s : State) : (deduct n s).response = s.response := rfl
@[simp] theorem deduct_overrun (n : Nat) (s : State) : (deduct n s).overrun = s.overrun := rfl
@[simp] theorem deduct_group (n : Nat) (s : State) : (deduct n s).group = s.group := rfl
@[simp] theorem deduct_book (n : Nat) (s : State) : (deduct n s).book = s.book := rfl
@[simp] theorem deduct_closing (n : Nat) (s : State) : (deduct n s).closing = s.closing := rfl
@[simp] theorem deduct_roster (n : Nat) (s : State) : (deduct n s).roster = s.roster := rfl
@[simp] theorem deduct_dialogue (n : Nat) (s : State) : (deduct n s).dialogue = s.dialogue := rfl
@[simp] theorem deduct_transmitting (n : Nat) (s : State) : (deduct n s).transmitting = s.transmitting := rfl
@[simp] theorem deduct_carriers (n : Nat) (s : State) : (deduct n s).carriers = s.carriers := rfl
@[simp] theorem deduct_tally (n : Nat) (s : State) : (deduct n s).tally = s.tally := rfl
@[simp] theorem deduct_tallyCount (n : Nat) (s : State) : (deduct n s).tallyCount = s.tallyCount := rfl
@[simp] theorem deduct_quietWait (n : Nat) (s : State) : (deduct n s).quietWait = s.quietWait := rfl
@[simp] theorem deduct_budget (n : Nat) (s : State) : (deduct n s).budget = s.budget - n := rfl
@[simp] theorem deduct_latched (n : Nat) (s : State) : (deduct n s).latched = s.latched := rfl
@[simp] theorem deduct_firstFault (n : Nat) (s : State) : (deduct n s).firstFault = s.firstFault := rfl
@[simp] theorem deduct_halt (n : Nat) (s : State) : (deduct n s).halt = s.halt := rfl
@[simp] theorem deduct_reports (n : Nat) (s : State) : (deduct n s).reports = s.reports := rfl
@[simp] theorem deduct_nextSeq (n : Nat) (s : State) : (deduct n s).nextSeq = s.nextSeq := rfl
@[simp] theorem deduct_enable (n : Nat) (s : State) : (deduct n s).enable = s.enable := rfl
@[simp] theorem deduct_choices (n : Nat) (s : State) : (deduct n s).choices = s.choices := rfl
@[simp] theorem deduct_pending (n : Nat) (s : State) : (deduct n s).pending = s.pending := rfl

/-! ### credit -/

@[simp] theorem credit_opState (n : Nat) (s : State) : (credit n s).opState = s.opState := rfl
@[simp] theorem credit_lastReset (n : Nat) (s : State) : (credit n s).lastReset = s.lastReset := rfl
@[simp] theorem credit_lineReset (n : Nat) (s : State) : (credit n s).lineReset = s.lineReset := rfl
@[simp] theorem credit_config (n : Nat) (s : State) : (credit n s).config = s.config := rfl
@[simp] theorem credit_autoload (n : Nat) (s : State) : (credit n s).autoload = s.autoload := rfl
@[simp] theorem credit_clock (n : Nat) (s : State) : (credit n s).clock = s.clock := rfl
@[simp] theorem credit_clockSet (n : Nat) (s : State) : (credit n s).clockSet = s.clockSet := rfl
@[simp] theorem credit_timebase (n : Nat) (s : State) : (credit n s).timebase = s.timebase := rfl
@[simp] theorem credit_lineRate (n : Nat) (s : State) : (credit n s).lineRate = s.lineRate := rfl
@[simp] theorem credit_receiver (n : Nat) (s : State) : (credit n s).receiver = s.receiver := rfl
@[simp] theorem credit_holding (n : Nat) (s : State) : (credit n s).holding = s.holding := rfl
@[simp] theorem credit_response (n : Nat) (s : State) : (credit n s).response = s.response := rfl
@[simp] theorem credit_overrun (n : Nat) (s : State) : (credit n s).overrun = s.overrun := rfl
@[simp] theorem credit_group (n : Nat) (s : State) : (credit n s).group = s.group := rfl
@[simp] theorem credit_book (n : Nat) (s : State) : (credit n s).book = s.book := rfl
@[simp] theorem credit_closing (n : Nat) (s : State) : (credit n s).closing = s.closing := rfl
@[simp] theorem credit_roster (n : Nat) (s : State) : (credit n s).roster = s.roster := rfl
@[simp] theorem credit_dialogue (n : Nat) (s : State) : (credit n s).dialogue = s.dialogue := rfl
@[simp] theorem credit_transmitting (n : Nat) (s : State) : (credit n s).transmitting = s.transmitting := rfl
@[simp] theorem credit_carriers (n : Nat) (s : State) : (credit n s).carriers = s.carriers := rfl
@[simp] theorem credit_tally (n : Nat) (s : State) : (credit n s).tally = s.tally := rfl
@[simp] theorem credit_tallyCount (n : Nat) (s : State) : (credit n s).tallyCount = s.tallyCount := rfl
@[simp] theorem credit_quietWait (n : Nat) (s : State) : (credit n s).quietWait = s.quietWait := rfl
@[simp] theorem credit_budget (n : Nat) (s : State) : (credit n s).budget = min (s.budget + n) s.capacity := rfl
@[simp] theorem credit_latched (n : Nat) (s : State) : (credit n s).latched = s.latched := rfl
@[simp] theorem credit_firstFault (n : Nat) (s : State) : (credit n s).firstFault = s.firstFault := rfl
@[simp] theorem credit_halt (n : Nat) (s : State) : (credit n s).halt = s.halt := rfl
@[simp] theorem credit_reports (n : Nat) (s : State) : (credit n s).reports = s.reports := rfl
@[simp] theorem credit_nextSeq (n : Nat) (s : State) : (credit n s).nextSeq = s.nextSeq := rfl
@[simp] theorem credit_enable (n : Nat) (s : State) : (credit n s).enable = s.enable := rfl
@[simp] theorem credit_choices (n : Nat) (s : State) : (credit n s).choices = s.choices := rfl
@[simp] theorem credit_pending (n : Nat) (s : State) : (credit n s).pending = s.pending := rfl

/-! ### beginSending -/

@[simp] theorem beginSending_opState (f : AirFrame) (s : State) : (beginSending f s).opState = s.opState := rfl
@[simp] theorem beginSending_lastReset (f : AirFrame) (s : State) : (beginSending f s).lastReset = s.lastReset := rfl
@[simp] theorem beginSending_lineReset (f : AirFrame) (s : State) : (beginSending f s).lineReset = s.lineReset := rfl
@[simp] theorem beginSending_config (f : AirFrame) (s : State) : (beginSending f s).config = s.config := rfl
@[simp] theorem beginSending_autoload (f : AirFrame) (s : State) : (beginSending f s).autoload = s.autoload := rfl
@[simp] theorem beginSending_clock (f : AirFrame) (s : State) : (beginSending f s).clock = s.clock := rfl
@[simp] theorem beginSending_clockSet (f : AirFrame) (s : State) : (beginSending f s).clockSet = s.clockSet := rfl
@[simp] theorem beginSending_timebase (f : AirFrame) (s : State) : (beginSending f s).timebase = s.timebase := rfl
@[simp] theorem beginSending_lineRate (f : AirFrame) (s : State) : (beginSending f s).lineRate = s.lineRate := rfl
@[simp] theorem beginSending_receiver (f : AirFrame) (s : State) : (beginSending f s).receiver = s.receiver := rfl
@[simp] theorem beginSending_holding (f : AirFrame) (s : State) : (beginSending f s).holding = s.holding := rfl
@[simp] theorem beginSending_response (f : AirFrame) (s : State) : (beginSending f s).response = s.response := rfl
@[simp] theorem beginSending_overrun (f : AirFrame) (s : State) : (beginSending f s).overrun = s.overrun := rfl
@[simp] theorem beginSending_group (f : AirFrame) (s : State) : (beginSending f s).group = s.group := rfl
@[simp] theorem beginSending_book (f : AirFrame) (s : State) : (beginSending f s).book = s.book := rfl
@[simp] theorem beginSending_closing (f : AirFrame) (s : State) : (beginSending f s).closing = s.closing := rfl
@[simp] theorem beginSending_roster (f : AirFrame) (s : State) : (beginSending f s).roster = s.roster := rfl
@[simp] theorem beginSending_dialogue (f : AirFrame) (s : State) : (beginSending f s).dialogue = s.dialogue := rfl
@[simp] theorem beginSending_transmitting (f : AirFrame) (s : State) : (beginSending f s).transmitting = some f := rfl
@[simp] theorem beginSending_carriers (f : AirFrame) (s : State) : (beginSending f s).carriers = s.carriers := rfl
@[simp] theorem beginSending_tally (f : AirFrame) (s : State) : (beginSending f s).tally = s.tally := rfl
@[simp] theorem beginSending_tallyCount (f : AirFrame) (s : State) :
    (beginSending f s).tallyCount = s.tallyCount := rfl
@[simp] theorem beginSending_quietWait (f : AirFrame) (s : State) : (beginSending f s).quietWait = s.quietWait := rfl
@[simp] theorem beginSending_budget (f : AirFrame) (s : State) : (beginSending f s).budget = s.budget := rfl
@[simp] theorem beginSending_latched (f : AirFrame) (s : State) : (beginSending f s).latched = s.latched := rfl
@[simp] theorem beginSending_firstFault (f : AirFrame) (s : State) :
    (beginSending f s).firstFault = s.firstFault := rfl
@[simp] theorem beginSending_halt (f : AirFrame) (s : State) : (beginSending f s).halt = s.halt := rfl
@[simp] theorem beginSending_reports (f : AirFrame) (s : State) : (beginSending f s).reports = s.reports := rfl
@[simp] theorem beginSending_nextSeq (f : AirFrame) (s : State) : (beginSending f s).nextSeq = s.nextSeq := rfl
@[simp] theorem beginSending_enable (f : AirFrame) (s : State) : (beginSending f s).enable = s.enable := rfl
@[simp] theorem beginSending_choices (f : AirFrame) (s : State) : (beginSending f s).choices = s.choices := rfl
@[simp] theorem beginSending_pending (f : AirFrame) (s : State) : (beginSending f s).pending = s.pending := rfl

/-! ### carrierEnds -/

@[simp] theorem carrierEnds_opState (s : State) : (carrierEnds s).opState = s.opState := rfl
@[simp] theorem carrierEnds_lastReset (s : State) : (carrierEnds s).lastReset = s.lastReset := rfl
@[simp] theorem carrierEnds_lineReset (s : State) : (carrierEnds s).lineReset = s.lineReset := rfl
@[simp] theorem carrierEnds_config (s : State) : (carrierEnds s).config = s.config := rfl
@[simp] theorem carrierEnds_autoload (s : State) : (carrierEnds s).autoload = s.autoload := rfl
@[simp] theorem carrierEnds_clock (s : State) : (carrierEnds s).clock = s.clock := rfl
@[simp] theorem carrierEnds_clockSet (s : State) : (carrierEnds s).clockSet = s.clockSet := rfl
@[simp] theorem carrierEnds_timebase (s : State) : (carrierEnds s).timebase = s.timebase := rfl
@[simp] theorem carrierEnds_lineRate (s : State) : (carrierEnds s).lineRate = s.lineRate := rfl
@[simp] theorem carrierEnds_receiver (s : State) : (carrierEnds s).receiver = s.receiver := rfl
@[simp] theorem carrierEnds_holding (s : State) : (carrierEnds s).holding = s.holding := rfl
@[simp] theorem carrierEnds_response (s : State) : (carrierEnds s).response = s.response := rfl
@[simp] theorem carrierEnds_overrun (s : State) : (carrierEnds s).overrun = s.overrun := rfl
@[simp] theorem carrierEnds_group (s : State) : (carrierEnds s).group = s.group := rfl
@[simp] theorem carrierEnds_book (s : State) : (carrierEnds s).book = s.book := rfl
@[simp] theorem carrierEnds_closing (s : State) : (carrierEnds s).closing = s.closing := rfl
@[simp] theorem carrierEnds_roster (s : State) : (carrierEnds s).roster = s.roster := rfl
@[simp] theorem carrierEnds_dialogue (s : State) : (carrierEnds s).dialogue = s.dialogue := rfl
@[simp] theorem carrierEnds_transmitting (s : State) : (carrierEnds s).transmitting = s.transmitting := rfl
@[simp] theorem carrierEnds_carriers (s : State) : (carrierEnds s).carriers = s.carriers - 1 := rfl
@[simp] theorem carrierEnds_tally (s : State) : (carrierEnds s).tally = s.tally := rfl
@[simp] theorem carrierEnds_tallyCount (s : State) : (carrierEnds s).tallyCount = s.tallyCount := rfl
@[simp] theorem carrierEnds_quietWait (s : State) : (carrierEnds s).quietWait = s.quietWait := rfl
@[simp] theorem carrierEnds_budget (s : State) : (carrierEnds s).budget = s.budget := rfl
@[simp] theorem carrierEnds_latched (s : State) : (carrierEnds s).latched = s.latched := rfl
@[simp] theorem carrierEnds_firstFault (s : State) : (carrierEnds s).firstFault = s.firstFault := rfl
@[simp] theorem carrierEnds_halt (s : State) : (carrierEnds s).halt = s.halt := rfl
@[simp] theorem carrierEnds_reports (s : State) : (carrierEnds s).reports = s.reports := rfl
@[simp] theorem carrierEnds_nextSeq (s : State) : (carrierEnds s).nextSeq = s.nextSeq := rfl
@[simp] theorem carrierEnds_enable (s : State) : (carrierEnds s).enable = s.enable := rfl
@[simp] theorem carrierEnds_choices (s : State) : (carrierEnds s).choices = s.choices := rfl
@[simp] theorem carrierEnds_pending (s : State) : (carrierEnds s).pending = s.pending := rfl

/-! ### toListening -/

@[simp] theorem toListening_opState (s : State) : (toListening s).opState = s.opState := rfl
@[simp] theorem toListening_lastReset (s : State) : (toListening s).lastReset = s.lastReset := rfl
@[simp] theorem toListening_lineReset (s : State) : (toListening s).lineReset = s.lineReset := rfl
@[simp] theorem toListening_config (s : State) : (toListening s).config = s.config := rfl
@[simp] theorem toListening_autoload (s : State) : (toListening s).autoload = s.autoload := rfl
@[simp] theorem toListening_clock (s : State) : (toListening s).clock = s.clock := rfl
@[simp] theorem toListening_clockSet (s : State) : (toListening s).clockSet = s.clockSet := rfl
@[simp] theorem toListening_timebase (s : State) : (toListening s).timebase = s.timebase := rfl
@[simp] theorem toListening_lineRate (s : State) : (toListening s).lineRate = s.lineRate := rfl
@[simp] theorem toListening_receiver (s : State) : (toListening s).receiver = s.receiver := rfl
@[simp] theorem toListening_holding (s : State) : (toListening s).holding = s.holding := rfl
@[simp] theorem toListening_response (s : State) : (toListening s).response = s.response := rfl
@[simp] theorem toListening_overrun (s : State) : (toListening s).overrun = s.overrun := rfl
@[simp] theorem toListening_group (s : State) : (toListening s).group = s.group := rfl
@[simp] theorem toListening_book (s : State) : (toListening s).book = s.book := rfl
@[simp] theorem toListening_closing (s : State) : (toListening s).closing = s.closing := rfl
@[simp] theorem toListening_roster (s : State) : (toListening s).roster = s.roster := rfl
@[simp] theorem toListening_dialogue (s : State) : (toListening s).dialogue = .listening := rfl
@[simp] theorem toListening_transmitting (s : State) : (toListening s).transmitting = none := rfl
@[simp] theorem toListening_carriers (s : State) : (toListening s).carriers = s.carriers := rfl
@[simp] theorem toListening_tally (s : State) : (toListening s).tally = s.tally := rfl
@[simp] theorem toListening_tallyCount (s : State) : (toListening s).tallyCount = s.tallyCount := rfl
@[simp] theorem toListening_quietWait (s : State) : (toListening s).quietWait = s.quietWait := rfl
@[simp] theorem toListening_budget (s : State) : (toListening s).budget = s.budget := rfl
@[simp] theorem toListening_latched (s : State) : (toListening s).latched = s.latched := rfl
@[simp] theorem toListening_firstFault (s : State) : (toListening s).firstFault = s.firstFault := rfl
@[simp] theorem toListening_halt (s : State) : (toListening s).halt = s.halt := rfl
@[simp] theorem toListening_reports (s : State) : (toListening s).reports = s.reports := rfl
@[simp] theorem toListening_nextSeq (s : State) : (toListening s).nextSeq = s.nextSeq := rfl
@[simp] theorem toListening_enable (s : State) : (toListening s).enable = s.enable := rfl
@[simp] theorem toListening_choices (s : State) : (toListening s).choices = s.choices := rfl
@[simp] theorem toListening_pending (s : State) : (toListening s).pending = s.pending := rfl

/-! ### settleQuiet -/

@[simp] theorem settleQuiet_opState (s : State) : (settleQuiet s).opState = s.opState := rfl
@[simp] theorem settleQuiet_lastReset (s : State) : (settleQuiet s).lastReset = s.lastReset := rfl
@[simp] theorem settleQuiet_lineReset (s : State) : (settleQuiet s).lineReset = s.lineReset := rfl
@[simp] theorem settleQuiet_config (s : State) : (settleQuiet s).config = s.config := rfl
@[simp] theorem settleQuiet_autoload (s : State) : (settleQuiet s).autoload = s.autoload := rfl
@[simp] theorem settleQuiet_clock (s : State) : (settleQuiet s).clock = s.clock := rfl
@[simp] theorem settleQuiet_clockSet (s : State) : (settleQuiet s).clockSet = s.clockSet := rfl
@[simp] theorem settleQuiet_timebase (s : State) : (settleQuiet s).timebase = s.timebase := rfl
@[simp] theorem settleQuiet_lineRate (s : State) : (settleQuiet s).lineRate = s.lineRate := rfl
@[simp] theorem settleQuiet_receiver (s : State) : (settleQuiet s).receiver = s.receiver := rfl
@[simp] theorem settleQuiet_holding (s : State) : (settleQuiet s).holding = s.holding := rfl
@[simp] theorem settleQuiet_response (s : State) : (settleQuiet s).response = s.response := rfl
@[simp] theorem settleQuiet_overrun (s : State) : (settleQuiet s).overrun = s.overrun := rfl
@[simp] theorem settleQuiet_group (s : State) : (settleQuiet s).group = s.group := rfl
@[simp] theorem settleQuiet_book (s : State) : (settleQuiet s).book = s.book := rfl
@[simp] theorem settleQuiet_closing (s : State) : (settleQuiet s).closing = s.closing := rfl
@[simp] theorem settleQuiet_roster (s : State) : (settleQuiet s).roster = s.roster := rfl
@[simp] theorem settleQuiet_dialogue (s : State) : (settleQuiet s).dialogue = s.dialogue := rfl
@[simp] theorem settleQuiet_transmitting (s : State) : (settleQuiet s).transmitting = s.transmitting := rfl
@[simp] theorem settleQuiet_carriers (s : State) : (settleQuiet s).carriers = s.carriers := rfl
@[simp] theorem settleQuiet_tally (s : State) : (settleQuiet s).tally = s.tally := rfl
@[simp] theorem settleQuiet_tallyCount (s : State) : (settleQuiet s).tallyCount = s.tallyCount := rfl
@[simp] theorem settleQuiet_quietWait (s : State) :
    (settleQuiet s).quietWait = if s.tallyEligible = true ∧ s.carriers = 0 then some (quietLength s.config.identity.station) else none := rfl
@[simp] theorem settleQuiet_budget (s : State) : (settleQuiet s).budget = s.budget := rfl
@[simp] theorem settleQuiet_latched (s : State) : (settleQuiet s).latched = s.latched := rfl
@[simp] theorem settleQuiet_firstFault (s : State) : (settleQuiet s).firstFault = s.firstFault := rfl
@[simp] theorem settleQuiet_halt (s : State) : (settleQuiet s).halt = s.halt := rfl
@[simp] theorem settleQuiet_reports (s : State) : (settleQuiet s).reports = s.reports := rfl
@[simp] theorem settleQuiet_nextSeq (s : State) : (settleQuiet s).nextSeq = s.nextSeq := rfl
@[simp] theorem settleQuiet_enable (s : State) : (settleQuiet s).enable = s.enable := rfl
@[simp] theorem settleQuiet_choices (s : State) : (settleQuiet s).choices = s.choices := rfl
@[simp] theorem settleQuiet_pending (s : State) : (settleQuiet s).pending = s.pending := rfl

/-! ### restartIdle -/

@[simp] theorem restartIdle_opState (s : State) : (restartIdle s).opState = s.opState := rfl
@[simp] theorem restartIdle_lastReset (s : State) : (restartIdle s).lastReset = s.lastReset := rfl
@[simp] theorem restartIdle_lineReset (s : State) : (restartIdle s).lineReset = s.lineReset := rfl
@[simp] theorem restartIdle_config (s : State) : (restartIdle s).config = s.config := rfl
@[simp] theorem restartIdle_autoload (s : State) : (restartIdle s).autoload = s.autoload := rfl
@[simp] theorem restartIdle_clock (s : State) : (restartIdle s).clock = s.clock := rfl
@[simp] theorem restartIdle_clockSet (s : State) : (restartIdle s).clockSet = s.clockSet := rfl
@[simp] theorem restartIdle_timebase (s : State) : (restartIdle s).timebase = s.timebase := rfl
@[simp] theorem restartIdle_lineRate (s : State) : (restartIdle s).lineRate = s.lineRate := rfl
@[simp] theorem restartIdle_receiver (s : State) : (restartIdle s).receiver = s.receiver := rfl
@[simp] theorem restartIdle_holding (s : State) : (restartIdle s).holding = s.holding := rfl
@[simp] theorem restartIdle_response (s : State) : (restartIdle s).response = s.response := rfl
@[simp] theorem restartIdle_overrun (s : State) : (restartIdle s).overrun = s.overrun := rfl
@[simp] theorem restartIdle_group (s : State) :
    (restartIdle s).group = s.group.map (fun g => { g with idle := 60 }) := rfl
@[simp] theorem restartIdle_book (s : State) : (restartIdle s).book = s.book := rfl
@[simp] theorem restartIdle_closing (s : State) : (restartIdle s).closing = s.closing := rfl
@[simp] theorem restartIdle_roster (s : State) : (restartIdle s).roster = s.roster := rfl
@[simp] theorem restartIdle_dialogue (s : State) : (restartIdle s).dialogue = s.dialogue := rfl
@[simp] theorem restartIdle_transmitting (s : State) : (restartIdle s).transmitting = s.transmitting := rfl
@[simp] theorem restartIdle_carriers (s : State) : (restartIdle s).carriers = s.carriers := rfl
@[simp] theorem restartIdle_tally (s : State) : (restartIdle s).tally = s.tally := rfl
@[simp] theorem restartIdle_tallyCount (s : State) : (restartIdle s).tallyCount = s.tallyCount := rfl
@[simp] theorem restartIdle_quietWait (s : State) : (restartIdle s).quietWait = s.quietWait := rfl
@[simp] theorem restartIdle_budget (s : State) : (restartIdle s).budget = s.budget := rfl
@[simp] theorem restartIdle_latched (s : State) : (restartIdle s).latched = s.latched := rfl
@[simp] theorem restartIdle_firstFault (s : State) : (restartIdle s).firstFault = s.firstFault := rfl
@[simp] theorem restartIdle_halt (s : State) : (restartIdle s).halt = s.halt := rfl
@[simp] theorem restartIdle_reports (s : State) : (restartIdle s).reports = s.reports := rfl
@[simp] theorem restartIdle_nextSeq (s : State) : (restartIdle s).nextSeq = s.nextSeq := rfl
@[simp] theorem restartIdle_enable (s : State) : (restartIdle s).enable = s.enable := rfl
@[simp] theorem restartIdle_choices (s : State) : (restartIdle s).choices = s.choices := rfl
@[simp] theorem restartIdle_pending (s : State) : (restartIdle s).pending = s.pending := rfl

/-! ### closeTheGroup -/

@[simp] theorem closeTheGroup_opState (s : State) : (closeTheGroup s).opState = s.opState := rfl
@[simp] theorem closeTheGroup_lastReset (s : State) : (closeTheGroup s).lastReset = s.lastReset := rfl
@[simp] theorem closeTheGroup_lineReset (s : State) : (closeTheGroup s).lineReset = s.lineReset := rfl
@[simp] theorem closeTheGroup_config (s : State) : (closeTheGroup s).config = s.config := rfl
@[simp] theorem closeTheGroup_autoload (s : State) : (closeTheGroup s).autoload = s.autoload := rfl
@[simp] theorem closeTheGroup_clock (s : State) : (closeTheGroup s).clock = s.clock := rfl
@[simp] theorem closeTheGroup_clockSet (s : State) : (closeTheGroup s).clockSet = s.clockSet := rfl
@[simp] theorem closeTheGroup_timebase (s : State) : (closeTheGroup s).timebase = s.timebase := rfl
@[simp] theorem closeTheGroup_lineRate (s : State) : (closeTheGroup s).lineRate = s.lineRate := rfl
@[simp] theorem closeTheGroup_receiver (s : State) : (closeTheGroup s).receiver = s.receiver := rfl
@[simp] theorem closeTheGroup_holding (s : State) : (closeTheGroup s).holding = s.holding := rfl
@[simp] theorem closeTheGroup_response (s : State) : (closeTheGroup s).response = s.response := rfl
@[simp] theorem closeTheGroup_overrun (s : State) : (closeTheGroup s).overrun = s.overrun := rfl
@[simp] theorem closeTheGroup_group (s : State) : (closeTheGroup s).group = none := rfl
@[simp] theorem closeTheGroup_book (s : State) : (closeTheGroup s).book = s.book := rfl
@[simp] theorem closeTheGroup_closing (s : State) : (closeTheGroup s).closing = s.closing := rfl
@[simp] theorem closeTheGroup_roster (s : State) : (closeTheGroup s).roster = s.roster := rfl
@[simp] theorem closeTheGroup_dialogue (s : State) : (closeTheGroup s).dialogue = s.dialogue := rfl
@[simp] theorem closeTheGroup_transmitting (s : State) : (closeTheGroup s).transmitting = s.transmitting := rfl
@[simp] theorem closeTheGroup_carriers (s : State) : (closeTheGroup s).carriers = s.carriers := rfl
@[simp] theorem closeTheGroup_tally (s : State) : (closeTheGroup s).tally = s.tally := rfl
@[simp] theorem closeTheGroup_tallyCount (s : State) : (closeTheGroup s).tallyCount = s.tallyCount := rfl
@[simp] theorem closeTheGroup_quietWait (s : State) : (closeTheGroup s).quietWait = s.quietWait := rfl
@[simp] theorem closeTheGroup_budget (s : State) : (closeTheGroup s).budget = s.budget := rfl
@[simp] theorem closeTheGroup_latched (s : State) : (closeTheGroup s).latched = s.latched := rfl
@[simp] theorem closeTheGroup_firstFault (s : State) : (closeTheGroup s).firstFault = s.firstFault := rfl
@[simp] theorem closeTheGroup_halt (s : State) : (closeTheGroup s).halt = s.halt := rfl
@[simp] theorem closeTheGroup_reports (s : State) : (closeTheGroup s).reports = s.reports := rfl
@[simp] theorem closeTheGroup_nextSeq (s : State) : (closeTheGroup s).nextSeq = s.nextSeq := rfl
@[simp] theorem closeTheGroup_enable (s : State) : (closeTheGroup s).enable = s.enable := rfl
@[simp] theorem closeTheGroup_choices (s : State) : (closeTheGroup s).choices = s.choices := rfl
@[simp] theorem closeTheGroup_pending (s : State) : (closeTheGroup s).pending = s.pending := rfl

/-! ### beginResponse -/

@[simp] theorem beginResponse_opState (k : Byte) (a : Answer) (s : State) :
    (beginResponse k a s).opState = s.opState := rfl
@[simp] theorem beginResponse_lastReset (k : Byte) (a : Answer) (s : State) :
    (beginResponse k a s).lastReset = s.lastReset := rfl
@[simp] theorem beginResponse_lineReset (k : Byte) (a : Answer) (s : State) :
    (beginResponse k a s).lineReset = s.lineReset := rfl
@[simp] theorem beginResponse_config (k : Byte) (a : Answer) (s : State) :
    (beginResponse k a s).config = s.config := rfl
@[simp] theorem beginResponse_autoload (k : Byte) (a : Answer) (s : State) :
    (beginResponse k a s).autoload = s.autoload := rfl
@[simp] theorem beginResponse_clock (k : Byte) (a : Answer) (s : State) : (beginResponse k a s).clock = s.clock := rfl
@[simp] theorem beginResponse_clockSet (k : Byte) (a : Answer) (s : State) :
    (beginResponse k a s).clockSet = s.clockSet := rfl
@[simp] theorem beginResponse_timebase (k : Byte) (a : Answer) (s : State) :
    (beginResponse k a s).timebase = s.timebase := rfl
@[simp] theorem beginResponse_lineRate (k : Byte) (a : Answer) (s : State) :
    (beginResponse k a s).lineRate = s.lineRate := rfl
@[simp] theorem beginResponse_receiver (k : Byte) (a : Answer) (s : State) :
    (beginResponse k a s).receiver = s.receiver := rfl
@[simp] theorem beginResponse_holding (k : Byte) (a : Answer) (s : State) :
    (beginResponse k a s).holding = s.holding := rfl
@[simp] theorem beginResponse_response (k : Byte) (a : Answer) (s : State) :
    (beginResponse k a s).response = some ⟨k, a, s.lineRate⟩ := rfl
@[simp] theorem beginResponse_overrun (k : Byte) (a : Answer) (s : State) :
    (beginResponse k a s).overrun = s.overrun := rfl
@[simp] theorem beginResponse_group (k : Byte) (a : Answer) (s : State) : (beginResponse k a s).group = s.group := rfl
@[simp] theorem beginResponse_book (k : Byte) (a : Answer) (s : State) : (beginResponse k a s).book = s.book := rfl
@[simp] theorem beginResponse_closing (k : Byte) (a : Answer) (s : State) :
    (beginResponse k a s).closing = s.closing := rfl
@[simp] theorem beginResponse_roster (k : Byte) (a : Answer) (s : State) :
    (beginResponse k a s).roster = s.roster := rfl
@[simp] theorem beginResponse_dialogue (k : Byte) (a : Answer) (s : State) :
    (beginResponse k a s).dialogue = s.dialogue := rfl
@[simp] theorem beginResponse_transmitting (k : Byte) (a : Answer) (s : State) :
    (beginResponse k a s).transmitting = s.transmitting := rfl
@[simp] theorem beginResponse_carriers (k : Byte) (a : Answer) (s : State) :
    (beginResponse k a s).carriers = s.carriers := rfl
@[simp] theorem beginResponse_tally (k : Byte) (a : Answer) (s : State) : (beginResponse k a s).tally = s.tally := rfl
@[simp] theorem beginResponse_tallyCount (k : Byte) (a : Answer) (s : State) :
    (beginResponse k a s).tallyCount = s.tallyCount := rfl
@[simp] theorem beginResponse_quietWait (k : Byte) (a : Answer) (s : State) :
    (beginResponse k a s).quietWait = s.quietWait := rfl
@[simp] theorem beginResponse_budget (k : Byte) (a : Answer) (s : State) :
    (beginResponse k a s).budget = s.budget := rfl
@[simp] theorem beginResponse_latched (k : Byte) (a : Answer) (s : State) :
    (beginResponse k a s).latched = s.latched := rfl
@[simp] theorem beginResponse_firstFault (k : Byte) (a : Answer) (s : State) :
    (beginResponse k a s).firstFault = s.firstFault := rfl
@[simp] theorem beginResponse_halt (k : Byte) (a : Answer) (s : State) : (beginResponse k a s).halt = s.halt := rfl
@[simp] theorem beginResponse_reports (k : Byte) (a : Answer) (s : State) :
    (beginResponse k a s).reports = s.reports := rfl
@[simp] theorem beginResponse_nextSeq (k : Byte) (a : Answer) (s : State) :
    (beginResponse k a s).nextSeq = s.nextSeq := rfl
@[simp] theorem beginResponse_enable (k : Byte) (a : Answer) (s : State) :
    (beginResponse k a s).enable = s.enable := rfl
@[simp] theorem beginResponse_choices (k : Byte) (a : Answer) (s : State) :
    (beginResponse k a s).choices = s.choices := rfl
@[simp] theorem beginResponse_pending (k : Byte) (a : Answer) (s : State) :
    (beginResponse k a s).pending = s.pending := rfl

/-! ### tallySecond -/

@[simp] theorem tallySecond_opState (s : State) : (tallySecond s).opState = s.opState := rfl
@[simp] theorem tallySecond_lastReset (s : State) : (tallySecond s).lastReset = s.lastReset := rfl
@[simp] theorem tallySecond_lineReset (s : State) : (tallySecond s).lineReset = s.lineReset := rfl
@[simp] theorem tallySecond_config (s : State) : (tallySecond s).config = s.config := rfl
@[simp] theorem tallySecond_autoload (s : State) : (tallySecond s).autoload = s.autoload := rfl
@[simp] theorem tallySecond_clock (s : State) : (tallySecond s).clock = s.clock := rfl
@[simp] theorem tallySecond_clockSet (s : State) : (tallySecond s).clockSet = s.clockSet := rfl
@[simp] theorem tallySecond_timebase (s : State) : (tallySecond s).timebase = s.timebase := rfl
@[simp] theorem tallySecond_lineRate (s : State) : (tallySecond s).lineRate = s.lineRate := rfl
@[simp] theorem tallySecond_receiver (s : State) : (tallySecond s).receiver = s.receiver := rfl
@[simp] theorem tallySecond_holding (s : State) : (tallySecond s).holding = s.holding := rfl
@[simp] theorem tallySecond_response (s : State) : (tallySecond s).response = s.response := rfl
@[simp] theorem tallySecond_overrun (s : State) : (tallySecond s).overrun = s.overrun := rfl
@[simp] theorem tallySecond_group (s : State) : (tallySecond s).group = s.group := rfl
@[simp] theorem tallySecond_book (s : State) : (tallySecond s).book = s.book := rfl
@[simp] theorem tallySecond_closing (s : State) : (tallySecond s).closing = s.closing := rfl
@[simp] theorem tallySecond_roster (s : State) : (tallySecond s).roster = s.roster := rfl
@[simp] theorem tallySecond_dialogue (s : State) : (tallySecond s).dialogue = s.dialogue := rfl
@[simp] theorem tallySecond_transmitting (s : State) : (tallySecond s).transmitting = s.transmitting := rfl
@[simp] theorem tallySecond_carriers (s : State) : (tallySecond s).carriers = s.carriers := rfl
@[simp] theorem tallySecond_tally (s : State) : (tallySecond s).tally = s.tally := rfl
@[simp] theorem tallySecond_tallyCount (s : State) : (tallySecond s).tallyCount = min (s.tallyCount + 1) 60 := rfl
@[simp] theorem tallySecond_quietWait (s : State) : (tallySecond s).quietWait = s.quietWait := rfl
@[simp] theorem tallySecond_budget (s : State) : (tallySecond s).budget = s.budget := rfl
@[simp] theorem tallySecond_latched (s : State) : (tallySecond s).latched = s.latched := rfl
@[simp] theorem tallySecond_firstFault (s : State) : (tallySecond s).firstFault = s.firstFault := rfl
@[simp] theorem tallySecond_halt (s : State) : (tallySecond s).halt = s.halt := rfl
@[simp] theorem tallySecond_reports (s : State) : (tallySecond s).reports = s.reports := rfl
@[simp] theorem tallySecond_nextSeq (s : State) : (tallySecond s).nextSeq = s.nextSeq := rfl
@[simp] theorem tallySecond_enable (s : State) : (tallySecond s).enable = s.enable := rfl
@[simp] theorem tallySecond_choices (s : State) : (tallySecond s).choices = s.choices := rfl
@[simp] theorem tallySecond_pending (s : State) : (tallySecond s).pending = s.pending := rfl

end Sys2Proof.Machine
end

