-- ==== Sys2Proof/Laws/Ops.lean ====
section
/-! SUPPORT. What each shared operation of the book, the Roster and the FRU can change: one lemma an
operation. `BookChanges s t` says that `t` is `s` but for the book, its closing order list and what the
FRU holds; the lemmas chain by `BookChanges.trans`. -/

namespace Sys2Proof.Machine

/-! ### The parts a state may differ in -/

/-- `t` is `s` but for the latched faults, their log and a halt. -/
abbrev FaultChanges (s t : State) : Prop :=
  ∃ latched firstFault halt, t = { s with latched := latched, firstFault := firstFault, halt := halt }

/-- `t` is `s` but for the report queue and its next sequence number. -/
abbrev QueueChanges (s t : State) : Prop :=
  ∃ reports nextSeq, t = { s with reports := reports, nextSeq := nextSeq }

/-- `t` is `s` but for the Change Book, what the FRU holds, and the count of the free choices made. -/
abbrev BookChanges (s t : State) : Prop :=
  ∃ book closing reports nextSeq latched firstFault halt choices, t = { s with
    book := book, closing := closing, reports := reports, nextSeq := nextSeq, latched := latched
    firstFault := firstFault, halt := halt, choices := choices }

theorem BookChanges.refl (s : State) : BookChanges s s := ⟨_, _, _, _, _, _, _, _, rfl⟩

theorem BookChanges.trans {s t u : State} : BookChanges s t → BookChanges t u → BookChanges s u := by
  rintro ⟨_, _, _, _, _, _, _, _, rfl⟩ ⟨_, _, _, _, _, _, _, _, rfl⟩
  exact ⟨_, _, _, _, _, _, _, _, rfl⟩

theorem QueueChanges.book {s t : State} : QueueChanges s t → BookChanges s t := by
  rintro ⟨_, _, rfl⟩
  exact ⟨_, _, _, _, _, _, _, _, rfl⟩

theorem FaultChanges.book {s t : State} : FaultChanges s t → BookChanges s t := by
  rintro ⟨_, _, _, rfl⟩
  exact ⟨_, _, _, _, _, _, _, _, rfl⟩

/-- What a change of the book leaves. -/
theorem BookChanges.keeps {s t : State} : BookChanges s t →
    t.opState = s.opState ∧ t.roster = s.roster ∧ t.dialogue = s.dialogue ∧ t.transmitting = s.transmitting ∧
    t.carriers = s.carriers ∧ t.tally = s.tally ∧ t.tallyCount = s.tallyCount ∧ t.quietWait = s.quietWait ∧
    t.budget = s.budget ∧ t.group = s.group ∧ t.enable = s.enable ∧
    t.pending = s.pending ∧ SameLink s t ∧ SameSetup s t := by
  rintro ⟨_, _, _, _, _, _, _, _, rfl⟩
  simp [SameLink, SameSetup]

/-- A fold of operations that change the book changes the book. -/
theorem BookChanges.foldl {α : Type} {f : State → α → State} (h : ∀ s a, BookChanges s (f s a)) :
    ∀ (as : List α) (s : State), BookChanges s (as.foldl f s)
  | [], s => .refl s
  | a :: as, s => (h s a).trans (BookChanges.foldl h as (f s a))

/-! ### Faults and reports -/

theorem latch_changes (d : Detail) (l : LabelAddr) (b : Byte) (g : GroupNo) (s : State) :
    FaultChanges s (latch d l b g s) := ⟨_, _, _, rfl⟩

/-- A fault but for the halt it hands on. -/
theorem latch_eq_faulted (d : Detail) (l : LabelAddr) (b : Byte) (g : GroupNo) (s : State) :
    latch d l b g s = { faulted d l b g s with halt := (latch d l b g s).halt } := by
  simp [latch, faulted, PerKind.isEmpty]

/-- A fault of a kind of severity CONTINUE hands on no halt (R147). -/
theorem latch_of_continues {d : Detail} {s : State} (h : s.halt = false)
    (hc : s.config.policy.severity.get d.kind = .continue_) (l : LabelAddr) (b : Byte) (g : GroupNo) :
    latch d l b g s = faulted d l b g s := by
  simp [latch, faulted, h, hc, PerKind.isEmpty]

theorem pushReport_changes (r : ReportBody) (s : State) : QueueChanges s (pushReport r s) := ⟨_, _, rfl⟩

theorem eventReport_changes (r : ReportBody) (s : State) : QueueChanges s (eventReport r s) := by
  unfold eventReport
  split
  · exact pushReport_changes r s
  · exact ⟨_, _, rfl⟩

/-- An event report enters a queue with room. -/
theorem eventReport_of_room {s : State} (h : s.reports.length < 256) (r : ReportBody) :
    eventReport r s = pushReport r s := by simp [eventReport, State.hasRoom, h]

/-- No event report is made for a full queue (R153). -/
theorem eventReport_of_full {s : State} (h : 256 ≤ s.reports.length) (r : ReportBody) :
    eventReport r s = s := by
  simp [eventReport, State.hasRoom, Nat.not_lt.mpr h]

theorem noteLate_changes (was : Bool) (e : Entry) (s : State) : BookChanges s (noteLate was e s) := by
  unfold noteLate
  split
  · exact (latch_changes ..).book.trans (eventReport_changes ..).book
  · exact .refl s

/-- An entry that does not become late reports and latches nothing. -/
@[simp] theorem noteLate_of_not_newly {was : Bool} {e : Entry} (h : (e.late && !was) = false) (s : State) :
    noteLate was e s = s := by simp [noteLate, h]

theorem evaluateAll_changes (s : State) : BookChanges s (evaluateAll s) :=
  .trans ⟨_, _, _, _, _, _, _, _, rfl⟩ (.foldl (fun _ _ => noteLate_changes ..) _ _)

/-! ### Either of two orders -/

theorem eitherOrder_book {s a b : State} (ha : BookChanges s a) (hb : BookChanges s b) :
    BookChanges s (eitherOrder a b) := by
  unfold eitherOrder
  split
  · exact ha
  · refine BookChanges.trans (t := if Config.faultOrder (max a.choices b.choices) then a else b) ?_
      ⟨_, _, _, _, _, _, _, _, rfl⟩
    split <;> assumption

/-- Two orders that leave the same first-fault log are one. -/
theorem eitherOrder_of_eq {a b : State} (h : a.firstFault = b.firstFault) : eitherOrder a b = a := by
  simp [eitherOrder, h]

/-- Either order leaves one of the two states, but for the count of choices. -/
theorem eitherOrder_cases (a b : State) : eitherOrder a b = { a with choices := (eitherOrder a b).choices } ∨
    eitherOrder a b = { b with choices := (eitherOrder a b).choices } := by
  unfold eitherOrder
  split
  · exact .inl rfl
  · dsimp only
    split
    · exact .inl rfl
    · exact .inr rfl

/-! ### Closing and promotion -/

theorem setEntry_changes (s : State) (e : Entry) : BookChanges s (s.setEntry e) := ⟨_, _, _, _, _, _, _, _, rfl⟩

theorem freeSlot_changes (s : State) (n : Nat) : BookChanges s (s.freeSlot n) := ⟨_, _, _, _, _, _, _, _, rfl⟩

theorem closeOut_changes (e : Entry) (r : ClosingRecord) (s : State) : BookChanges s (closeOut e r s).1 := by
  have hp := (pushReport_changes (closingReport e r) s).book
  unfold closeOut
  split
  · exact hp.trans (freeSlot_changes ..)
  · dsimp only
    split
    · exact hp.trans ((setEntry_changes ..).trans (latch_changes ..).book)
    · exact hp.trans (setEntry_changes ..)

theorem reportPromoted_changes (ns : List Entry) (s : State) : BookChanges s (reportPromoted ns s) :=
  .foldl (fun _ _ => (eventReport_changes ..).book) _ _

theorem drainList_changes : ∀ (ns : List Nat) (late : List Entry) (s : State),
    BookChanges s (drainList ns late s).1
  | [], _, _ => ⟨_, _, _, _, _, _, _, _, rfl⟩
  | n :: rest, late, s => by
    unfold drainList
    split
    · split
      · split
        · exact (closeOut_changes ..).trans (drainList_changes ..)
        · exact drainList_changes ..
      · exact drainList_changes ..
    · exact ⟨_, _, _, _, _, _, _, _, rfl⟩

theorem drainClosing_changes (s : State) : BookChanges s (drainClosing s) :=
  (drainList_changes ..).trans (reportPromoted_changes ..)

theorem enterClosing_changes (e : Entry) (o : ClosingOutcome) (d : Deliverer) (v : Version) (s : State) :
    BookChanges s (enterClosing e o d v s) := by
  unfold enterClosing
  dsimp only
  split
  · exact (setEntry_changes ..).trans ((closeOut_changes ..).trans (reportPromoted_changes ..))
  · exact ⟨_, _, _, _, _, _, _, _, rfl⟩

theorem confirm_changes (l : LabelAddr) (v : Version) (o : ClosingOutcome) (d : Deliverer) (s : State) :
    BookChanges s (confirm l v o d s) := by
  unfold confirm
  split
  · split
    · exact enterClosing_changes ..
    · exact .refl s
  · exact .refl s

/-- Changing an entry and then freeing its slot frees the slot. -/
theorem filter_putEntry {e : Entry} {n : Nat} (h : e.slot = n) (b : List Entry) :
    (putEntry e b).filter (fun x => x.slot != n) = b.filter (fun x => x.slot != n) := by
  induction b with
  | nil => rfl
  | cons x xs ih =>
    by_cases hx : x.slot = n
    · simpa [putEntry, h, hx] using ih
    · simpa [putEntry, h, hx, List.filter_cons] using ih

/-- An entry without a successor part closes at once when nothing waits before it and the queue has room
(R59 to R61). -/
theorem enterClosing_at_once {e : Entry} {s : State} (hs : e.successor = none) (hc : s.closing = [])
    (hr : s.reports.length < 256) (o : ClosingOutcome) (d : Deliverer) (v : Version) :
    enterClosing e o d v s = { s with
      book := s.book.filter (fun x => x.slot != e.slot)
      reports := s.reports ++ [⟨s.nextSeq, closingReport e ⟨o, d, v, s.clock⟩⟩]
      nextSeq := s.nextSeq + 1 } := by
  simp [enterClosing, hc, State.hasRoom, hr, closeOut, hs, reportPromoted, pushReport, State.setEntry,
    State.freeSlot, closingReport, filter_putEntry, closingVersion]

/-- An entry that does not have its report queued at once waits behind another entry or for room (R59). -/
theorem closesNow_eq_false {s : State} : closesNow s = false ↔ s.closing ≠ [] ∨ 256 ≤ s.reports.length := by
  simp only [closesNow, decide_eq_false_iff_not]
  by_cases h : s.closing = [] <;> simp [h]

/-- An entry joins the closing order list when an entry waits before it or the queue is full (R61). -/
theorem enterClosing_waits {s : State} (h : s.closing ≠ [] ∨ 256 ≤ s.reports.length) (e : Entry)
    (o : ClosingOutcome) (d : Deliverer) (v : Version) :
    enterClosing e o d v s = { s with
      book := putEntry { e with state := .closing ⟨o, d, v, s.clock⟩, late := false } s.book
      closing := s.closing ++ [e.slot] } := by
  have : (s.closing.isEmpty && s.hasRoom) = false := by
    rcases h with h | h
    · cases hc : s.closing <;> simp_all
    · simp [State.hasRoom, Nat.not_lt.mpr h]
  have hw : ((s.setEntry { e with state := .closing ⟨o, d, v, s.clock⟩, late := false }).closing.isEmpty &&
      (s.setEntry { e with state := .closing ⟨o, d, v, s.clock⟩, late := false }).hasRoom) = false := this
  unfold enterClosing
  dsimp only
  rw [hw]
  rfl

/-! ### HELD, YIELDED and the outcomes of a transfer -/

theorem enterHeld_changes (e : Entry) (s : State) : BookChanges s (enterHeld e s) :=
  (setEntry_changes ..).trans ((latch_changes ..).book.trans (eventReport_changes ..).book)

theorem refit_changes (m : BitVec 4) (e : Entry) (s : State) : BookChanges s (refit m e s) := by
  unfold refit
  split
  · exact setEntry_changes ..
  · split
    · exact setEntry_changes ..
    · exact enterHeld_changes ..

theorem recheckModel_changes (l : LabelAddr) (m : BitVec 4) (s : State) :
    BookChanges s (recheckModel l m s) := by
  unfold recheckModel
  split
  · split
    · exact refit_changes ..
    · exact .refl s
  · exact .refl s

theorem yieldLabel_changes (l : LabelAddr) (s : State) : BookChanges s (yieldLabel l s) := by
  unfold yieldLabel
  split
  · split
    · exact setEntry_changes ..
    · exact .refl s
  · exact .refl s

theorem returnToWaiting_changes (e : Entry) (s : State) : BookChanges s (returnToWaiting e s) := by
  unfold returnToWaiting
  split
  · exact setEntry_changes ..
  · exact (setEntry_changes ..).trans (noteLate_changes ..)

theorem abandon_changes (e : Entry) (s : State) : BookChanges s (abandon e s) :=
  eitherOrder_book ((latch_changes ..).book.trans (enterClosing_changes ..))
    ((enterClosing_changes ..).trans (latch_changes ..).book)

theorem failedTransfer_changes (e : Entry) (s : State) : BookChanges s (failedTransfer e s) := by
  unfold failedTransfer
  dsimp only
  split
  · exact abandon_changes ..
  · exact returnToWaiting_changes ..

theorem transferOutcome_changes (slot : Nat) (o : TransferOutcome) (held : Version) (s : State) :
    BookChanges s (transferOutcome slot o held s) := by
  unfold transferOutcome
  split
  · exact .refl s
  · cases o <;> first
      | exact enterClosing_changes ..
      | exact returnToWaiting_changes ..
      | exact failedTransfer_changes ..

/-! ### The Roster -/

/-- `t` is `s` but for the Roster. -/
abbrev RosterChanges (s t : State) : Prop := ∃ roster, t = { s with roster := roster }

theorem rosterHeard_changes (l : LabelAddr) (v : Option Version) (rssi : Int) (s : State) :
    RosterChanges s (rosterHeard l v rssi s) := by
  unfold rosterHeard
  split
  · exact ⟨_, rfl⟩
  · exact ⟨_, rfl⟩

/-- A frame heard changes the Roster and nothing else, as `heardRoster` says (R70, R72, R73). -/
theorem rosterHeard_eq (l : LabelAddr) (v : Option Version) (rssi : Int) (s : State) :
    rosterHeard l v rssi s = { s with roster := heardRoster s l v rssi } := by
  unfold rosterHeard heardRoster
  cases h : s.recordOf l with
  | none => rfl
  | some r =>
    have hl : r.label = l := by simpa using List.find?_some h
    simp [State.moveToHead, without, hl, clampSignal]

/-- A frame heard from a recorded label: its record, changed, at the head of the recency order (R70, R72,
R73). -/
theorem rosterHeard_recordOf {l : LabelAddr} {r : RosterRecord} {s : State} (h : s.recordOf l = some r)
    (v : Option Version) (rssi : Int) :
    (rosterHeard l v rssi s).recordOf l =
      some { r with held := v.getD r.held, signal := max (-120) (min rssi 0), lastHeard := s.clock } := by
  have hl : r.label = l := by
    have := List.find?_some h
    simpa using this
  simp only [rosterHeard, h]
  simp [State.recordOf, hl, clampSignal]

theorem rosterTally_changes (l : LabelAddr) (v : Version) (s : State) :
    RosterChanges s (rosterTally l v s) := ⟨_, rfl⟩

theorem modelChange_changes (f : CallFrame) (s : State) : BookChanges s (modelChange f s) :=
  (latch_changes ..).book.trans ((eventReport_changes ..).book.trans (recheckModel_changes ..))

/-- A CALL changes the Roster, and by a model change the book. -/
theorem rosterCall_changes (f : CallFrame) (rssi : Int) (busy : Bool) (s : State) :
    ∃ t, RosterChanges s t ∧ BookChanges t (rosterCall f rssi busy s) := by
  unfold rosterCall
  split
  · split
    · exact ⟨_, ⟨_, rfl⟩, .refl _⟩
    · exact ⟨_, ⟨_, rfl⟩, modelChange_changes ..⟩
  · split
    · exact ⟨_, ⟨_, rfl⟩, .refl _⟩
    · split
      · exact ⟨_, ⟨_, rfl⟩, .refl _⟩
      · exact ⟨_, ⟨_, rfl⟩, .refl _⟩

end Sys2Proof.Machine
end

