-- ==== Sys2Proof/Laws/Air.lean ====
section
/-! SUPPORT. What the Engine's shared operations can change: one lemma an operation. `EngineChanges s t` says
that `t` is `s` but for the book, the FRU, the exchange on the air and the budget; `AirChanges s t` adds the
Roster and the tally list. -/

namespace Sys2Proof.Machine

/-- `t` is `s` but for the book, the FRU, the operating state, the exchange on the air and the budget. -/
abbrev EngineChanges (s t : State) : Prop :=
  ∃ u opState dialogue transmitting carriers quietWait budget, BookChanges s u ∧ t = { u with
    opState := opState, dialogue := dialogue, transmitting := transmitting, carriers := carriers
    quietWait := quietWait, budget := budget }

/-- `t` is `s` but for what a frame on the air can change. -/
abbrev AirChanges (s t : State) : Prop :=
  ∃ u roster tally tallyCount, EngineChanges s u ∧ t = { u with
    roster := roster, tally := tally, tallyCount := tallyCount }

theorem EngineChanges.refl (s : State) : EngineChanges s s := ⟨s, _, _, _, _, _, _, .refl s, rfl⟩

theorem BookChanges.engine {s t : State} (h : BookChanges s t) : EngineChanges s t :=
  ⟨t, _, _, _, _, _, _, h, rfl⟩

theorem EngineChanges.trans {s t u : State} : EngineChanges s t → EngineChanges t u → EngineChanges s u := by
  rintro ⟨_, _, _, _, _, _, _, ⟨_, _, _, _, _, _, _, _, rfl⟩, rfl⟩ ⟨_, _, _, _, _, _, _, ⟨_, _, _, _, _, _, _, _, rfl⟩, rfl⟩
  exact ⟨_, _, _, _, _, _, _, ⟨_, _, _, _, _, _, _, _, rfl⟩, rfl⟩

theorem EngineChanges.air {s t : State} (h : EngineChanges s t) : AirChanges s t := ⟨t, _, _, _, h, rfl⟩

theorem BookChanges.air {s t : State} (h : BookChanges s t) : AirChanges s t := h.engine.air

theorem AirChanges.refl (s : State) : AirChanges s s := (EngineChanges.refl s).air

theorem RosterChanges.air {s t : State} : RosterChanges s t → AirChanges s t := by
  rintro ⟨r, rfl⟩
  exact ⟨s, _, _, _, .refl s, rfl⟩

theorem AirChanges.trans {s t u : State} : AirChanges s t → AirChanges t u → AirChanges s u := by
  rintro ⟨_, _, _, _, ⟨_, _, _, _, _, _, _, ⟨_, _, _, _, _, _, _, _, rfl⟩, rfl⟩, rfl⟩
  rintro ⟨_, _, _, _, ⟨_, _, _, _, _, _, _, ⟨_, _, _, _, _, _, _, _, rfl⟩, rfl⟩, rfl⟩
  exact ⟨_, _, _, _, ⟨_, _, _, _, _, _, _, ⟨_, _, _, _, _, _, _, _, rfl⟩, rfl⟩, rfl⟩

/-- What the air never changes. -/
theorem AirChanges.keeps {s t : State} : AirChanges s t →
    SameLink s t ∧ SameSetup s t ∧ t.group = s.group ∧ t.enable = s.enable ∧ t.pending = s.pending := by
  rintro ⟨_, _, _, _, ⟨_, _, _, _, _, _, _, ⟨_, _, _, _, _, _, _, _, rfl⟩, rfl⟩, rfl⟩
  simp [SameLink, SameSetup]

/-! ### Sending, waits and the end of a transfer -/

theorem sendFragment_changes (c : TransferContext) (resend : Bool) (s : State) :
    EngineChanges s (sendFragment c resend s) := ⟨s, _, _, _, _, _, _, .refl s, rfl⟩

theorem endTransfer_changes (p : Phase) (c : TransferContext) (o : TransferOutcome) (held : Version) (s : State) :
    EngineChanges s (endTransfer p c o held s) :=
  ⟨_, _, _, _, _, _, _, transferOutcome_changes c.slot o held s, rfl⟩

theorem waitExpires_changes (p : Phase) (c : TransferContext) (s : State) :
    EngineChanges s (waitExpires p c s) := by
  unfold waitExpires
  split
  · exact endTransfer_changes ..
  · exact .refl s
  · split
    · exact ⟨s, _, _, _, _, _, _, .refl s, rfl⟩
    · exact endTransfer_changes ..
  · exact endTransfer_changes ..

theorem deadline_changes (p : Phase) (c : TransferContext) (s : State) : EngineChanges s (deadline p c s) := by
  unfold deadline
  split
  · exact .refl s
  · split
    · exact ⟨s, _, _, _, _, _, _, .refl s, rfl⟩
    · exact waitExpires_changes ..

theorem unawaited_changes (s : State) : EngineChanges s (unawaited s) := by
  unfold unawaited
  split
  · split
    · split
      · split
        · exact waitExpires_changes ..
        · exact ⟨s, _, _, _, _, _, _, .refl s, rfl⟩
      · exact .refl s
    · exact .refl s
  · exact .refl s

/-- Outside a transfer a frame that no phase awaits does nothing. -/
theorem unawaited_of_not_transferring {s : State} (h : s.isTransferring = false) : unawaited s = s := by
  unfold unawaited
  split
  · rename_i hd
    simp [State.isTransferring, hd] at h
  · rfl

theorem frameHeard_changes (s : State) : EngineChanges s (frameHeard s) := by
  unfold frameHeard standDown
  split <;> exact ⟨s, _, _, _, _, _, _, .refl s, rfl⟩

theorem frameLost_changes (s : State) : EngineChanges s (frameLost s) := by
  unfold frameLost
  split
  · exact .refl s
  · exact ⟨s, _, _, _, _, _, _, .refl s, rfl⟩

/-! ### The end of a command -/

theorem EngineChanges.withHalt (s : State) (b : Bool) : EngineChanges s { s with halt := b } :=
  BookChanges.engine ⟨_, _, _, _, _, _, _, _, rfl⟩

/-- What a cut finds on the air differs in the frame being sent and the count of choices alone. -/
theorem airAtCut_eq (p : Phase) (s : State) :
    airAtCut p s =
      { s with transmitting := (airAtCut p s).transmitting, choices := (airAtCut p s).choices } := by
  unfold airAtCut
  split
  · split <;> rfl
  · rfl
  · rfl
  · rfl

theorem airAtCut_changes (p : Phase) (s : State) : EngineChanges s (airAtCut p s) :=
  ⟨{ s with choices := (airAtCut p s).choices }, s.opState, s.dialogue, (airAtCut p s).transmitting, s.carriers,
    s.quietWait, s.budget, ⟨_, _, _, _, _, _, _, _, rfl⟩, airAtCut_eq p s⟩

theorem cutWork_changes (s : State) : EngineChanges s (cutWork s) := by
  unfold cutWork
  split
  · exact (airAtCut_changes ..).trans (endTransfer_changes ..)
  all_goals exact ⟨s, _, _, _, _, _, _, .refl s, rfl⟩

theorem takeHalt_changes (s : State) : EngineChanges s (takeHalt s) := by
  have hc : EngineChanges s (cutWork { s with opState := .halted }) :=
    EngineChanges.trans ⟨s, _, _, _, _, _, _, .refl s, rfl⟩ (cutWork_changes _)
  unfold takeHalt
  split
  · split
    all_goals first
      | exact hc.trans (.withHalt _ _)
      | exact .withHalt _ _
  · exact .refl s

theorem settle_changes (s : State) : EngineChanges s (settle s) :=
  (takeHalt_changes s).trans ⟨_, _, _, _, _, _, _, .refl _, rfl⟩

/-- With no halt waiting, the end of a command lets the quiet wait follow (R117). -/
theorem settle_of_no_halt {s : State} (h : s.halt = false) : settle s = { s with quietWait := quietAfter s } := by
  simp [settle, takeHalt, h, settleQuiet, quietAfter]

/-- In HALTED a halt changes nothing (R141). -/
theorem settle_of_halted {s : State} (h : s.opState = .halted) :
    settle s = { s with halt := false, quietWait := quietAfter s } := by
  cases hh : s.halt with
  | false => rw [settle_of_no_halt hh, ← hh]
  | true =>
    have : takeHalt s = { s with halt := false } := by simp [takeHalt, h, hh]
    rw [settle, this]
    rfl

/-- After every command's end no halt waits. -/
theorem settle_halt (s : State) : (settle s).halt = false := by
  unfold settle takeHalt
  split
  · split <;> rfl
  · simp_all

/-- A halt taken outside STARTING and HALTED leaves the station HALTED and silent (R141). -/
theorem settle_of_halt {s : State} (h : s.halt = true) (h1 : s.opState ≠ .starting) :
    (settle s).opState = .halted := by
  have ho : (cutWork { s with opState := .halted }).opState = .halted := by
    unfold cutWork
    split
    · exact (transferOutcome_changes ..).keeps.1.trans (by rw [airAtCut_eq])
    all_goals rfl
  unfold settle takeHalt
  rw [if_pos h]
  split <;> simp_all

/-! ### Frames heard -/

/-- A pair joins a list of at most 64 pairs as `tallyJoined` says (R115). -/
theorem joinTally_eq {s : State} (h : s.tally.length ≤ 64) (p : LabelAddr × Version) :
    joinTally p s = { s with tally := tallyJoined p s.tally } := by
  unfold joinTally tallyJoined
  split
  · rfl
  · split
    · rw [Nat.sub_eq_zero_of_le (by omega), List.drop_zero]
    · rw [show s.tally.length - 63 = 1 by omega]

theorem confirm_tally_changes (l : LabelAddr × Version) (s : State) : AirChanges s (joinTally l s) := by
  unfold joinTally
  split
  · exact .refl s
  · exact ⟨s, _, _, _, .refl s, rfl⟩

theorem eitherOrder_changes {s a b : State} (ha : AirChanges s a) (hb : AirChanges s b) :
    AirChanges s (eitherOrder a b) := by
  unfold eitherOrder
  split
  · exact ha
  · refine AirChanges.trans (t := if Config.faultOrder (max a.choices b.choices) then a else b) ?_
      (BookChanges.air ⟨_, _, _, _, _, _, _, _, rfl⟩)
    split <;> assumption

theorem budgetTest_changes (e : Entry) (face : List Byte) (rssi : Int) (s : State) :
    EngineChanges s (budgetTest e face rssi s) := by
  unfold budgetTest enterStandoff
  split
  · split
    · exact ⟨s, _, _, _, _, _, _, .refl s, rfl⟩
    · exact .refl s
  · exact .refl s

theorem offerDecision_changes (f : CallFrame) (rssi : Int) (e : Entry) (s : State) :
    EngineChanges s (offerDecision f rssi e s) := by
  unfold offerDecision
  split
  · split
    · exact (setEntry_changes ..).engine.trans (budgetTest_changes ..)
    · exact (enterHeld_changes ..).engine
  · exact (enterClosing_changes ..).engine

theorem evaluateCall_changes (f : CallFrame) (rssi : Int) (s : State) :
    EngineChanges s (evaluateCall f rssi s) := by
  unfold evaluateCall
  split
  · split
    · exact (enterClosing_changes ..).engine
    · rename_i e _ _
      refine EngineChanges.trans (t := heldDecision f e s) ?_ ?_
      · unfold heldDecision
        split
        · exact (refit_changes ..).engine
        · exact .refl s
      · unfold thirdDecision
        split
        · split
          · exact offerDecision_changes ..
          · exact .refl _
        · exact .refl _
  · exact .refl s

theorem callReceived_changes (f : CallFrame) (rssi : Int) (s : State) :
    AirChanges s (callReceived f rssi s) := by
  obtain ⟨t, ht, hb⟩ := rosterCall_changes f rssi s.isTransferring s
  refine (ht.air.trans hb.air).trans ?_
  unfold callReceived
  dsimp only
  split
  · exact (evaluateCall_changes ..).air
  · exact (unawaited_changes _).air

theorem readyReceived_changes (f : ReadyFrame) (rssi : Int) (s : State) :
    AirChanges s (readyReceived f rssi s) := by
  have ho : ∀ t, AirChanges t (readyOverheard f t) := fun t => by
    unfold readyOverheard
    split
    · exact (confirm_changes ..).air.trans (unawaited_changes _).air
    · exact (unawaited_changes _).air
  refine (rosterHeard_changes f.label (some f.held) rssi s).air.trans ?_
  unfold readyReceived
  dsimp only
  split
  · split
    · unfold readyAwaited
      split
      · exact (sendFragment_changes ..).air
      all_goals exact (endTransfer_changes ..).air
    · exact ho _
  · exact ho _

theorem fragAckReceived_changes (f : FragAckFrame) (s : State) : EngineChanges s (fragAckReceived f s) := by
  unfold fragAckReceived
  split
  · split
    · unfold ackAwaited
      split
      · exact sendFragment_changes ..
      · exact ⟨s, _, _, _, _, _, _, .refl s, rfl⟩
    · exact unawaited_changes s
  · exact unawaited_changes s

theorem doneReceived_changes (f : DoneFrame) (rssi : Int) (s : State) :
    AirChanges s (doneReceived f rssi s) := by
  refine (rosterHeard_changes f.label (some f.held) rssi s).air.trans ?_
  unfold doneReceived
  dsimp only
  split
  · exact (endTransfer_changes ..).air.trans (confirm_tally_changes ..)
  · unfold doneOverheard
    refine .trans ?_ (unawaited_changes _).air
    split
    · exact .refl _
    · split
      · exact (confirm_changes ..).air.trans (confirm_tally_changes ..)
      · exact (confirm_changes ..).air

theorem refuseReceived_changes (f : RefuseFrame) (rssi : Int) (s : State) :
    AirChanges s (refuseReceived f rssi s) := by
  refine (rosterHeard_changes f.label none rssi s).air.trans ?_
  unfold refuseReceived
  dsimp only
  split
  · exact eitherOrder_changes
      ((latch_changes ..).book.air.trans (endTransfer_changes ..).air)
      ((endTransfer_changes ..).air.trans (latch_changes ..).book.air)
  · exact (unawaited_changes _).air

theorem offerReceived_changes (f : OfferFrame) (s : State) : EngineChanges s (offerReceived f s) :=
  (yieldLabel_changes ..).engine.trans (unawaited_changes _)

theorem tallyPair_changes (n : StationNo) (p : LabelAddr × Version) (s : State) :
    AirChanges s (tallyPair n p s) := by
  unfold tallyPair
  split
  · refine (rosterTally_changes p.1 p.2 s).air.trans ?_
    dsimp only
    split
    · exact .refl _
    · exact (confirm_changes ..).air
  · exact .refl s

theorem tallyReceived_changes (f : TallyFrame) (s : State) : AirChanges s (tallyReceived f s) := by
  refine .trans ?_ (unawaited_changes _).air
  generalize f.pairs = ps
  induction ps generalizing s with
  | nil => exact .refl s
  | cons p ps ih => exact (tallyPair_changes ..).trans (ih _)

theorem handleFrame_changes (f : AirFrame) (rssi : Int) (s : State) : AirChanges s (handleFrame f rssi s) := by
  cases f
  · exact callReceived_changes ..
  · exact (offerReceived_changes ..).air
  · exact readyReceived_changes ..
  · exact (unawaited_changes _).air
  · exact (fragAckReceived_changes ..).air
  · exact doneReceived_changes ..
  · exact refuseReceived_changes ..
  · exact tallyReceived_changes ..

/-- The end of a frame, whatever it holds. -/
theorem frameEnds_changes (f : AirFrame) (rssi : Int) (s : State) : AirChanges s (frameEnds f rssi s) := by
  unfold frameEnds
  split
  · refine .trans ?_ (settle_changes _).air
    split
    · exact (frameHeard_changes s).air.trans (handleFrame_changes ..)
    · exact (frameHeard_changes s).air.trans (unawaited_changes _).air
  · exact (frameLost_changes s).air

theorem bytesEnd_changes (bytes : List Byte) (rssi : Int) (s : State) :
    AirChanges s (bytesEnd bytes rssi s) := by
  unfold bytesEnd
  split
  · exact frameEnds_changes ..
  · split
    · exact (frameHeard_changes s).air.trans ((unawaited_changes _).air.trans (settle_changes _).air)
    · exact (frameLost_changes s).air

/-- A frame that passes R104, ended where the station hears the air and no halt waits. -/
theorem frameEnds_of_hears {f : AirFrame} {s : State} (h : Hears s)
    (ha : f.admissible s.config.identity.station = true) (rssi : Int) :
    frameEnds f rssi s = settle (handleFrame f rssi (frameHeard s)) := by
  obtain ⟨h1, h2, _, _⟩ := h
  simp [frameEnds, State.canHear, h1, h2, ha]

/-- Outside a transfer the Engine is LISTENING once a frame has been heard. -/
theorem frameHeard_listening {s : State} (h : Hears s) (hn : s.isTransferring = false) :
    (frameHeard s).dialogue = .listening := by
  obtain ⟨_, _, _, h4⟩ := h
  unfold frameHeard standDown
  cases hd : s.dialogue with
  | tallying n => simp [isTallying, hd] at h4
  | transferring p c => simp [State.isTransferring, hd] at hn
  | listening => exact hd
  | standingOff c => rfl

/-- In a transfer a frame heard leaves the dialogue. -/
theorem frameHeard_transferring {s : State} {p : Phase} {c : TransferContext}
    (h : s.dialogue = .transferring p c) : frameHeard s = { s with carriers := s.carriers - 1 } := by
  simp [frameHeard, carrierEnds, standDown, h]

/-- A frame that no phase awaits, heard before any deadline (R81, R107). -/
theorem unawaited_goesOn {s : State} (h : deadlineAhead s = true) :
    unawaited (frameHeard s) =
      { s with dialogue := dialogueGoesOn s.dialogue, carriers := s.carriers - 1 } := by
  cases s with | mk => ?_
  rename_i dialogue _ _ _ _ _ _ _ _ _ _ _ _ _ _
  rcases dialogue with _ | c | ⟨p, c⟩ | n
  · rfl
  · rfl
  · rcases c with ⟨_, _, _, _, _, _, _, _, _, _, wait, _, _⟩
    rcases wait with _ | ⟨n, met, passed⟩
    · rfl
    · have hp : passed = false := by simpa [deadlineAhead] using h
      subst hp
      cases met <;> rfl
  · rfl

/-! ### Offers and tallies sent -/

theorem standoffEnds_changes (c : TransferContext) (s : State) : EngineChanges s (standoffEnds c s) := by
  unfold standoffEnds
  split
  · exact ⟨_, _, _, _, _, _, _, setEntry_changes s _, rfl⟩
  · exact ⟨s, _, _, _, _, _, _, .refl s, rfl⟩

theorem quietWaitEnds_changes (s : State) : EngineChanges s (quietWaitEnds s) := by
  unfold quietWaitEnds
  dsimp only
  split
  · exact ⟨s, _, _, _, _, _, _, .refl s, rfl⟩
  · exact .refl s

end Sys2Proof.Machine
end

