-- ==== Sys2Proof/Laws/Link.lean ====
section
/-! SUPPORT. How a request is served, and what its owning block's action keeps of the link. -/

namespace Sys2Proof.Machine

/-- Every request is served as its frame, by its block's action. -/
theorem exec_of_request {i : Instr} {f : LinkFrame} (h : requestFrame i = some f) (s : State) :
    exec i s = .next (serve f (requestAct i) s) := by
  cases i <;> simp [requestFrame] at h <;> subst h <;> rfl

/-- A request served outside STARTING: its block acts with the request's frame at the head of the holding, and
its answer is the response in progress (R162, R168). -/
theorem serve_acts {s : State} (h : s.opState ≠ .starting) (f : LinkFrame) (act : State → State × Answer) :
    serve f act s =
      beginResponse f.kind (act { s with holding := f :: s.holding.tail }).2
        (act { s with holding := f :: s.holding.tail }).1 := by simp [serve, h]

/-- A request in STARTING is answered NOT_READY and reaches no block (R136). -/
theorem serve_starting {s : State} (h : s.opState = .starting) (f : LinkFrame)
    (act : State → State × Answer) :
    serve f act s = { s with
      holding := f :: s.holding.tail, response := some ⟨f.kind, ⟨.notReady, .none⟩, s.lineRate⟩ } := by
  simp [serve, h, beginResponse, plain]

/-- An answered request, with its frame written out. -/
theorem answered_eq {i : Instr} {f : LinkFrame} (h : requestFrame i = some f) (a : Answer) (s : State) :
    answered i a s = { s with
      holding := f :: s.holding.tail, response := some ⟨f.kind, a, s.lineRate⟩ } := by
  simp [answered, h]

/-- Every request's frame is good. -/
theorem requestFrame_good {i : Instr} {f : LinkFrame} (h : requestFrame i = some f) : f.good = true := by
  cases i <;> simp [requestFrame] at h <;> subst h <;> rfl

/-- A frame that ends with two held is discarded, and the overrun is pending (R163). -/
theorem offerFrameToHolding_of_two {s : State} (h : 2 ≤ s.holding.length) (f : LinkFrame) :
    offerFrameToHolding f s =
      { s with overrun := some (s.overrun.getD ⟨f.kind, s.holding.length⟩) } := by
  simp only [offerFrameToHolding, if_pos h]
  cases ho : s.overrun with
  | none => rfl
  | some o =>
    dsimp only [Option.getD]
    rw [← ho]

/-- A frame that ends while another is held or a response is in progress waits in the holding (R162). -/
theorem offerFrameToHolding_waits {s : State} (h : s.holding.length < 2)
    (h2 : s.holding ≠ [] ∨ s.response ≠ none) (f : LinkFrame) :
    offerFrameToHolding f s = { s with holding := s.holding ++ [f] } := by
  have h3 : ¬ 2 ≤ s.holding.length := by omega
  simp only [offerFrameToHolding, if_neg h3]
  rw [if_neg]
  simp only [Bool.and_eq_true, List.isEmpty_iff, Option.isNone_iff_eq_none, not_and]
  intro h4 h5
  simp_all

/-- A frame that ends with nothing held and no response in progress is taken at once (R162). -/
theorem offerFrameToHolding_taken {s : State} (h : s.holding = []) (h2 : s.response = none)
    (f : LinkFrame) : offerFrameToHolding f s = takeFrame f { s with holding := [f] } := by
  simp [offerFrameToHolding, h, h2]

end Sys2Proof.Machine
end

