-- ==== Sys2Proof/Laws/PerInstr.lean ====
section
/-! SUPPORT. The laws stated command by command. `RequestFits`: the frame of a well-formed request is a good
one, and its body is one that a request frame can carry (R160, R178). -/

namespace Sys2Proof.Laws

open Sys2Proof Sys2Proof.Machine

/-- A number is written in as many bytes as are asked for. -/
@[simp] theorem bytesOfNat_length (n x : Nat) : (bytesOfNat n x).length = n := by
  induction n generalizing x with
  | zero => rfl
  | succ n ih => simp [bytesOfNat, ih]

/-- A bit vector is written in as many bytes as are asked for. -/
@[simp] theorem bytesOfBits_length {w : Nat} (n : Nat) (x : BitVec w) : (bytesOfBits n x).length = n :=
  bytesOfNat_length n x.toNat

/-- The frame of a well-formed request is good, and its body fits a request frame. -/
def RequestFits.Statement (i : Instr) : Prop :=
  i.wf = true → ∀ f, requestFrame i = some f → f.good = true ∧ requestBodyFits f.body = true

/-- A command with no request frame. -/
theorem RequestFits.of_none {i : Instr} (h : requestFrame i = none) : RequestFits.Statement i := by
  intro _ f hf
  rw [h] at hf
  cases hf

/-- A request whose frame is a good one with a body that fits. -/
theorem RequestFits.of_frame {i : Instr} {kind : Byte} {body : List Byte}
    (h : requestFrame i = some (goodFrame kind body)) (hb : i.wf = true → body.length ≤ 254) :
    RequestFits.Statement i := by
  intro hw f hf
  rw [h] at hf
  cases hf
  exact ⟨rfl, decide_eq_true (hb hw)⟩

theorem RequestFits.coldStart : RequestFits.Statement .coldStart := RequestFits.of_none rfl

theorem RequestFits.lineReset : RequestFits.Statement .lineReset := RequestFits.of_none rfl

theorem RequestFits.lineResetRelease : RequestFits.Statement .lineResetRelease := RequestFits.of_none rfl

theorem RequestFits.headerRead (signature : BitVec 16) (count : Byte) : RequestFits.Statement (.headerRead signature count) :=
  RequestFits.of_none rfl

theorem RequestFits.groupRead (length : Byte) (contents : List Byte) (sumCheck : BitVec 16) : RequestFits.Statement (.groupRead length contents sumCheck) :=
  RequestFits.of_none rfl

theorem RequestFits.configReadTimeout : RequestFits.Statement .configReadTimeout := RequestFits.of_none rfl

theorem RequestFits.clockSecond : RequestFits.Statement .clockSecond := RequestFits.of_none rfl

theorem RequestFits.yieldEnd : RequestFits.Statement .yieldEnd := RequestFits.of_none rfl

theorem RequestFits.groupIdleTimeout : RequestFits.Statement .groupIdleTimeout := RequestFits.of_none rfl

theorem RequestFits.tallyPeriodEnd : RequestFits.Statement .tallyPeriodEnd := RequestFits.of_none rfl

theorem RequestFits.batchFrameEnd (frame : LinkFrame) : RequestFits.Statement (.batchFrameEnd frame) :=
  RequestFits.of_none rfl

theorem RequestFits.linkLoss : RequestFits.Statement .linkLoss := RequestFits.of_none rfl

theorem RequestFits.responseSent : RequestFits.Statement .responseSent := RequestFits.of_none rfl

theorem RequestFits.heldFrameTaken : RequestFits.Statement .heldFrameTaken := RequestFits.of_none rfl

theorem RequestFits.status : RequestFits.Statement .status := RequestFits.of_frame rfl (fun _ => by simp)

theorem RequestFits.setTime (value : StoreTime) : RequestFits.Statement (.setTime value) :=
  RequestFits.of_frame rfl (fun _ => by simp)

theorem RequestFits.openGroup (group : GroupNo) (effective : StoreTime) (cls : Byte) : RequestFits.Statement (.openGroup group effective cls) :=
  RequestFits.of_frame rfl (fun _ => by simp)

theorem RequestFits.record (body : List Byte) : RequestFits.Statement (.record body) :=
  RequestFits.of_frame rfl of_decide_eq_true

theorem RequestFits.closeGroup (group : GroupNo) (count : BitVec 16) : RequestFits.Statement (.closeGroup group count) :=
  RequestFits.of_frame rfl (fun _ => by simp)

theorem RequestFits.abortGroup : RequestFits.Statement .abortGroup :=
  RequestFits.of_frame rfl (fun _ => by simp)

theorem RequestFits.start : RequestFits.Statement .start := RequestFits.of_frame rfl (fun _ => by simp)

theorem RequestFits.pause : RequestFits.Statement .pause := RequestFits.of_frame rfl (fun _ => by simp)

theorem RequestFits.resume : RequestFits.Statement .resume := RequestFits.of_frame rfl (fun _ => by simp)

theorem RequestFits.stop : RequestFits.Statement .stop := RequestFits.of_frame rfl (fun _ => by simp)

theorem RequestFits.clearFaults : RequestFits.Statement .clearFaults :=
  RequestFits.of_frame rfl (fun _ => by simp)

theorem RequestFits.takeReports (n : Byte) : RequestFits.Statement (.takeReports n) :=
  RequestFits.of_frame rfl (fun _ => by simp)

theorem RequestFits.closingListDrain : RequestFits.Statement .closingListDrain := RequestFits.of_none rfl

theorem RequestFits.readEntry (selector : Byte) (address : LabelAddr) : RequestFits.Statement (.readEntry selector address) :=
  RequestFits.of_frame rfl (fun _ => by simp)

theorem RequestFits.readRoster (first : BitVec 16) (count : Byte) : RequestFits.Statement (.readRoster first count) :=
  RequestFits.of_frame rfl (fun _ => by simp)

theorem RequestFits.withdraw (label : LabelAddr) : RequestFits.Statement (.withdraw label) :=
  RequestFits.of_frame rfl (fun _ => by simp)

theorem RequestFits.setAttention (enable : Byte) : RequestFits.Statement (.setAttention enable) :=
  RequestFits.of_frame rfl (fun _ => by simp)

theorem RequestFits.resetPort : RequestFits.Statement .resetPort :=
  RequestFits.of_frame rfl (fun _ => by simp)

theorem RequestFits.airFrameDiscarded (bytes : List Byte) (rssi : Int) : RequestFits.Statement (.airFrameDiscarded bytes rssi) :=
  RequestFits.of_none rfl

theorem RequestFits.frameStart : RequestFits.Statement .frameStart := RequestFits.of_none rfl

theorem RequestFits.carrierSensed : RequestFits.Statement .carrierSensed := RequestFits.of_none rfl

theorem RequestFits.carrierEnd : RequestFits.Statement .carrierEnd := RequestFits.of_none rfl

theorem RequestFits.call (frame : CallFrame) (rssi : Int) : RequestFits.Statement (.call frame rssi) :=
  RequestFits.of_none rfl

theorem RequestFits.standoffEnd : RequestFits.Statement .standoffEnd := RequestFits.of_none rfl

theorem RequestFits.offerSent : RequestFits.Statement .offerSent := RequestFits.of_none rfl

theorem RequestFits.ready (frame : ReadyFrame) (rssi : Int) : RequestFits.Statement (.ready frame rssi) :=
  RequestFits.of_none rfl

theorem RequestFits.readyWaitExpiry : RequestFits.Statement .readyWaitExpiry := RequestFits.of_none rfl

theorem RequestFits.fragSent : RequestFits.Statement .fragSent := RequestFits.of_none rfl

theorem RequestFits.fragAck (frame : FragAckFrame) : RequestFits.Statement (.fragAck frame) :=
  RequestFits.of_none rfl

theorem RequestFits.ackWaitExpiry : RequestFits.Statement .ackWaitExpiry := RequestFits.of_none rfl

theorem RequestFits.done (frame : DoneFrame) (rssi : Int) : RequestFits.Statement (.done frame rssi) :=
  RequestFits.of_none rfl

theorem RequestFits.doneWaitExpiry : RequestFits.Statement .doneWaitExpiry := RequestFits.of_none rfl

theorem RequestFits.refuse (frame : RefuseFrame) (rssi : Int) : RequestFits.Statement (.refuse frame rssi) :=
  RequestFits.of_none rfl

theorem RequestFits.peerOffer (frame : OfferFrame) : RequestFits.Statement (.peerOffer frame) :=
  RequestFits.of_none rfl

theorem RequestFits.peerFrag (frame : FragFrame) : RequestFits.Statement (.peerFrag frame) :=
  RequestFits.of_none rfl

theorem RequestFits.peerTally (frame : TallyFrame) : RequestFits.Statement (.peerTally frame) :=
  RequestFits.of_none rfl

theorem RequestFits.quietWaitEnd : RequestFits.Statement .quietWaitEnd := RequestFits.of_none rfl

theorem RequestFits.tallySent : RequestFits.Statement .tallySent := RequestFits.of_none rfl

theorem RequestFits.batchByteReceived (byte : Byte) (stopBit : Bool) : RequestFits.Statement (.batchByteReceived byte stopBit) :=
  RequestFits.of_none rfl

end Sys2Proof.Laws
end

