-- ==== Sys2Proof/Laws/Requests.lean ====
section
/-! SUPPORT. What the operations of the Gatherer, the fold, the clock and the Loader can change: one lemma an
operation, and for a refusal of the Gatherer the state it leaves when no kind halts. -/

namespace Sys2Proof.Machine

/-- `t` is `s` but for what a request or a clock second can change at the blocks: what the air changes, the
open group, and the clock. -/
abbrev BlockChanges (s t : State) : Prop :=
  ∃ u group clock clockSet timebase, AirChanges s u ∧ t = { u with
    group := group, clock := clock, clockSet := clockSet, timebase := timebase }

theorem AirChanges.block {s t : State} (h : AirChanges s t) : BlockChanges s t := ⟨t, _, _, _, _, h, rfl⟩

theorem BookChanges.block {s t : State} (h : BookChanges s t) : BlockChanges s t := h.air.block

theorem BlockChanges.trans {s t u : State} : BlockChanges s t → BlockChanges t u → BlockChanges s u := by
  rintro ⟨_, _, _, _, _, ⟨_, _, _, _, ⟨_, _, _, _, _, _, _, ⟨_, _, _, _, _, _, _, _, rfl⟩, rfl⟩, rfl⟩, rfl⟩
  rintro ⟨_, _, _, _, _, ⟨_, _, _, _, ⟨_, _, _, _, _, _, _, ⟨_, _, _, _, _, _, _, _, rfl⟩, rfl⟩, rfl⟩, rfl⟩
  exact ⟨_, _, _, _, _, ⟨_, _, _, _, ⟨_, _, _, _, _, _, _, ⟨_, _, _, _, _, _, _, _, rfl⟩, rfl⟩, rfl⟩, rfl⟩

/-- What a change at the blocks leaves. -/
theorem BlockChanges.keeps {s t : State} : BlockChanges s t →
    SameLink s t ∧ t.config = s.config ∧ t.autoload = s.autoload ∧ t.lineReset = s.lineReset ∧
    t.lastReset = s.lastReset ∧ t.enable = s.enable ∧ t.pending = s.pending := by
  rintro ⟨_, _, _, _, _, ⟨_, _, _, _, ⟨_, _, _, _, _, _, _, ⟨_, _, _, _, _, _, _, _, rfl⟩, rfl⟩, rfl⟩, rfl⟩
  simp [SameLink]

/-! ### The Record Gatherer -/

/-- A fault that ends a command and halts nothing. -/
theorem settle_latch {s : State} {d : Detail} {kinds : List FaultKind} (h : NothingHalts s kinds)
    (hd : d.kind ∈ kinds) (l : LabelAddr) (b : Byte) (g : GroupNo) :
    settle (latch d l b g s) = faulted d l b g { s with quietWait := quietAfter s } := by
  rcases h.2 with ho | hc
  · rw [settle_of_halted (by simpa using ho), latch_eq_faulted]
    simp only [faulted, ← h.1]
    rfl
  · rw [latch_of_continues h.1 (hc _ hd), settle_of_no_halt (by exact h.1)]
    rfl

/-- A refusal of the Gatherer that halts nothing. -/
theorem gathererRefuses_of_nothingHalts {s : State} {d : Detail} {kinds : List FaultKind}
    (h : NothingHalts s kinds) (hd : d.kind ∈ kinds) (l : LabelAddr) (b : Byte) (g : GroupNo) :
    gathererRefuses d l b g s =
      (faulted d l b g { s with quietWait := quietAfter s }, ⟨.refused, .refused d⟩) := by
  simp only [gathererRefuses, settle_latch h hd, refusal]

theorem gathererRefuses_changes (d : Detail) (l : LabelAddr) (b : Byte) (g : GroupNo) (s : State) :
    BlockChanges s (gathererRefuses d l b g s).1 :=
  ((latch_changes d l b g s).book.engine.trans (settle_changes _)).air.block

theorem restartIdle_changes (s : State) : BlockChanges s (restartIdle s) := ⟨s, _, _, _, _, .refl s, rfl⟩

theorem closeTheGroup_changes (s : State) : BlockChanges s (closeTheGroup s) := ⟨s, _, _, _, _, .refl s, rfl⟩

theorem openGroupAct_changes (n : GroupNo) (time : StoreTime) (cls : Byte) (s : State) :
    BlockChanges s (openGroupAct n time cls s).1 := by
  unfold openGroupAct
  split
  · exact (restartIdle_changes s).trans (gathererRefuses_changes ..)
  · split
    · split
      · exact gathererRefuses_changes ..
      · exact ⟨s, _, _, _, _, .refl s, rfl⟩
    · exact gathererRefuses_changes ..

theorem recordAct_changes (body : List Byte) (s : State) : BlockChanges s (recordAct body s).1 := by
  unfold recordAct
  split
  · exact gathererRefuses_changes ..
  · split
    · exact (restartIdle_changes s).trans (gathererRefuses_changes ..)
    · split
      · exact (restartIdle_changes s).trans (gathererRefuses_changes ..)
      · exact ⟨s, _, _, _, _, .refl s, rfl⟩

/-! ### The fold -/

theorem supersededReport_changes (s t : State) (l : LabelAddr) : BookChanges t (supersededReport s t l) := by
  unfold supersededReport
  split
  · exact (eventReport_changes _ t).book
  · exact .refl t

theorem afterTouch_changes (s t : State) (e : Entry) : BookChanges t (afterTouch s t e) := by
  unfold afterTouch
  have h := noteLate_changes ((s.entryOf e.label).any (fun o => o.late)) e t
  dsimp only
  split
  · split
    · exact h.trans (refit_changes ..)
    · exact h
  · exact h

theorem setBook_changes (t : State) (b : List Entry) : BookChanges t { t with book := b } :=
  ⟨b, t.closing, t.reports, t.nextSeq, t.latched, t.firstFault, t.halt, t.choices, rfl⟩

theorem setBookDialogue_changes (t : State) (b : List Entry) (d : Dialogue) :
    EngineChanges t { t with book := b, dialogue := d } :=
  ⟨{ t with book := b }, t.opState, d, t.transmitting, t.carriers, t.quietWait, t.budget,
    setBook_changes t b, rfl⟩

/-- The application of a fold changes the book, what the FRU holds, and a standoff's mark. -/
theorem applyFold_changes (g : OpenGroup) (v : FoldView) (s : State) : EngineChanges s (applyFold g v s) := by
  unfold applyFold
  dsimp only
  have h := (BookChanges.foldl (supersededReport_changes s) v.replaced s).engine
  generalize v.replaced.foldl (supersededReport s) s = t at h ⊢
  refine h.trans (EngineChanges.trans ?_ (BookChanges.foldl (afterTouch_changes s) _ _).engine)
  exact setBookDialogue_changes ..

theorem closeGroupAct_changes (n : GroupNo) (count : BitVec 16) (s : State) :
    BlockChanges s (closeGroupAct n count s).1 := by
  unfold closeGroupAct
  split
  · exact gathererRefuses_changes ..
  · split
    · exact (restartIdle_changes s).trans (gathererRefuses_changes ..)
    · split
      · exact (closeTheGroup_changes s).trans (gathererRefuses_changes ..)
      · unfold foldGroup
        split
        · exact (closeTheGroup_changes s).trans (gathererRefuses_changes ..)
        · exact (closeTheGroup_changes s).trans (gathererRefuses_changes ..)
        · exact restartIdle_changes s
        · split
          · exact (closeTheGroup_changes s).trans
              ((applyFold_changes ..).trans (settle_changes _)).air.block
          · exact (restartIdle_changes s).trans (gathererRefuses_changes ..)

/-! ### The clock -/

theorem setClock_changes (v : StoreTime) (s : State) : BlockChanges s (setClock v s) :=
  BlockChanges.trans
    ⟨{ s with book := s.book.map (moveYield (v - s.clock)) }, s.group, v, true, 0, (setBook_changes ..).air, rfl⟩
    (evaluateAll_changes ..).block

theorem bookSecond_changes (s : State) : BookChanges s (bookSecond s) :=
  BookChanges.trans ⟨_, _, _, _, _, _, _, _, rfl⟩ (evaluateAll_changes (endYields s))

theorem expireGroup_changes (s : State) : BlockChanges s (expireGroup s) := by
  unfold expireGroup
  split
  · exact (closeTheGroup_changes s).trans (latch_changes ..).book.block
  · exact (BookChanges.refl s).block

theorem idleSecond_changes (s : State) : BlockChanges s (idleSecond s) := by
  unfold idleSecond
  split
  · split
    · exact expireGroup_changes s
    · exact ⟨s, _, _, _, _, .refl s, rfl⟩
  · exact (BookChanges.refl s).block

theorem takeRoom_changes (k : Nat) (s : State) : BookChanges s (takeRoom k s) := by
  unfold takeRoom
  split
  · exact .refl s
  · exact BookChanges.trans ⟨_, _, _, _, _, _, _, _, rfl⟩ (drainClosing_changes _)

/-! ### The Loader -/

/-- The end of an autoload: the blocks take their settings, and the operating state is IDLE or HALTED. -/
theorem endAutoload_fields (c : StationConfig) (s : State) :
    (endAutoload c s).config = c ∧ (endAutoload c s).autoload = none ∧
    (endAutoload c s).lineRate = c.identity.rate ∧ (endAutoload c s).enable = c.policy.enable ∧
    (endAutoload c s).latched = s.latched ∧ (endAutoload c s).firstFault = s.firstFault ∧
    ((endAutoload c s).opState = .idle ∨ (endAutoload c s).opState = .halted) := by
  refine ⟨rfl, rfl, rfl, rfl, rfl, rfl, ?_⟩
  have h : ∀ (b : Prop) [Decidable b], (if b then OpState.halted else .idle) = .idle ∨
      (if b then OpState.halted else .idle) = .halted := by
    intro b _
    by_cases hb : b <;> simp [hb]
  exact h _

end Sys2Proof.Machine
end

