-- ==== Sys2Proof/Tests/Slice0.lean ====
section
/-! SUPPORT. Tests of the model: ill-formed commands that `Instr.wf` refuses, single steps of the manual's
worked examples (each names its section), and for every statement of the obligations with hypotheses a state
and operands that meet them, clause by clause, at the edges of their ranges. -/

-- One theorem after another: kernel evaluations that each wait in a thread of their own for all that stands
-- before them take more stack space than the check allows.
set_option Elab.async false

namespace Sys2Proof.Tests

open Sys2Proof Sys2Proof.Machine

/-! ### WellFormed: one ill-formed command for each check -/

theorem test_wf_refuses_short_group : (Instr.groupRead 5 [1, 2, 3, 4] 0).wf = false := by decide

theorem test_wf_refuses_long_frame : (Instr.batchFrameEnd ⟨1, List.replicate 255 0, true⟩).wf = false := by
  decide +kernel

theorem test_wf_refuses_long_record : (Instr.record (List.replicate 255 0)).wf = false := by decide +kernel

theorem test_wf_refuses_long_air_frame : (Instr.airFrameDiscarded (List.replicate 258 0) 0).wf = false := by
  decide +kernel

theorem test_wf_refuses_call_label_0 : (Instr.call ⟨0, 1, 0, 9, 1⟩ (-60)).wf = false := by decide

theorem test_wf_refuses_ready_station_0 : (Instr.ready ⟨0, 7, 1, .ready⟩ (-60)).wf = false := by decide

theorem test_wf_refuses_ack_station_251 : (Instr.fragAck ⟨251, 7, 1⟩).wf = false := by decide

theorem test_wf_refuses_done_label_ffffff : (Instr.done ⟨12, 0xFFFFFF, 1, 0⟩ (-60)).wf = false := by decide

theorem test_wf_refuses_refuse_label_0 : (Instr.refuse ⟨12, 0, 0, 0⟩ (-60)).wf = false := by decide

theorem test_wf_refuses_offer_sender_0 : (Instr.peerOffer ⟨0, 7, .any, 1, 0, 0, 3, 1, 0⟩).wf = false := by decide

theorem test_wf_refuses_long_payload : (Instr.peerFrag ⟨9, 7, 1, 1, List.replicate 17 0⟩).wf = false := by
  decide

theorem test_wf_refuses_long_tally : (Instr.peerTally ⟨9, 0, 0, 1, 0, List.replicate 17 (7, 1)⟩).wf = false := by
  decide

/-! ### States for the tests -/

/-- The default configuration with station number 12. -/
def config12 : StationConfig := { defaultConfig with identity := { defaultConfig.identity with station := 12 } }

/-- Station 12 in IDLE, its clock set, its blocks empty, 30,000.00 ms of budget. -/
def idle12 : State :=
  { State.reset with
    opState := .idle, autoload := none, config := config12, clock := 100000, clockSet := true
    budget := 3000000 }

/-- The same station in RUN. -/
def run12 : State := { idle12 with opState := .run }

/-- A WAITING entry of a label for a change of its badge. -/
def makeEntry (slot : Nat) (label : LabelAddr) (base : Base) (target : Version) : Entry :=
  { slot, label, state := .waiting, lane := .night, late := false, base, target, effective := 118000
    cls := 2, lastGroup := 40, items := { badge := some .sale }, face := { badge := some .sale }, notes := {}
    attempts := 0, limit := 6, lastOutcome := none, successor := none }

/-- A record of a label in a roster slot. -/
def makeRecord (slot : Nat) (label : LabelAddr) (held : Version) : RosterRecord :=
  ⟨slot, label, 0, held, 9, -60, 99000, 3, false⟩

/-- The next state of a command. -/
def after (i : Instr) (s : State) : State :=
  match exec i s with
  | .next t => t
  | .fault _ | .refused _ => s

/-- A price item without ending rule or floor. -/
def plainPrice (ticket : Nat) (m : Markdown) : PriceItem := ⟨ticket, m, none, 0⟩

/-! ### The Price Arithmetic Unit: the worked cases of 1.5 and 1.8 -/

/-- Case A's face (1.5.1). -/
def faceA : Face := { price := some 4099, was := some 5900, save := some 30, unit := some (.perL, 5465) }

theorem test_case_A :
    computeFace { price := some ⟨5900, .percent 300, some ⟨100, 99⟩, 3500⟩, unit := some ⟨750, 1000, .perL⟩ } =
      faceA := by decide

theorem test_case_B :
    let i : Items := { price := some ⟨1999, .percent 750, some ⟨100, 99⟩, 600⟩ }
    computeFace i = { price := some 600, was := some 1999, save := some 69 } ∧
    computeNotes i = { floored := true } := by decide

theorem test_case_C :
    let i : Items := { price := some ⟨1999, .amount 2500, some ⟨100, 99⟩, 0⟩ }
    computeFace i = { price := some 1, was := some 1999, save := some 99 } ∧
    computeNotes i = { endingSkipped := true, minPrice := true } := by decide

theorem test_case_D :
    let i : Items := { price := some (plainPrice 4000 (.percent 950)), badge := some .clearance }
    computeFace i = { price := some 400, was := some 4000, save := some 90, badge := some .clearance } ∧
    computeNotes i = { rateClamped := true } := by decide

theorem test_case_E :
    computeFace { price := some ⟨5900, .set 7500, some ⟨100, 99⟩, 0⟩, unit := some ⟨500, 1000, .perKg⟩ } =
      { price := some 7500, unit := some (.perKg, 15000) } := by decide

theorem test_case_F :
    let i : Items := { unit := some ⟨500, 1000, .perL⟩, stock := some .low }
    computeFace i = { stock := some .low } ∧ computeNotes i = { unitNoPrice := true } := by decide

/-- 1.8.2: Case A on a model with D 4, Du 3 and the fields WAS, UNIT, BADGE. -/
theorem test_narrow_model :
    (fit faceA ⟨4, 3, ⟨true, false, true, true, false, false, false⟩⟩).map
      (fun p => ((encodeFace p.1).length, p.1.unit, p.2)) =
      some (16, .clear, { unitDropped := true, fieldsDropped := true, unitCleared := true }) := by decide

/-- 1.8.3: a price of five digits on a model with D 4. -/
theorem test_price_too_wide :
    fit (computeFace { price := some (plainPrice 15000 (.percent 167)) }) { defaultModel with priceDigits := 4 } =
      none := by decide

/-- 1.8.4: a was-price of five digits on a model with D 4. -/
theorem test_was_too_wide :
    (fit (computeFace { price := some (plainPrice 12500 (.amount 2501)) })
      { defaultModel with priceDigits := 4 }).map (fun p => ((encodeFace p.1).length, p.2)) =
      some (18, { wasDropped := true, unitCleared := true }) := by decide

/-- 1.8.5: a face without price on a model that lacks its one field. -/
theorem test_empty_face :
    (fit { stock := some .low } ⟨5, 4, ⟨true, true, true, true, false, false, false⟩⟩).map
      (fun p => (encodeFace p.1, p.2)) = some ([], { fieldsDropped := true }) := by decide

/-! ### Resets, the autoload and store time -/

/-- 8.6: no configuration memory; all defaults, fault 401, HALTED. -/
theorem test_no_memory :
    let t := after .configReadTimeout State.reset
    t.opState = .halted ∧ t.firstFault = some ⟨.d401, 0, 0, 0, 0⟩ ∧ t.config = defaultConfig := by decide

/-- 11.4: a class map value out of range in group 2 of 3, at clock 64,000. -/
theorem test_bad_class_map :
    let s := { State.reset with clock := 64000, autoload := some ⟨.group 2 3, config12⟩ }
    let t := after (groupReadOf ([1, 2, 4, 8, 0, 0, 0, 0] ++ [0, 0, 0, 0, 2, 0, 1, 1])) s
    t.autoload = some ⟨.group 3 3, config12⟩ ∧ t.firstFault = some ⟨.d404, 0, 0, 2, 64000⟩ := by decide +kernel

/-- 11.4: group 3's sum check is wrong; the configuration so far comes into force, HALTED. -/
theorem test_bad_sum :
    let s := { State.reset with autoload := some ⟨.group 3 3, config12⟩ }
    let t := after (.groupRead 48 (List.replicate 48 0) 0) s
    t.config = config12 ∧ t.autoload = none ∧ t.opState = .halted := by decide +kernel

/-- 7.8: one clock second after the autoload adds 100 ms. -/
theorem test_refill : (after .clockSecond { idle12 with budget := 1190000 }).budget = 1200000 := by decide +kernel

/-- 9.6: with 254 reports queued, two entries become late at 90,000: reports 700 and 701, one fault 205. -/
theorem test_two_late :
    let e := { makeEntry 3 300 .any 1 with effective := 90000 }
    let s := { run12 with
      clock := 89999, book := [e, { e with slot := 8, label := 301 }], nextSeq := 700
      reports := List.replicate 254 ⟨0, ownReport .late e run12⟩ }
    let t := after .clockSecond s
    (t.reports.drop 254).map (fun r => (r.seq, r.body.label)) = [(700, 300), (701, 301)] ∧
    t.firstFault = some ⟨.d205, 300, 0, 40, 90000⟩ ∧ t.lateCount = 2 := by decide +kernel

/-- 3.8: at 28,200 an entry of effective time 30,000 becomes URGENT. -/
theorem test_lane_at_margin :
    let s := { run12 with clock := 28199, book := [{ makeEntry 5 300400 (.version 11) 12 with effective := 30000 }] }
    (after .clockSecond s).book.map (fun e => (e.lane, e.late)) = [(.urgent, false)] := by decide +kernel

/-! ### The Batch Link -/

/-- 10.6: the RECORD's response ends with READ ROSTER's overrun pending: the OVERRUN response begins. -/
theorem test_overrun_response :
    let s := { run12 with
      holding := [⟨0x11, [], true⟩], response := some ⟨0x11, ⟨.ok, .recordCount 12⟩, .r115200⟩
      overrun := some ⟨0x32, 1⟩ }
    let t := after .responseSent s
    t.holding = [] ∧ t.response = some ⟨0x32, ⟨.overrun, .none⟩, .r115200⟩ ∧ t.overrun = some ⟨0x32, 0⟩ ∧
    (after .responseSent t).overrun = none := by decide

/-- 10.7: a WITHDRAW with a corrupted byte is answered BAD_FRAME and changes no entry. -/
theorem test_noisy_withdraw :
    let s := { run12 with opState := .paused, book := [makeEntry 4 200060 (.version 2) 3] }
    let t := after (.batchFrameEnd ⟨0x33, [3, 13, 124], false⟩) s
    t.response = some ⟨0x33, ⟨.badFrame, .none⟩, .r115200⟩ ∧ t.book = s.book := by decide +kernel

/-- The frame of STATUS on the link, byte for byte, its CRC of 00 01 01 computed outside the model. -/
theorem test_link_bytes : linkBytes 0x01 [] = [0xA5, 0x00, 0x01, 0x01, 0x88, 0x05] := by decide +kernel

/-- 10.6: STATUS shows the open group and the operating state. -/
theorem test_status_group :
    (statusBody { run12 with group := some ⟨41, 118000, 2, 60, []⟩ }).group = some ⟨41, 118000, 2, 0, 60⟩ ∧
    (after .status run12).response = some ⟨0x01, ⟨.ok, .status (statusBody run12)⟩, .r115200⟩ := by
  decide +kernel

/-! ### Records and the fold: 2.5 and 2.6 -/

/-- 2.5: the three entries, two of them changed by the check pass, and the group's six records. -/
def night : State :=
  { run12 with
    book :=
      [{ makeEntry 0 100201 (.version 7) 8 with items := { price := some (plainPrice 2500 .none) } },
       { makeEntry 1 100305 (.version 3) 4 with
          items := { price := some (plainPrice 1200 .none) }, state := .inTransfer },
       { makeEntry 2 100512 .any 20 with items := { stock := some .low }, state := .yielded 100010 }]
    group := some
      ⟨41, 118000, 2, 60,
        [⟨0, 100201, .version 7, 8, { price := some (plainPrice 2500 (.percent 200)) }, false⟩,
         ⟨1, 100201, .version 8, 9, { badge := some .sale }, false⟩,
         ⟨0, 100305, .version 4, 5, { price := some (plainPrice 1200 (.amount 300)) }, false⟩,
         ⟨2, 100410, .any, 1, { stock := some .low }, false⟩,
         ⟨3, 100410, .any, 1, { locate := some 10 }, true⟩,
         ⟨0, 100512, .version 20, 21, { price := some (plainPrice 800 .none) }, false⟩]⟩ }

/-- 2.5.1, record 6: a target equal to its base is refused with 115. -/
theorem test_record_target_equals_base :
    let body : List Byte := [0, 1, 136, 160, 0, 0, 20, 0, 20, 1, 3, 1]
    (after (.record body) night).response = some ⟨0x11, ⟨.refused, .refused .d115⟩, .r115200⟩ ∧
    (after (.record body) night).firstFault = some ⟨.d115, 100512, 0, 41, 100000⟩ := by decide +kernel

/-- 2.5.1, record 5: source 3 keeps LOCATE only, and the record is MASKED. -/
theorem test_record_masked :
    let price : List Byte := [1, 0, 0, 3, 231, 0, 0, 0, 0, 0, 0, 0, 0, 0, 0, 0, 0, 0]
    checkRecord defaultSources.masks ([3, 1, 136, 58, 1, 0, 0, 0, 1, 2] ++ [6, 10] ++ price) =
      .accepted ⟨3, 100410, .any, 1, { locate := some 10 }, true⟩ := by decide +kernel

/-- 2.5.3: the fold's answer, and the versions and items it leaves. -/
theorem test_night_fold :
    let t := after (.closeGroup 41 6) night
    t.response = some ⟨0x12, ⟨.ok, .foldCounts 1 2 1 0⟩, .r115200⟩ ∧
    t.book.map (fun e => (e.label, e.state, e.base, e.target)) =
      [(100201, .waiting, .version 7, 9), (100305, .inTransfer, .version 3, 4),
       (100512, .waiting, .any, 21), (100410, .waiting, .any, 1)] := by
  decide +kernel

/-- 2.6: a record on the busy entry whose base is neither its successor's base nor target is a CONFLICT. -/
theorem test_refused_close :
    let s := { after (.closeGroup 41 6) night with
      group := some ⟨42, 0, 6, 60, [⟨0, 100305, .version 3, 6, {}, false⟩, ⟨0, 100201, .version 7, 8, {}, false⟩]⟩ }
    let t := after (.closeGroup 42 2) s
    t.response = some ⟨0x12, ⟨.refused, .refused .d133⟩, .r115200⟩ ∧ t.book = s.book ∧ t.group = none ∧
    t.firstFault = some ⟨.d133, 100305, 0, 42, 100000⟩ := by decide +kernel

/-! ### The book: 3.7 -/

/-- 3.7: three closings wait behind a full queue, at clock 50,010. -/
def fullQueue : State :=
  let e1 := makeEntry 12 200001 (.version 4) 5
  let e2 := makeEntry 40 200050 (.version 8) 9
  let e3 := makeEntry 77 200100 (.version 2) 3
  { run12 with
    clock := 50010
    book :=
      [{ e1 with state := .closing ⟨.peerDelivered, .station 7, 5, 50000⟩, attempts := 1 },
       { e2 with
          state := .closing ⟨.delivered, .station 12, 9, 50000⟩
          successor := some ⟨9, 10, { badge := some .new }, 60000, 2, 55, false⟩ },
       { e3 with state := .closing ⟨.peerDelivered, .station 9, 3, 50003⟩ }]
    closing := [12, 40, 77], reports := List.replicate 256 ⟨0, ownReport .late e1 run12⟩, nextSeq := 256 }

/-- 3.7: TAKE REPORTS with n = 2 frees slot 12, promotes slot 40's successor and leaves slot 77 listed. -/
theorem test_take_two :
    let t := after (.takeReports 2) fullQueue
    t.closing = [77] ∧ t.reports.length = 256 ∧
    t.book.map (fun e => (e.slot, e.state, e.base, e.target, e.lastGroup)) =
      [(40, .waiting, .version 9, 10, 55),
       (77, .closing ⟨.peerDelivered, .station 9, 3, 50003⟩, .version 2, 3, 40)] := by decide +kernel

/-- 3.7: a WITHDRAW of a CLOSING entry's label is refused. -/
theorem test_withdraw_closing :
    (after (.withdraw 200100) fullQueue).response = some ⟨0x33, ⟨.wrongState, .none⟩, .r115200⟩ := by
  decide +kernel

/-! ### The air: 4.8, 5.9, 5.10, 6.3, 7.9, 7.10, 9.5 -/

/-- 6.3: the delays of stations 12 and 9. -/
theorem test_standoff_delays :
    standoffDelay 12 .urgent (-58) 1 = 1350 ∧ standoffDelay 9 .urgent (-71) 0 = 1775 := by decide

/-- The transfer of 5.9 and 7.9: the 18-byte face of Case A in two fragments. -/
def context59 : TransferContext :=
  { label := 200050, slot := 40, base := .version 9, target := 10, effective := 118000, lane := .urgent
    face := encodeFace (deliver faceA defaultModel), covered := 0, fragment := 1, resends := 0, wait := none
    delayUs := 1350, touched := false }

/-- 5.9: the CALL of label 200,050 puts the Engine in STANDING_OFF with an 18-byte face and 1,350 µs. -/
theorem test_call_5_9 :
    let e := { makeEntry 40 200050 (.version 9) 10 with lane := .urgent, face := faceA, attempts := 1 }
    let t := after (.call ⟨200050, 9, 0, 9, 1⟩ (-58)) { run12 with book := [e] }
    t.dialogue = .standingOff context59 ∧ context59.face.length = 18 ∧ t.budget = 3000000 := by decide +kernel

/-- 7.9: an URGENT commit at 12,010.00 ms leaves 11,991.52. -/
theorem test_commit_7_9 :
    let e := { makeEntry 40 200050 (.version 9) 10 with lane := .urgent }
    let t := after .standoffEnd { run12 with budget := 1201000, dialogue := .standingOff context59, book := [e] }
    t.budget = 1199152 ∧ t.transmitting.map (fun f => (f.bytes 0).getD 1 0) = some 24 ∧
    t.book.map (fun x => x.state) = [.inTransfer] := by decide +kernel

/-- 5.9: the DONE returns 2.24 ms and closes the entry as DELIVERED. -/
theorem test_done_5_9 :
    let e := { makeEntry 40 200050 (.version 9) 10 with state := .inTransfer, attempts := 1 }
    let c := { context59 with covered := 1624, fragment := 2, wait := some ⟨10000, true, false⟩ }
    let t := after (.done ⟨12, 200050, 10, 0⟩ (-58))
      { run12 with budget := 2998152, dialogue := .transferring .awaitDone c, book := [e] }
    t.budget = 2998376 ∧ t.book = [] ∧ t.tally = [(200050, 10)] ∧
    t.reports.map (fun r => (r.body.kind, r.body.by_, r.body.attempts)) = [(.delivered, .station 12, 1)] := by
  decide +kernel

/-- 7.10: at 2.84 ms a re-send of 5.68 ms is not covered: LOST, and 0.64 ms returned. -/
theorem test_lost_7_10 :
    let e := { makeEntry 40 200050 (.version 9) 10 with state := .inTransfer }
    let c := { context59 with face := List.replicate 12 0, covered := 1152, wait := some ⟨4000, false, false⟩ }
    let t := after .ackWaitExpiry { run12 with budget := 284, dialogue := .transferring .awaitAck c, book := [e] }
    t.budget = 348 ∧ t.book.map (fun x => (x.state, x.attempts, x.lastOutcome)) = [(.waiting, 1, some .lost)] := by
  decide +kernel

/-- 5.11: a cut in AWAIT_ACK 2 of a 20-byte face returns 1.92 ms and chains the successor. -/
theorem test_cut_5_11 :
    let p : Successor := ⟨1, 2, { badge := some .new }, 118000, 2, 41, false⟩
    let e := { makeEntry 19 410900 .any 1 with state := .inTransfer, attempts := 2, successor := some p }
    let c := { context59 with
      label := 410900, slot := 19, target := 1, face := List.replicate 20 0, covered := 1656, fragment := 2
      wait := some ⟨4000, false, false⟩ }
    let t := takeHalt
      { run12 with halt := true, budget := 1000000, dialogue := .transferring .awaitAck c, book := [e] }
    t.budget = 1000192 ∧ t.opState = .halted ∧
    t.book.map (fun x => (x.state, x.base, x.target, x.attempts, x.lastOutcome)) =
      [(.waiting, .any, 2, 0, some .cutOff)] := by decide +kernel

/-- 6.7.1: the peer's OFFER yields slot 10 to 40,032. -/
theorem test_peer_offer :
    let s := { run12 with clock := 40000, book := [makeEntry 10 500100 (.version 4) 5] }
    (after (.peerOffer ⟨9, 500100, .version 4, 5, 0, 40000, 12, 1, 0⟩) s).book.map (fun e => e.state) =
      [.yielded 40032] := by decide +kernel

/-- 6.7.5: the peer's TALLY closes a YIELDED entry as PEER_DELIVERED by 9, and the Roster takes version 2. -/
theorem test_peer_tally :
    let s := { run12 with
      book := [{ makeEntry 4 500200 .any 2 with state := .yielded 40042 }], roster := [makeRecord 0 500200 1] }
    let t := after (.peerTally ⟨9, 40012, 0, 2, 0, [(500200, 2)]⟩) s
    t.book = [] ∧ t.roster.map (fun r => r.held) = [2] ∧
    t.reports.map (fun r => (r.body.kind, r.body.by_, r.body.version)) = [(.peerDelivered, .station 9, 2)] := by
  decide +kernel

/-- 9.5, at 80,041: the model change takes 202 before the re-check takes 201; two reports are queued. -/
theorem test_model_change :
    let e := { makeEntry 20 300400 (.version 1) 2 with face := { price := some 12495 }, lastGroup := 70 }
    let models := defaultModels.set 6 { defaultModel with priceDigits := 4 }
    let s := { idle12 with
      clock := 80041, config := { config12 with models := models }, book := [e]
      roster := [{ makeRecord 0 300400 1 with model := 3 }] }
    let t := after (.call ⟨300400, 1, 6, 9, 1⟩ (-60)) s
    t.firstFault = some ⟨.d202, 300400, 0, 70, 80041⟩ ∧
    t.reports.map (fun r => r.body.kind) = [.modelChanged, .held] ∧ t.book.map (fun x => x.state) = [.held] := by
  decide +kernel

/-- 8.7: START with a pair in the tally list and the counter at 12 begins a quiet wait of 5 ms. -/
theorem test_start_tally :
    let t := after .start { idle12 with tally := [(200050, 10)], tallyCount := 12 }
    t.opState = .run ∧ t.quietWait = some 5 := by decide +kernel

/-- 8.7: the quiet wait ends, and a TALLY of one pair is paid 5.04 ms. -/
theorem test_quiet_wait_end :
    let t := after .quietWaitEnd { run12 with tally := [(200050, 10)], tallyCount := 12, quietWait := some 5 }
    t.budget = 2999496 ∧ t.transmitting.map (fun f => (f.bytes 0).getD 1 0) = some 19 := by decide +kernel

/-! ### Witnesses: resets, the autoload, store time -/

/-- `ResetResults`: a held line reset input. -/
theorem witness_ResetResults : (after .lineReset run12).lineReset = true := by decide

/-- A configuration at the edges of its ranges. -/
def edgeConfig : StationConfig :=
  { identity := ⟨250, 0xFFFF, 7, .r460800⟩, sources := defaultSources
    models := Vector.replicate 16 ⟨7, 6, ⟨true, true, true, true, true, true, true⟩⟩
    policy := { defaultPolicy with attemptLimit := 15, lateMargin := 86400, capacity := 1000, refill := 1000,
                                   reserve := 1000 } }

/-- `ImageLoadsAsItself`: the autoload of reset, with the greatest values and with station 1. -/
theorem witness_ImageLoadsAsItself :
    ConfigInRange edgeConfig ∧ edgeConfig.identity.station ≠ 0 ∧
    ConfigInRange { edgeConfig with identity := { edgeConfig.identity with station := 1 } } ∧
    State.reset.autoload = some ⟨.header, defaultConfig⟩ := by decide +kernel

/-- The autoload of reset at group `k` of `count`. -/
def atGroup (k count : Nat) : State := { State.reset with autoload := some ⟨.group k count, defaultConfig⟩ }

/-- `AutoloadReads`: group counts 1, 4, 0 and 5; a good first and a good last group; a bad length, contents
length and sum; a value out of range in the first group of four and in the last of one. -/
theorem witness_AutoloadReads :
    State.reset.autoload = some ⟨.header, defaultConfig⟩ ∧
    (1 ≤ (1 : Byte).toNat ∧ (4 : Byte).toNat ≤ 4) ∧ ((0 : Byte) = 0 ∧ 4 < (5 : Byte).toNat) ∧
    ((0 : BitVec 16) ≠ 0x5A1E) ∧ (atGroup 1 4).autoload = some ⟨.group 1 4, defaultConfig⟩ ∧
    (∀ k ∈ [1, 4],
      (let c := imageContents edgeConfig k
      c.length = groupLength k ∧ (c.length + byteSum c + (imageSum c).toNat) % 65536 = 0 ∧
      (takeGroup k c defaultConfig).isSome = true)) ∧
    ((4 : Byte).toNat ≠ groupLength 1 ∧ ([] : List Byte).length ≠ groupLength 1 ∧
      ((5 : Byte).toNat + byteSum [1, 0, 0, 0, 0] + (0 : BitVec 16).toNat) % 65536 ≠ 0) ∧
    (let c : List Byte := [251, 0, 0, 0, 0]
    c.length = groupLength 1 ∧ (c.length + byteSum c + (imageSum c).toNat) % 65536 = 0 ∧
      takeGroup 1 c defaultConfig = none) ∧
    (atGroup 1 1).autoload = some ⟨.group 1 1, defaultConfig⟩ := by decide +kernel

/-- `AutoloadReads`: each group at the edges of its ranges, and one beyond: station 0 and 251, channel 8, a rate,
lane, severity or mask of code 2, a bit above the last member of each set byte, and numbers out of their bounds. -/
theorem witness_AutoloadReads_range :
    (∀ k ∈ [1, 2, 3, 4],
      let c := imageContents edgeConfig k
      c.length = groupLength k ∧ groupInRange k c = true) ∧
    (∀ p ∈ [(1, 0, 0), (1, 0, 251), (1, 3, 8), (1, 4, 2), (2, 7, 0x40), (2, 15, 2), (3, 0, 8), (3, 46, 7),
        (3, 47, 0x80), (4, 5, 2), (4, 11, 2), (4, 12, 0x40), (4, 13, 0), (4, 13, 16), (4, 14, 1), (4, 18, 1),
        (4, 22, 4), (4, 27, 233)],
      let c := (imageContents edgeConfig p.1).set p.2.1 (BitVec.ofNat 8 p.2.2)
      c.length = groupLength p.1 ∧ groupInRange p.1 c = false) := by decide +kernel

/-- An entry that becomes late at clock 100,001. -/
def dueEntry : Entry := { makeEntry 3 300 .any 1 with effective := 100001 }

/-- Station 12 in RUN with GROUP and RECORD_FORM faults of severity STOP. -/
def stopping : State :=
  { run12 with config := { config12 with policy := { config12.policy with
      severity := { config12.policy.severity with group := .stop, recordForm := .stop } } } }

/-- A group at its idle timer's last second. -/
def lastSecond : OpenGroup := ⟨41, 118000, 2, 1, []⟩

/-- `ClockSecondResult`: STARTING; the default severities with neither fault, with a newly late entry beside an
open group that lives on, with an expiring group, with both, and with a kind latched; and a HALTED station whose
group faults have severity STOP. -/
theorem witness_ClockSecondResult :
    State.reset.opState = .starting ∧ run12.opState ≠ .starting ∧
    run12.latched = noKinds ∧ newlyLate run12 100001 = [] ∧ run12.group = none ∧
    (∀ n ∈ [1, 2],
      let s := { run12 with book := [dueEntry], group := some { lastSecond with idle := n } }
      NothingHalts s [.group, .delivery] ∧ s.latched = noKinds ∧ (newlyLate s 100001).head? = some dueEntry ∧
        (s.group.filter (fun g => decide (g.idle ≤ 1))).isSome = decide (n = 1)) ∧
    (let s := { run12 with group := some lastSecond }
    NothingHalts s [.group, .delivery] ∧ lastSecond.idle ≤ 1 ∧ newlyLate s 100001 = []) ∧
    (let s := { run12 with latched := { noKinds with book := true } }
    NothingHalts s [.group, .delivery] ∧ s.latched ≠ noKinds) ∧
    NothingHalts { stopping with opState := .halted } [.group, .delivery] := by decide +kernel

/-- `TimedEndsResult`: an open group whose timer is 0, one whose timer is 1, and none. -/
theorem witness_TimedEndsResult :
    (let s := { run12 with group := some { lastSecond with idle := 0 } }
    s.group = some { lastSecond with idle := 0 } ∧ NothingHalts s [.group]) ∧
    (∀ g ∈ ({ run12 with group := some lastSecond } : State).group, g.idle ≠ 0) ∧ run12.group = none := by
  decide

/-- `SetTimeResult`: a newly late entry, none, and a kind latched before. -/
theorem witness_SetTimeResult :
    run12.opState ≠ .starting ∧ NothingHalts run12 [.delivery] ∧ newlyLate run12 100001 = [] ∧
    (newlyLate { run12 with book := [dueEntry] } 100001).head? = some dueEntry ∧ run12.latched = noKinds ∧
    ({ noKinds with book := true } : PerKind Bool) ≠ noKinds := by decide +kernel

/-- R134, R64, R148: a SET TIME that makes two entries late queues their LATE reports and latches 205, and the log
names the lower slot's label. -/
theorem test_set_time_late :
    let t := after (.setTime 100001) { run12 with book := [dueEntry, { dueEntry with slot := 5, label := 301 }] }
    t.reports.map (fun r => (r.body.kind, r.body.label)) = [(.late, 300), (.late, 301)] ∧
    t.latched = { noKinds with delivery := true } ∧ t.firstFault = some ⟨.d205, 300, 0, 40, 100001⟩ ∧
    t.book.map (fun e => e.late) = [true, true] := by decide +kernel

/-! ### Witnesses: the Batch Link -/

/-- A good RECORD frame. -/
def frameA : LinkFrame := goodFrame 0x11 []

/-- A response to it. -/
def responseA : Response := ⟨0x11, ⟨.ok, .none⟩, .r115200⟩

/-- `BatchFrameEndResult`: two frames held; one; none behind a response; none with a bad frame, and with good ones
of an unknown kind and of a wrong length. -/
theorem witness_BatchFrameEndResult :
    2 ≤ ({ run12 with holding := [frameA, frameA] } : State).holding.length ∧
    (let s := { run12 with holding := [frameA] }
    s.holding.length < 2 ∧ s.holding ≠ []) ∧
    (let s := { run12 with response := some responseA }
    s.holding.length < 2 ∧ s.response ≠ none) ∧
    run12.holding = [] ∧ run12.response = none ∧ (⟨0, [], false⟩ : LinkFrame).good = false ∧
    (after (.batchFrameEnd (goodFrame 0x43 [])) run12).response = some ⟨0x43, ⟨.unknownRequest, .none⟩, .r115200⟩ ∧
    (after (.batchFrameEnd (goodFrame 0x02 [])) run12).response = some ⟨0x02, ⟨.badFrame, .none⟩, .r115200⟩ := by
  decide

/-- `LinkEventsResult`: a response with no overrun pending, with two frames and with one still to answer; and
the OVERRUN response. -/
theorem witness_LinkEventsResult :
    (let s := { run12 with response := some responseA, holding := [frameA] }
    s.response = some responseA ∧ responseA.answer.status ≠ .overrun ∧ s.overrun = none) ∧
    ({ run12 with response := some responseA, overrun := some ⟨0x32, 0 + 2⟩ } : State).overrun =
      some ⟨0x32, 0 + 2⟩ ∧
    ({ run12 with response := some responseA, overrun := some ⟨0x32, 1⟩ } : State).overrun = some ⟨0x32, 1⟩ ∧
    (⟨0x32, ⟨.overrun, .none⟩, .r115200⟩ : Response).answer.status = .overrun := by decide

/-- `FrameActsAsRequest` and `RequestBodiesReadBack`: the frame of SET TIME, taken at its end and from the
head of the holding. -/
theorem witness_FrameActsAsRequest :
    requestFrame (.setTime 0xFFFFFFFF) = some (goodFrame 0x02 [255, 255, 255, 255]) ∧
    run12.response = none ∧ run12.holding = [] ∧
    ({ run12 with holding := goodFrame 0x02 [255, 255, 255, 255] :: [frameA] } : State).holding =
      goodFrame 0x02 [255, 255, 255, 255] :: [frameA] := by decide +kernel

/-- `BytesEndAsFrame`: HUNTING; RECEIVING with no byte, with 257 of the 259 bytes of the longest frame, and
with length bytes that give 0 and 256. -/
theorem witness_BytesEndAsFrame :
    run12.receiver = .hunting ∧
    ({ run12 with receiver := .receiving [] false } : State).receiver = .receiving [] false ∧
    (let bytes : List Byte := 0 :: 255 :: List.replicate 255 0
    let n := natOfBytes ((bytes ++ [0]).take 2)
    1 ≤ n ∧ n ≤ 255 ∧ bytes.length + 1 < n + 4) ∧
    natOfBytes (([0] ++ [0] : List Byte).take 2) = 0 ∧ 255 < natOfBytes (([1] ++ [0] : List Byte).take 2) ∧
    (List.replicate 254 0 : List Byte).length ≤ 254 ∧
    (List.replicate 260 false).length = (List.replicate 254 0 : List Byte).length + 6 := by decide +kernel

/-- `TakenFrameChecks`: a held bad frame; a good one in STARTING; an unknown kind; every kind of fixed length
with a body one byte too long; and a request in STARTING. -/
theorem witness_TakenFrameChecks :
    (let s := { run12 with holding := [⟨0, [], false⟩] }
    s.response = none ∧ s.holding = ⟨0, [], false⟩ :: [] ∧ (⟨0, [], false⟩ : LinkFrame).good = false) ∧
    State.reset.opState = .starting ∧ State.reset.response = none ∧ run12.opState ≠ .starting ∧
    (0x43 : Byte) ∉ ([0x01, 0x02, 0x10, 0x11, 0x12, 0x13, 0x20, 0x21, 0x22, 0x23, 0x30, 0x31, 0x32, 0x33, 0x40,
      0x41, 0x42] : List Byte) ∧
    (∀ p ∈ ([(0x01, 0), (0x02, 4), (0x10, 7), (0x12, 4), (0x13, 0), (0x20, 0), (0x21, 0), (0x22, 0), (0x23, 0),
      (0x30, 1), (0x31, 4), (0x32, 3), (0x33, 3), (0x40, 0), (0x41, 1), (0x42, 0)] : List (Byte × Nat)),
      (goodFrame p.1 (List.replicate (p.2 + 1) 0)).good = true ∧
      (goodFrame p.1 (List.replicate (p.2 + 1) 0)).body.length ≠ p.2) ∧
    requestFrame .status = some (goodFrame 0x01 []) := by decide +kernel

/-! ### Witnesses: the requests -/

/-- Station 12 in RUN with the entry of label 300 in slot 0 and its roster record. -/
def oneEntry : State :=
  { run12 with book := [makeEntry 0 300 (.version 3) 5], roster := [makeRecord 0 300 3] }

/-- The entry with another state. -/
def entryIn (st : EntryState) : Entry := { makeEntry 0 300 (.version 3) 5 with state := st }

/-- `oneEntry` with the entry in another state. -/
def oneIn (st : EntryState) : State := { oneEntry with book := [entryIn st] }

/-- A closing record. -/
def closingA : ClosingRecord := ⟨.delivered, .station 12, 5, 99000⟩

/-- A successor part on target 5. -/
def successorA : Successor := ⟨5, 6, { badge := some .new }, 118000, 2, 41, false⟩

/-- The entry with a successor part. -/
def succeeded (st : EntryState) : Entry := { entryIn st with successor := some successorA }

/-- `ReadsAnswerAsItStands`: a label with an entry and one without, an occupied slot, the free slot 65,535, and
a Roster of one record. -/
theorem witness_ReadsAnswerAsItStands :
    oneEntry.opState ≠ .starting ∧ oneEntry.entryOf 300 = some (makeEntry 0 300 (.version 3) 5) ∧
    oneEntry.entryOf 301 = none ∧ (1 : Byte) ≠ 0 ∧ (0 : LabelAddr).toNat < 65536 ∧
    oneEntry.entryAt (0 : LabelAddr).toNat = some (makeEntry 0 300 (.version 3) 5) ∧
    (65535 : LabelAddr).toNat < 65536 ∧ oneEntry.entryAt (65535 : LabelAddr).toNat = none ∧
    oneEntry.roster.Pairwise (fun a b => a.slot ≠ b.slot) ∧ oneEntry.roster[0]? = some (makeRecord 0 300 3) ∧
    (makeRecord 0 300 3).slot = (0 : BitVec 16).toNat + 0 := by decide +kernel

/-- A change record of a badge. -/
def recordA (label : LabelAddr) (base : Base) (target : Version) : GatheredRecord :=
  ⟨1, label, base, target, { badge := some .new }, false⟩

/-- A station with the group 41, effective at 118,000, that has gathered the records. -/
def withGroup (rs : List GatheredRecord) (s : State) : State := { s with group := some ⟨41, 118000, 2, 60, rs⟩ }

/-- The RECORD body of a badge change of label 300 by source 1, base 3, target 5. -/
def badgeBody : List Byte := [1, 0, 1, 44, 0, 0, 3, 0, 5, 1, 3, 3]

/-- `GatheringResults`: classes 7 and 8, number 0, an open group, and RECORDs with 511 and 512 records
gathered, accepted and refused. -/
theorem witness_GatheringResults :
    run12.opState ≠ .starting ∧ NothingHalts run12 [.recordForm] ∧ NothingHalts run12 [.group] ∧
    run12.group = none ∧ (7 : Byte).toNat < 8 ∧ 8 ≤ (8 : Byte).toNat ∧ ((1 : GroupNo) ≠ 0) ∧
    (withGroup [] run12).group = some ⟨41, 118000, 2, 60, []⟩ ∧
    (List.replicate 511 (recordA 300 .any 5)).length < 512 ∧
    512 ≤ (List.replicate 512 (recordA 300 .any 5)).length ∧
    checkRecord run12.config.sources.masks badgeBody = .accepted (recordA 300 (.version 3) 5) ∧
    checkRecord run12.config.sources.masks [] = .refused .d101 ∧
    NothingHalts run12 [Detail.d101.kind] := by decide +kernel

/-- A PRICE item whose values are good, and one with each value out of its range: ticket price 0, a rate of
1,001, an amount and a set price too great, an ending of its modulus, and a floor above the ticket price. -/
def rawPrices : List RawItem :=
  [.price 9999999 1 1000 1000 999 9999999, .price 0 0 0 0 0 0, .price 1 1 1001 0 0 0, .price 1 2 10000000 0 0 0,
   .price 1 3 0 0 0 0, .price 1 0 0 10 10 0, .price 1 0 0 0 0 2]

/-- An item of each other kind, whose values are good and at their greatest. -/
def rawOthers : List RawItem := [.unit 999999 100000 6, .badge 5, .stock 3, .ends 65535, .locate 240]

/-- `RecordChecks`: the items above fit their fields and have six kinds; the codes just outside their sets; the
values just outside their ranges; a mask that keeps all of an item and one that keeps none. -/
theorem witness_RecordChecks :
    ([1, 2, 3] : List Byte).length < 10 ∧
    (∀ i ∈ rawPrices ++ rawOthers, i.fits ∧ i.codesInSets = true) ∧
    (∀ p ∈ rawPrices, ((p :: rawOthers).filterMap RawItem.tag).Nodup) ∧
    ¬ (([.badge 1, .badge 2] : List RawItem).filterMap RawItem.tag).Nodup ∧
    rawPrices.map RawItem.valuesGood = [true, false, false, false, false, false, false] ∧
    (∀ i ∈ rawOthers, i.valuesGood = true) ∧
    (∀ i ∈ ([.price 1 4 0 0 0 0, .unit 1 1 0, .unit 1 1 7, .badge 6, .stock 4] : List RawItem),
      i.fits ∧ i.codesInSets = false) ∧
    (∀ i ∈ ([.unit 0 1 1, .unit 1000000 1 1, .unit 1 0 1, .unit 1 100001 1, .locate 241] : List RawItem),
      i.fits ∧ i.codesInSets = true ∧ i.valuesGood = false) ∧
    ((7 : Byte).toNat < 8 ∧ 8 ≤ (8 : Byte).toNat ∧ (1 : Byte).toNat ≤ 1 ∧ 1 < (2 : Byte).toNat ∧
      (0 : Byte) = 0 ∧ 6 < (7 : Byte).toNat) ∧
    (LabelAddr.wf 0 = false ∧ LabelAddr.wf 0xFFFFFE = true) ∧
    (newer 32767 0 = true ∧ newer 32768 0 = false ∧ newer 5 5 = false) ∧
    RawItem.inMask defaultSources.masks[1] (.badge 5) = true ∧
    RawItem.inMask defaultSources.masks[3] (.badge 5) = false ∧
    checkRecord defaultSources.masks badgeBody = .accepted (recordA 300 (.version 3) 5) := by decide +kernel

/-- Log entry 27: two BADGE items before an item of tag 7 are refused by the repeated kind; one, by the tag. -/
theorem test_repeat_before_unknown :
    checkRecord defaultSources.masks [1, 0, 1, 44, 0, 0, 3, 0, 5, 3, 3, 1, 3, 2, 7] = .refused .d101 ∧
    checkRecord defaultSources.masks [1, 0, 1, 44, 0, 0, 3, 0, 5, 2, 3, 1, 7, 9] = .refused .d102 := by
  decide +kernel

/-- 12.2 and R25, check 3: the badge code 6 is outside its set. -/
theorem test_badge_out_of_set :
    checkRecord defaultSources.masks [1, 0, 1, 44, 0, 0, 3, 0, 5, 1, 3, 6] = .refused .d103 := by decide +kernel

/-- `CloseGroupRefusals`: no group; another number; another count; a stale, a conflicting and a busy record;
and no room for a new label. -/
theorem witness_CloseGroupRefusals :
    run12.opState ≠ .starting ∧ NothingHalts run12 [.group, .book] ∧ run12.group = none ∧ (41 : GroupNo) ≠ 42 ∧
    ([] : List GatheredRecord).length ≠ (1 : BitVec 16).toNat ∧
    (let g : OpenGroup := ⟨41, 118000, 2, 60, [recordA 300 (.version 3) 4]⟩
    checkPass g g.gathered 1 (startView oneEntry) = .stopped .stale (recordA 300 (.version 3) 4) 1) ∧
    (let g : OpenGroup := ⟨41, 118000, 2, 60, [recordA 300 (.version 3) 6]⟩
    checkPass g g.gathered 1 (startView oneEntry) = .stopped .conflict (recordA 300 (.version 3) 6) 1) ∧
    (let g : OpenGroup := ⟨41, 118000, 2, 60, [recordA 300 (.version 3) 6]⟩
    checkPass g g.gathered 1 (startView (oneIn .inTransfer)) = .stopped .busy (recordA 300 (.version 3) 6) 1) := by
  decide +kernel

/-- A book of `n` entries of label 300. -/
def crowded (n : Nat) : State := { run12 with book := List.replicate n (makeEntry 0 300 (.version 3) 5) }

/-- The view that a record of the new label 301 gives a crowded book. -/
def crowdedView (n : Nat) : FoldView :=
  { startView (crowded n) with fresh := [⟨301, .any, 5, { badge := some .new }, false⟩] }

/-- `CloseGroupRefusals`: a book with any number of entries of label 300 has its check pass run to the end; with
4,096 of them there is no room for the new label. -/
theorem witness_CloseGroupRefusals_room :
    (∀ n, checkPass ⟨41, 118000, 2, 60, [recordA 301 .any 5]⟩ [recordA 301 .any 5] 1 (startView (crowded n)) =
      .done (crowdedView n)) ∧
    (∀ n, 4096 ≤ n → 4096 - (crowded n).book.length < (crowdedView n).fresh.length) := by
  refine ⟨fun n => ?_, fun n h => ?_⟩
  · simp [checkPass, foldRecord, startView, crowded, crowdedView, makeEntry, recordA]
  · simp [crowded, crowdedView]
    omega

/-- `FoldAppliesRecords`: a label without an entry, at the effective time and one clock second before it. -/
theorem witness_FoldAppliesRecords :
    (let s := withGroup [recordA 301 .any 5] oneEntry
    s.opState ≠ .starting ∧ NothingHalts s [.delivery] ∧ BookIsKeyed s ∧
    s.group = some ⟨41, 118000, 2, 60, [recordA 301 .any 5]⟩ ∧ s.entryOf 301 = none ∧ s.book.length < 4096) ∧
    (118000 : StoreTime).toNat ≤ (118000 : StoreTime).toNat ∧
    ¬ (118000 : StoreTime).toNat ≤ (117999 : StoreTime).toNat := by decide +kernel

/-- A book of label 300 WAITING, 301 HELD and 302 IN_TRANSFER. -/
def threeEntries : State :=
  { run12 with book := [makeEntry 0 300 (.version 3) 5, { makeEntry 1 301 .any 5 with state := .held },
      { makeEntry 3 302 .any 5 with state := .inTransfer }] }

/-- Nine records of the labels 300 to 304: on 300 one that merges and two that replace, on 301 one that chains, on
302 two of a successor part, and on the new labels 304 and 303 two and one. -/
def nineRecords : List GatheredRecord :=
  [recordA 304 .any 1, recordA 300 (.version 3) 5, recordA 302 (.version 5) 6, recordA 300 (.version 6) 7,
    recordA 301 (.version 5) 6, recordA 303 .any 2, recordA 304 (.version 1) 2, recordA 300 .any 8,
    recordA 302 (.version 6) 7]

/-- The open group of the nine records. -/
def nineGroup : OpenGroup := ⟨41, 118000, 2, 60, nineRecords⟩

/-- The station that has gathered them. -/
def nineGathered : State := withGroup nineRecords threeEntries

/-- `FoldAppliesRecords`: nine records that are all taken: label 300 is replaced once, by its second record. -/
theorem witness_FoldAppliesRecords_list :
    nineGathered.opState ≠ .starting ∧ NothingHalts nineGathered [.delivery, .book] ∧
    BookIsKeyed nineGathered ∧ nineGathered.group = some nineGroup ∧
    (9 : BitVec 16).toNat = nineGroup.gathered.length ∧
    labelsOf nineGroup.gathered = [304, 300, 302, 301, 303] ∧
    (labelsOf nineGroup.gathered).all
      (fun l => (viewAfter nineGroup nineGathered nineGroup.gathered l).toOption.isSome) = true ∧
    supersededEntries nineGroup nineGathered = [makeEntry 0 300 (.version 3) 5] ∧
    ((labelsOf nineGroup.gathered).map (entryAfter nineGroup nineGathered 2)).map
        (fun x => x.map (fun e => (e.state, e.target, e.successor.map (fun p => p.target)))) =
      [some (.waiting, 2, none), some (.waiting, 8, none), some (.inTransfer, 5, some 7),
        some (.waiting, 6, none), some (.waiting, 2, none)] := by decide +kernel

/-- The book of three entries and a group of four records, of which the third is given. -/
def fourGathered (r : GatheredRecord) : State :=
  withGroup [recordA 304 .any 1, recordA 300 (.version 3) 5, r, recordA 305 .any 1] threeEntries

/-- `FoldAppliesRecords`: after two records that are taken, a third that is STALE on an entry and on a new label,
one that is a CONFLICT, and one on an entry IN_TRANSFER. -/
theorem witness_FoldAppliesRecords_stops :
    ([(recordA 300 (.version 3) 4, some Detail.d132), (recordA 304 .any 0, some .d132),
        (recordA 300 (.version 2) 6, some .d133), (recordA 302 .any 6, none)]).all (fun p =>
      let s := fourGathered p.1
      let before := [recordA 304 .any 1, recordA 300 (.version 3) 5]
      decide (NothingHalts s [.delivery, .book] ∧ BookIsKeyed s) &&
      s.group.any (fun g => g.gathered == before ++ p.1 :: [recordA 305 .any 1] &&
        before.all (fun x => (viewAfter g s before x.label).toOption.isSome) &&
        (match viewAfter g s (before ++ [p.1]) p.1.label with
          | .ok _ => false
          | .error e => e == p.2))) = true := by decide +kernel

/-- A book of `n` entries of the labels 0 to n - 1. -/
def filled (n : Nat) : State :=
  { run12 with book := (List.range n).map (fun k => makeEntry k (BitVec.ofNat 24 k) (.version 3) 5) }

/-- `FoldAppliesRecords`: a book of up to 4,096 entries and a record of a label without one: with 4,096 of them
there is no room for it. -/
theorem witness_FoldAppliesRecords_room (n : Nat) (h : n ≤ 4096) :
    BookIsKeyed (filled n) ∧ (filled n).entryOf 5000 = none ∧
    viewAfter nineGroup (filled n) [recordA 5000 .any 5] 5000 =
      .ok (.change .any 5 { badge := some .new } false false) ∧
    (n = 4096 → 4096 - (filled n).book.length < 1) := by
  have absent : (filled n).entryOf 5000 = none := by
    simp only [State.entryOf, filled, List.find?_eq_none, List.mem_map, List.mem_range]
    rintro e ⟨k, hk, rfl⟩ he
    have := congrArg BitVec.toNat (eq_of_beq he)
    simp [makeEntry] at this
    omega
  refine ⟨⟨?_, ?_, ?_⟩, absent, ?_, ?_⟩
  · simp [filled, List.pairwise_map, makeEntry, List.pairwise_lt_range]
  · simp only [filled, List.pairwise_map, makeEntry]
    refine List.Pairwise.imp_of_mem ?_ List.pairwise_lt_range
    intro a b ha hb hab he
    have := congrArg BitVec.toNat he
    simp at this ha hb
    omega
  · simp only [filled, List.mem_map, List.mem_range]
    rintro e ⟨k, hk, rfl⟩
    simpa [makeEntry, slotCount] using Nat.lt_of_lt_of_le hk h
  · have view : viewOf (filled n) 5000 = .absent := by rw [viewOf, absent]
    show ((viewOf (filled n) 5000).take nineGroup (recordA 5000 .any 5)) >>= _ = _
    rw [view]
    rfl
  · simp [filled]
    omega

/-- `FoldChangesEntry`: on the entry of base 3 and target 5, WAITING, HELD or YIELDED, a record that merges, one
that chains, one of base ANY and the entry's own target that replaces, one of a newer base that replaces, one that
is STALE and one that is a CONFLICT. -/
theorem witness_FoldChangesEntry :
    (∀ st ∈ [EntryState.waiting, .held, .yielded 100010],
      ∀ r ∈ [recordA 300 (.version 3) 5, recordA 300 (.version 5) 6, recordA 300 .any 5,
        recordA 300 (.version 6) 7, recordA 300 (.version 3) 4, recordA 300 (.version 2) 6],
      let s := withGroup [r] (oneIn st)
      s.opState ≠ .starting ∧ NothingHalts s [.delivery, .book] ∧ BookIsKeyed s ∧ EntriesKeepLaw s ∧
      s.entryOf r.label = some (entryIn st) ∧ (entryIn st).isOpen = true) ∧
    VersionLaw (.version 3) 6 ∧ newer 6 5 = true ∧ atLeast 5 5 = true ∧ atLeast 7 5 = true ∧
    (newer 3 5 = false ∧ newer 5 4 = true) ∧ (newer 2 5 = false ∧ newer 5 6 = false) := by decide +kernel

/-- `FoldChangesEntry`: on an entry of base ANY and target 5, a record of base ANY that merges, one of the next
target that replaces, and one of the target before, which is STALE. -/
theorem witness_FoldChangesEntry_any :
    (∀ r ∈ [recordA 300 .any 5, recordA 300 .any 6, recordA 300 .any 4],
      let s := withGroup [r] { run12 with book := [makeEntry 0 300 .any 5] }
      NothingHalts s [.delivery, .book] ∧ BookIsKeyed s ∧ EntriesKeepLaw s ∧
      s.entryOf r.label = some (makeEntry 0 300 .any 5)) ∧
    atLeast 6 5 = true ∧ atLeast 4 5 = false ∧ newer 5 4 = true := by decide +kernel

/-- `FoldChangesEntry`: on the entry IN_TRANSFER or CLOSING, a record that makes the successor part and one of
another base; and with a successor part of target 6, one that merges, one that chains, and one that does neither. -/
theorem witness_FoldChangesEntry_successor :
    (∀ e ∈ [entryIn .inTransfer, entryIn (.closing closingA), succeeded .inTransfer,
        succeeded (.closing closingA)],
      ∀ r ∈ [recordA 300 (.version 5) 6, recordA 300 (.version 3) 5, recordA 300 (.version 6) 7],
      let s := withGroup [r] { oneEntry with book := [e] }
      NothingHalts s [.delivery, .book] ∧ BookIsKeyed s ∧ EntriesKeepLaw s ∧ s.entryOf r.label = some e ∧
      e.isOpen = false) ∧
    (successorA.base = 5 ∧ successorA.target = 6 ∧ newer 7 5 = true ∧
      (recordA 300 (.version 3) 5).base ≠ .version successorA.base) := by decide +kernel

/-- `AbortGroupResult`, `ResetPortResult`, `OperatingStateRequests`, `ClearFaultsResult`, `AttentionResult`: a
group open and none, and each operating state. -/
theorem witness_StationRequests :
    (withGroup [] run12).group ≠ none ∧ run12.group = none ∧ run12.opState = .run ∧
    (idle12.opState = .idle ∧ idle12.clockSet = true ∧ idle12.config.identity.station ≠ 0) ∧
    ({ idle12 with clockSet := false } : State).clockSet = false ∧
    ({ idle12 with config := defaultConfig } : State).config.identity.station = 0 ∧
    ({ idle12 with opState := .paused } : State).opState = .paused ∧
    ({ idle12 with opState := .halted } : State).opState = .halted ∧ State.reset.opState = .starting := by
  decide +kernel

/-- `TakeReportsResult`: no entry waits to close; none of 256 reports is taken; and two are, with three entries
waiting to close. -/
theorem witness_TakeReportsResult :
    (run12.opState ≠ .starting ∧ NothingHalts run12 [.delivery] ∧ run12.closing = []) ∧
    (let s := fullQueue
    s.opState ≠ .starting ∧ NothingHalts s [.delivery] ∧ min (min (0 : Byte).toNat 16) s.reports.length = 0 ∧
    0 < min (min (2 : Byte).toNat 16) s.reports.length ∧ BookIsKeyed s ∧ s.closing.Nodup ∧
    (∀ n ∈ s.closing, ∃ e ∈ s.book, e.slot = n ∧ e.isClosing = true)) := by decide +kernel

/-- `ClosingListDrainResult`: three CLOSING entries, one with a successor part, and room for one report. -/
theorem witness_ClosingListDrainResult :
    (let s := { fullQueue with reports := fullQueue.reports.drop 1 }
    NothingHalts s [.delivery] ∧ BookIsKeyed s ∧ s.closing.Nodup ∧
    (∀ n ∈ s.closing, ∃ e ∈ s.book, e.slot = n ∧ e.isClosing = true) ∧ s.opState ≠ .starting) := by
  decide +kernel

/-- `WithdrawResult`: no entry; an open entry with 255 and with 256 reports; a busy entry; a closing one. -/
theorem witness_WithdrawResult :
    oneEntry.opState ≠ .starting ∧ oneEntry.entryOf 301 = none ∧
    oneEntry.entryOf 300 = some (makeEntry 0 300 (.version 3) 5) ∧
    (makeEntry 0 300 (.version 3) 5).isOpen = true ∧ (fullQueue.reports.drop 1).length < 256 ∧
    256 ≤ fullQueue.reports.length ∧ (oneIn .inTransfer).entryOf 300 = some (entryIn .inTransfer) ∧
    (oneIn (.closing closingA)).entryOf 300 = some (entryIn (.closing closingA)) ∧
    (entryIn (.closing closingA)).isClosing = true := by decide +kernel

/-! ### Witnesses: the air -/

/-- 255 reports in the queue: room for one. -/
def nearlyFull (s : State) : State := { s with reports := fullQueue.reports.drop 1 }

/-- The three ways in which an entry may find the report queue when it closes: one place left, none, and one place
left behind a closing order list that is not empty. -/
def queues (s : State) : List State :=
  [nearlyFull s, { s with reports := fullQueue.reports }, { nearlyFull s with closing := [9] }]

/-- In the first of them the report is queued at once, in the others the entry joins the list. -/
theorem witness_closesNow : (queues run12).map closesNow = [true, false, false] := by decide +kernel

/-- A Roster of `n` records of label 300. -/
def rosterOf (n : Nat) : List RosterRecord := List.replicate n (makeRecord 0 300 3)

/-- `CallClosesCurrentEntry`: a CALL that states exactly the target. -/
theorem witness_CallClosesCurrentEntry :
    (∀ s ∈ queues oneEntry,
      Hears s ∧ s.isTransferring = false ∧ s.entryOf 300 = some (makeEntry 0 300 (.version 3) 5) ∧
      NothingHalts s [.delivery] ∧ s.book = oneEntry.book ∧ s.group = none ∧
      s.recordOf 300 = some (makeRecord 0 300 3)) ∧
    EntriesKeepLaw oneEntry ∧ oneEntry.group = none ∧ LabelAddr.wf 300 = true ∧ (makeRecord 0 300 3).model = 0 ∧
    atLeast 5 5 = true := by decide +kernel

/-- `CallClosesCurrentEntry`: a label without a record; a CALL whose model changes, of a label without an entry
and with one WAITING, HELD or YIELDED, below its target, whose face fits and does not fit. -/
theorem witness_CallClosesCurrentEntry_model :
    (let s := { oneEntry with roster := [] }
    s.recordOf 300 = none ∧ s.roster.length < 4096 ∧ RosterIsKeyed s) ∧
    (makeRecord 0 300 3).model ≠ 1 ∧ ({ oneEntry with book := [] } : State).entryOf 300 = none ∧
    (∀ st ∈ [EntryState.waiting, .held, .yielded 100010],
      let s := { oneIn st with opState := .idle }
      NothingHalts s [.delivery] ∧ BookIsKeyed s ∧ s.entryOf 300 = some (entryIn st) ∧ s.opState ≠ .run) ∧
    atLeast 3 5 = false ∧ (fit (entryIn .waiting).face oneEntry.config.models[1]).isSome = true ∧
    fit { price := some 10000 } { defaultModel with priceDigits := 4 } = none := by decide +kernel

/-- `CallClosesCurrentEntry`: a full Roster without label 301, whose last record has no book entry, or all of
whose records have one. -/
theorem witness_CallClosesCurrentEntry_roster (n : Nat) (h : 4095 ≤ n) :
    (let s := { run12 with roster := rosterOf (n + 1) }
    s.recordOf 301 = none ∧ 4096 ≤ s.roster.length ∧
    s.roster = rosterOf n ++ makeRecord 0 300 3 :: [] ∧ s.entryOf 300 = none) ∧
    (let s := { oneEntry with roster := rosterOf (n + 1) }
    s.recordOf 301 = none ∧ 4096 ≤ s.roster.length ∧ ∀ r ∈ s.roster, s.entryOf r.label ≠ none) := by
  refine ⟨⟨?_, ?_, List.replicate_succ', rfl⟩, ?_, ?_, fun r h => ?_⟩
  · simp [State.recordOf, rosterOf, makeRecord]
  · simpa [rosterOf] using h
  · simp [State.recordOf, rosterOf, makeRecord]
  · simpa [rosterOf] using h
  · rw [List.eq_of_mem_replicate h]
    exact (by decide : oneEntry.entryOf 300 ≠ none)

/-- What `queues` leaves as it is: everything that the premises of a closing entry name but the report queue and
the closing order list. -/
theorem queues_keep (s : State) : ∀ t ∈ queues s, t = { s with reports := t.reports, closing := t.closing } := by
  simp [queues, nearlyFull]

/-- What the entry of label 300 delivers to the default model. -/
def delivered300 : DeliveredFace := deliver { badge := some .sale } defaultModel

/-- `CallBeginsStandoff`: a CALL below the target, on an entry WAITING, HELD or YIELDED; in RUN and in PAUSED,
with LISTEN set and clear; of the base and of another version; with a face that fits and one that does not; and
a level that just covers, and one that just does not. -/
theorem witness_CallBeginsStandoff :
    (∀ st ∈ [EntryState.waiting, .held, .yielded 100010],
      let s := { oneIn st with carriers := 1 }
      s.opState = .run ∧ Hears s ∧ s.isTransferring = false ∧ s.carriers ≤ 1 ∧ BookIsKeyed s ∧
      (∀ r ∈ s.recordOf 300, r.model = 0) ∧ s.entryOf 300 = some (entryIn st) ∧
      NothingHalts s [.delivery] ∧ EntriesKeepLaw s ∧
      fit (entryIn st).face s.config.models[(0 : BitVec 4).toFin] = some (delivered300, {})) ∧
    LabelAddr.wf 300 = true ∧ (1 : Byte).getLsbD 0 = true ∧ (0 : Byte).getLsbD 0 = false ∧
    ({ oneEntry with opState := .paused } : State).opState ≠ .run ∧
    atLeast 3 5 = false ∧ atLeast 2 5 = false ∧
    (entryIn .waiting).base = .version 3 ∧ (entryIn .waiting).base ≠ .version 2 ∧
    fit { price := some 10000 } { defaultModel with priceDigits := 4 } = none ∧
    (encodeFace delivered300).length ≤ 16 ∧ 1216 + run12.config.policy.reserve * 100 = 1201216 := by
  decide +kernel

/-- The context of a transfer to label 300. -/
def contextA : TransferContext :=
  { label := 300, slot := 0, base := .version 3, target := 5, effective := 118000, lane := .night
    face := encodeFace delivered300, covered := 0, fragment := 1, resends := 0, wait := none, delayUs := 3375
    touched := false }

/-- `oneEntry` in a standoff, its level just covering the estimate and the reserve. -/
def standing : State := { oneEntry with dialogue := .standingOff contextA, budget := 1201216 }

/-- `StandoffEndCommits`: a covered standoff; and one not in RUN, one touched, one not covered, one without
its entry. -/
theorem witness_StandoffEndCommits :
    standing.dialogue = .standingOff contextA ∧ contextA.face.length ≤ 16 ∧
    standing.entryAt contextA.slot = some (makeEntry 0 300 (.version 3) 5) ∧ standing.opState = .run ∧
    contextA.touched = false ∧ 1216 + standing.config.policy.reserve * 100 ≤ standing.budget ∧
    ({ standing with opState := .paused } : State).opState ≠ .run ∧
    ({ contextA with touched := true } : TransferContext).touched = true ∧
    1201215 < 1216 + standing.config.policy.reserve * 100 ∧
    ({ standing with book := [] } : State).entryAt contextA.slot = none := by decide +kernel

/-- `HaltStopsWork`: three requests refused with kinds of severity STOP, in IDLE, RUN and PAUSED, with no
transfer, and in a transfer that sends its OFFER, a fragment, a re-send, and that waits. -/
theorem witness_HaltStopsWork :
    (∀ d ∈ [Detail.d122, .d123, .d103], stopping.config.policy.severity.get d.kind = .stop) ∧
    stopping.group = none ∧ stopping.halt = false ∧ stopping.opState = .run ∧ stopping.isTransferring = false ∧
    (∀ p ∈ [Phase.awaitReady, .sending false, .sending true, .awaitAck],
      let s := { stopping with book := [entryIn .inTransfer], dialogue := .transferring p contextA }
      BookIsKeyed s ∧ s.dialogue = .transferring p contextA ∧
      s.entryAt contextA.slot = some (entryIn .inTransfer)) := by
  decide +kernel

/-- `stopping` with book and delivery faults of severity STOP as well, a latched kind of severity CONTINUE, one entry
and a transfer with it that sends its OFFER. -/
def stoppingAll : State :=
  { stopping with
    config := { stopping.config with policy := { stopping.config.policy with
      severity := ⟨.stop, .continue_, .stop, .stop, .stop, .continue_⟩ } }
    book := [entryIn .inTransfer], roster := [makeRecord 0 300 3], dialogue := .transferring .awaitReady contextA
    transmitting := some (fragFrame oneEntry contextA), group := some lastSecond }

/-- `HaltStopsWork`: a clock second that expires the group during a transfer, which latches a kind of severity STOP;
the same of a station in HALTED; and a command that latches none. -/
theorem witness_HaltStopsWork_general :
    (let t := after .clockSecond (unstopped stoppingAll)
    stoppingAll.opState = .run ∧ StopFaultHalts stoppingAll ∧ t.latched.group = true ∧
    stoppingAll.config.policy.severity.get .group = .stop ∧ t.isTransferring = true) ∧
    (let s := { stoppingAll with
      opState := .halted, dialogue := .listening, transmitting := none, latched := { noKinds with group := true } }
    StopFaultHalts s ∧ s.opState = .halted) ∧
    (after .carrierSensed (unstopped stoppingAll)).latched = noKinds := by decide +kernel

/-- A wait in progress. -/
def waitA : Wait := ⟨4000, false, false⟩

/-- `oneEntry` in a transfer, waiting, with one place left in the report queue. -/
def transfer (p : Phase) (c : TransferContext) : State :=
  { nearlyFull (oneIn .inTransfer) with dialogue := .transferring p { c with wait := some waitA } }

/-- The state of a transfer that is sending. -/
def sendingNow (p : Phase) : State :=
  { oneIn .inTransfer with
    dialogue := .transferring p contextA, transmitting := some (fragFrame oneEntry contextA) }

/-- `SentFramesBeginWaits`: an OFFER, a first sending and a re-send on the air. -/
theorem witness_SentFramesBeginWaits :
    (sendingNow .awaitReady).dialogue = .transferring .awaitReady contextA ∧
    (sendingNow .awaitReady).transmitting = some (fragFrame oneEntry contextA) ∧
    (sendingNow (.sending false)).dialogue = .transferring (.sending false) contextA ∧
    (sendingNow (.sending true)).dialogue = .transferring (.sending true) contextA := by decide +kernel

/-- The context with its wait in progress. -/
def waitingA : TransferContext := { contextA with wait := some waitA }

/-- `ReadyAwaited`: a READY of the label in transfer that names the own station, with room in the report queue and
without, and with a Roster record and without. -/
theorem witness_ReadyAwaited :
    (∀ s ∈ queues (transfer .awaitReady contextA),
    Hears s ∧ NothingHalts s [.delivery] ∧ s.dialogue = .transferring .awaitReady waitingA ∧
    waitingA.label = 300 ∧ LabelAddr.wf 300 = true ∧ (12 : StationNo) = s.config.identity.station ∧
    StationNo.wf 12 = true ∧ BookIsKeyed s ∧
    s.entryAt waitingA.slot = some (entryIn .inTransfer) ∧ (entryIn .inTransfer).label = waitingA.label ∧
    s.recordOf 300 = some (makeRecord 0 300 3)) ∧
    ({ transfer .awaitReady contextA with roster := [] } : State).recordOf 300 = none := by decide +kernel

/-- A face of two fragments. -/
def longFace : List Byte := List.replicate 17 0

/-- A wait that a frame start has met and whose deadline has passed. -/
def waitPassed : Wait := ⟨4000, true, true⟩

/-- `FragAckAwaited`: the FRAG ACK of the first of two fragments, of the last of one, and of another index, in
each phase that waits; and a wait whose deadline has passed. -/
theorem witness_FragAckAwaited :
    (∀ face ∈ [longFace, contextA.face], ∀ p ∈ [Phase.awaitReady, .awaitAck, .awaitDone],
      let s := transfer p { contextA with face := face }
      Hears s ∧ s.dialogue = .transferring p { waitingA with face := face }) ∧
    LabelAddr.wf 300 = true ∧ StationNo.wf 12 = true ∧ (12 : StationNo) = run12.config.identity.station ∧
    (1 : Byte).toNat = waitingA.fragment ∧ waitingA.fragment < fragmentCount longFace ∧
    fragmentCount waitingA.face ≤ waitingA.fragment ∧ (2 : Byte).toNat ≠ waitingA.fragment ∧
    waitingA.wait = some waitA ∧ waitA.passed = false ∧ waitPassed.met = true ∧ waitPassed.passed = true ∧
    (let c := { contextA with wait := some waitPassed }
    Hears { transfer .awaitDone contextA with dialogue := .transferring .awaitDone c }) := by decide +kernel

/-- `CallClosesCurrentEntry`: a CALL of another model while the Engine is TRANSFERRING with label 301, its wait's
deadline ahead and passed; and a label whose entry is IN_TRANSFER or CLOSING. -/
theorem witness_CallClosesCurrentEntry_transfer :
    ([waitA, waitPassed].all (fun w =>
      let s := { oneEntry with
        dialogue := .transferring .awaitAck { contextA with label := 301, slot := 1, wait := some w } }
      decide (Hears s ∧ s.isTransferring = true ∧ NothingHalts s [.delivery] ∧ BookIsKeyed s ∧
        deadlineAhead s = !w.passed ∧ expiryOf .awaitAck = some .ackWaitExpiry))) = true ∧
    (makeRecord 0 300 3).model ≠ 1 ∧ (entryIn .inTransfer).isOpen = false ∧ (entryIn (.closing closingA)).isOpen = false ∧
    waitPassed.met = true := by decide +kernel

/-- `FragAckAwaited`: a FRAG ACK that no phase awaits, in LISTENING, in STANDING_OFF, and in AWAIT_ACK before and
after the deadline. -/
theorem witness_FragAckAwaited_other :
    Hears oneEntry ∧ Hears standing ∧ deadlineAhead oneEntry = true ∧ deadlineAhead standing = true ∧
    (let s := transfer .awaitAck contextA
    let late := { s with dialogue := .transferring .awaitAck { contextA with wait := some waitPassed } }
    Hears s ∧ deadlineAhead s = true ∧ Hears late ∧ deadlineAhead late = false ∧
    expiryOf .awaitAck = some .ackWaitExpiry ∧ (301 : LabelAddr) ≠ contextA.label ∧ LabelAddr.wf 301 = true ∧
    (1 : StationNo) ≠ s.config.identity.station ∧ StationNo.wf 1 = true) := by decide +kernel

/-- R81: a FRAG ACK of another label, met by the FRAG ACK wait and ended after its deadline, expires the wait: the
fragment is re-sent. -/
theorem test_unawaited_expires :
    let c := { contextA with wait := some waitPassed }
    let s := { transfer .awaitAck contextA with dialogue := .transferring .awaitAck c }
    (after (.fragAck ⟨12, 301, 1⟩) s).dialogue =
      .transferring (.sending true) { contextA with resends := 1, wait := none } := by decide +kernel

/-- `WaitExpiries`: the three waits, met and not met; re-sends 1 and 2; and a level one short of a re-send. -/
theorem witness_WaitExpiries :
    (∀ p ∈ [Phase.awaitReady, .awaitAck, .awaitDone],
      let s := transfer p contextA
      NothingHalts s [.delivery] ∧ s.transmitting = none ∧ s.dialogue = .transferring p waitingA ∧ BookIsKeyed s ∧
      s.entryAt waitingA.slot = some (entryIn .inTransfer) ∧
      (entryIn .inTransfer).attempts + 1 < attemptLimitOf s (entryIn .inTransfer).label) ∧
    ({ waitA with met := true } : Wait).met = true ∧ waitA.met = false ∧
    ({ waitingA with resends := 1 } : TransferContext).resends < 2 ∧
    2 ≤ ({ waitingA with resends := 2 } : TransferContext).resends ∧
    376 + 16 * ((waitingA.face.drop (16 * (waitingA.fragment - 1))).take 16).length = 408 := by decide +kernel

/-- `LimitAbandonsEntry`: the sixth failure of a limit of 6, with a successor part, in each phase that waits,
after two re-sends and at a level one short of one, with room in the report queue and without; and the third of
battery level 2, which halves the limit. -/
theorem witness_LimitAbandonsEntry :
    (∀ p ∈ [Phase.awaitReady, .awaitAck, .awaitDone],
      let e := { succeeded .inTransfer with attempts := 5 }
      ∀ s ∈ queues { transfer p { contextA with resends := 2 } with book := [e] },
      s.opState ≠ .starting ∧ NothingHalts s [.delivery] ∧ s.transmitting = none ∧ BookIsKeyed s ∧
      s.dialogue = .transferring p { waitingA with resends := 2 } ∧ waitingA.wait = some waitA ∧
      waitA.met = false ∧ s.entryAt waitingA.slot = some e ∧
      s.config.policy.attemptLimit ≤ 5 + 1) ∧
    376 + 16 * ((contextA.face.drop (16 * (contextA.fragment - 1))).take 16).length = 408 ∧
    contextA.fragment = fragmentCount contextA.face ∧ waitingA.label = 300 ∧ LabelAddr.wf 300 = true ∧
    (12 : StationNo) = run12.config.identity.station ∧ StationNo.wf 12 = true ∧
    (let s := { transfer .awaitReady contextA with roster := [{ makeRecord 0 300 3 with battery := 2 }] }
    (s.recordOf 300).any (fun r => decide (r.battery.toNat ≤ 2)) = true ∧
    (s.config.policy.attemptLimit + 1) / 2 ≤ 2 + 1) := by decide +kernel

/-- 63 pairs of other labels in the tally list: room for one. -/
def tallies (s : State) : State := { s with tally := List.replicate 63 (9, 9) }

/-- `DoneEndsTransfer` and `RefuseEndsTransfer`: AWAIT_DONE, and AWAIT_ACK of the last fragment, with room in the
report queue and without; tally lists of 63 and 64 pairs, and one that holds the pair. -/
theorem witness_DoneEndsTransfer :
    (∀ p ∈ [Phase.awaitDone, .awaitAck], ∀ s ∈ queues (transfer p contextA),
      Hears s ∧ NothingHalts s [.delivery] ∧ s.dialogue = .transferring p waitingA ∧ BookIsKeyed s ∧
      (p = .awaitDone ∨ (p = .awaitAck ∧ waitingA.fragment = fragmentCount waitingA.face)) ∧
      s.entryAt waitingA.slot = some (entryIn .inTransfer) ∧
      (entryIn .inTransfer).attempts + 1 < attemptLimitOf s (entryIn .inTransfer).label) ∧
    (tallies run12).tally.length ≤ 64 ∧ ((9, 9) :: (tallies run12).tally).length ≤ 64 ∧
    (waitingA.label, waitingA.target) ∈ [((300 : LabelAddr), (5 : Version))] ∧
    waitingA.label = 300 ∧ LabelAddr.wf 300 = true ∧ (12 : StationNo) = run12.config.identity.station ∧
    StationNo.wf 12 = true := by decide +kernel

/-- R115: of 64 pairs the oldest makes way for the 65th, and a pair in the list does not join again. -/
theorem test_full_tally :
    let l : List (LabelAddr × Version) := (1, 1) :: (tallies run12).tally
    let t := fun l => after (.done ⟨12, 300, 5, 0⟩ (-60)) { transfer .awaitDone contextA with tally := l }
    (t l).tally = (tallies run12).tally ++ [(300, 5)] ∧ (t [(300, 5), (1, 1)]).tally = [(300, 5), (1, 1)] := by
  decide +kernel

/-- 3.7, R61: an entry that closes with the queue full is CLOSING with its record and joins the end of the list. -/
theorem test_closing_joins_list :
    let s := { oneEntry with reports := fullQueue.reports, closing := [9] }
    let t := after (.call ⟨300, 5, 0, 9, 1⟩ (-60)) s
    t.book = [entryIn (.closing ⟨.seenCurrent, .label, 5, 100000⟩)] ∧ t.closing = [9, 0] ∧
    t.reports = s.reports := by decide +kernel

/-- `OverheardFramesConfirm`, `PeerTallyConfirms`: the entry of label 300, WAITING, HELD or YIELDED, and the
version 5 stated by the own station and by station 250; an entry CLOSING, and a version below its target. -/
theorem witness_OverheardFramesConfirm :
    (∀ st ∈ [EntryState.waiting, .held, .yielded 100010], ∀ s ∈ queues (tallies (oneIn st)),
      Hears s ∧ s.isTransferring = false ∧ NothingHalts s [.delivery] ∧ BookIsKeyed s ∧ deadlineAhead s = true ∧
      transferLabel s ≠ some 300 ∧ s.entryOf 300 = some (entryIn st) ∧ (entryIn st).isOpen = true ∧
      atLeast 5 (entryIn st).target = true ∧ s.tally.length ≤ 64) ∧
    (entryIn (.closing closingA)).isOpen = false ∧ atLeast 4 (entryIn .waiting).target = false ∧
    LabelAddr.wf 300 = true ∧ StationNo.wf 12 = true ∧ StationNo.wf 250 = true ∧
    (250 : StationNo) ≠ run12.config.identity.station := by decide +kernel

/-- `OverheardFramesConfirm`: label 300 beside a transfer with label 301, and in a transfer that awaits its READY. -/
theorem witness_OverheardFramesConfirm_transfer :
    (let s := { oneEntry with dialogue := .transferring .awaitAck { waitingA with label := 301, slot := 1 } }
    Hears s ∧ NothingHalts s [.delivery] ∧ BookIsKeyed s ∧ deadlineAhead s = true ∧
      transferLabel s = some 301 ∧ readyIsAwaited s = false ∧ endAwaited s = true) ∧
    (let s := transfer .awaitReady contextA
    Hears s ∧ NothingHalts s [.delivery] ∧ BookIsKeyed s ∧ deadlineAhead s = true ∧
      transferLabel s = some 300 ∧ endAwaited s = false) := by decide +kernel

/-- R95, R111: a READY CURRENT outside a transfer closes the entry as SEEN_CURRENT; a REFUSE reaches the Roster
only. -/
theorem test_overheard_ready_refuse :
    let t := after (.ready ⟨250, 300, 5, .current⟩ (-70)) oneEntry
    let u := after (.refuse ⟨12, 300, 0, 0⟩ (-70)) oneEntry
    t.book = [] ∧ t.reports.map (fun r => (r.body.kind, r.body.by_)) = [(.seenCurrent, .label)] ∧
    t.roster.map (fun r => (r.held, r.signal)) = [(5, -70)] ∧
    u.book = oneEntry.book ∧ u.roster.map (fun r => (r.held, r.signal)) = [(3, -70)] := by decide +kernel

/-- `PeerOfferYields`: an OFFER from station 1 to label 300. -/
theorem witness_PeerOfferYields :
    Hears oneEntry ∧ oneEntry.isTransferring = false ∧ LabelAddr.wf 300 = true ∧ StationNo.wf 1 = true ∧
    (1 : StationNo) ≠ oneEntry.config.identity.station ∧
    oneEntry.entryOf 300 = some (makeEntry 0 300 (.version 3) 5) ∧
    (makeEntry 0 300 (.version 3) 5).isOpen = true := by decide +kernel

/-- `PeerOfferYields`: a label with no entry, with one IN_TRANSFER and with one CLOSING; and a transfer whose wait's
deadline is ahead, and one where it has passed. -/
theorem witness_PeerOfferYields_other :
    oneEntry.entryOf 301 = none ∧ LabelAddr.wf 301 = true ∧ Hears (transfer .awaitReady contextA) ∧
    (transfer .awaitReady contextA).entryOf 300 = some (entryIn .inTransfer) ∧
    (oneIn (.closing closingA)).entryOf 300 = some (entryIn (.closing closingA)) ∧
    (entryIn .inTransfer).isOpen = false ∧ (entryIn (.closing closingA)).isOpen = false ∧
    (let s := { oneEntry with
      dialogue := .transferring .awaitDone { contextA with label := 301, slot := 1, wait := some waitPassed } }
    Hears s ∧ (s.entryOf 300).any Entry.isOpen = true ∧ deadlineAhead s = false ∧
    expiryOf .awaitDone = some .doneWaitExpiry) := by decide +kernel

/-- The pairs of a peer's TALLY: a bad address, label 300 twice, a label with no entry, another bad address. -/
def peerPairs : List (LabelAddr × Version) := [(0, 5), (300, 4), (300, 5), (301, 9), (16777215, 1)]

/-- `PeerTallyConfirms`: several pairs and none, outside a transfer, in one with label 301, whose pairs the Engine
leaves, and in one with label 300; and 16 pairs. -/
theorem witness_PeerTallyConfirms :
    (∀ s ∈ [oneEntry, { oneEntry with
        dialogue := .transferring .awaitAck { waitingA with label := 301, slot := 1 } }, transfer .awaitAck contextA],
      Hears s ∧ NothingHalts s [.delivery] ∧ BookIsKeyed s ∧ (250 : StationNo) ≠ s.config.identity.station) ∧
    StationNo.wf 250 = true ∧ peerPairs.length ≤ 16 ∧ (List.replicate 16 ((300 : LabelAddr), (5 : Version))).length ≤ 16 ∧
    (0 : LabelAddr).toNat < 1 ∧ 16777214 < (16777215 : LabelAddr).toNat ∧ 1 ≤ (300 : LabelAddr).toNat ∧
    transferLabel oneEntry ≠ some 300 ∧ atLeast 4 5 = false ∧ atLeast 5 5 = true ∧
    transferLabel (transfer .awaitAck contextA) = some 300 := by decide +kernel

/-- R120: of these pairs the second leaves the entry of target 5, and the third closes it; the Roster takes both
versions. -/
theorem test_peer_pairs :
    let t := after (.peerTally ⟨250, 100000, 0, 2, 0, peerPairs⟩) oneEntry
    t.book = [] ∧ t.roster.map (fun r => (r.held, r.signal)) = [(5, -60)] ∧
    t.reports.map (fun r => (r.body.kind, r.body.version, r.body.by_)) =
      [(.peerDelivered, 5, .station 250)] := by decide +kernel

/-- `TallyIsSent`: a quiet wait whose TALLY of 16 pairs the level just covers and just does not; and a TALLY on
the air. -/
theorem witness_TallyIsSent :
    (let s := { tallies run12 with quietWait := some 5, budget := 1704 }
    s.quietWait ≠ none ∧ 424 + 80 * min 16 s.tally.length ≤ s.budget ∧
    1703 < 424 + 80 * min 16 s.tally.length) ∧
    (let s := { tallies run12 with dialogue := .tallying 16 }
    s.dialogue = .tallying 16 ∧ s.halt = false) := by decide +kernel

/-- `CarrierAndFrameStarts`: STARTING; LISTENING; a TALLY on the air with a carrier left at its end; a wait in
progress; five bytes, which R104 discards; and a frame of each kind whose fields fail check 5, 6 or 7. -/
theorem witness_CarrierAndFrameStarts :
    State.reset.opState = .starting ∧ run12.opState ≠ .starting ∧
    Hears run12 ∧ run12.isTransferring = false ∧ Hears standing ∧
    (let s := { tallies run12 with
      dialogue := .tallying 16, carriers := 1, transmitting := some (tallyFrame run12 []) }
    s.opState ≠ .starting ∧ s.dialogue = .tallying 16 ∧ s.carriers ≠ 0 ∧ s.transmitting ≠ none) ∧
    commandOf (.frag ⟨9, 300, 1, 1, []⟩) (-60) = .peerFrag ⟨9, 300, 1, 1, []⟩ ∧
    Hears (transfer .awaitAck contextA) ∧
    (transfer .awaitAck contextA).dialogue = .transferring .awaitAck waitingA ∧ waitingA.wait = some waitA ∧
    ([.call ⟨0, 1, 0, 9, 1⟩, .ready ⟨0, 300, 3, .ready⟩, .done ⟨251, 300, 5, 0⟩, .fragAck ⟨12, 0, 1⟩,
      .refuse ⟨12, 16777215, 0, 0⟩, .offer ⟨12, 300, .any, 5, 0, 0, 3, 1, 0⟩, .tally ⟨12, 0, 0, 0, 0, []⟩,
      .frag ⟨12, 300, 1, 1, []⟩] : List AirFrame).all (fun f => !f.admissible 12) = true ∧
    (12 : StationNo) = run12.config.identity.station ∧
    receive run12.config.identity.station run12.config.identity.site [1, 2, 3, 4, 5] = none := by decide +kernel

/-- R105: a frame that began during a TALLY is sensed from the TALLY's end, and holds off the quiet wait. -/
theorem test_carrier_through_sending :
    let s := { tallies run12 with
      dialogue := .tallying 1, transmitting := some (tallyFrame run12 []) }
    let t := after .tallySent (after .carrierSensed s)
    t.carriers = 1 ∧ t.quietWait = none ∧ t.dialogue = .listening ∧ (after .carrierEnd t).quietWait = some 5 := by
  decide +kernel

/-- R29: GROUP_IDLE_TIMEOUT with 2 s on the timer leaves the group; with 0 it discards it with fault 126. -/
theorem test_idle_timer_held :
    let s := fun n => ({ run12 with group := some { lastSecond with idle := n } } : State)
    (after .groupIdleTimeout (s 2)).group = some { lastSecond with idle := 2 } ∧
    (after .groupIdleTimeout (s 0)).group = none ∧ (after .groupIdleTimeout (s 0)).latched.group = true := by
  decide +kernel

/-- `AirKeepsTheRest`: a command of the air. -/
theorem witness_AirKeepsTheRest :
    isOfAir .carrierSensed = true ∧ exec .carrierSensed State.reset = .next State.reset := ⟨rfl, rfl⟩

/-- `AirFramesReadBack`: one frame of each kind, station 251's payload and pairs at their greatest. -/
theorem witness_AirFramesReadBack :
    ∀ f ∈ ([.call ⟨1, 0, 15, 15, 255⟩, .offer ⟨1, 16777214, .any, 5, 0, 0, 27, 2, 0⟩,
        .ready ⟨250, 1, 3, .lowPower⟩, .frag ⟨250, 1, 2, 2, List.replicate 16 255⟩, .fragAck ⟨12, 1, 2⟩,
        .done ⟨12, 1, 5, 0⟩, .refuse ⟨12, 1, 0, 0⟩, .tally ⟨9, 0, 0, 1, 0, List.replicate 16 (0, 5)⟩] :
        List AirFrame), f.admissible 12 = true := by decide +kernel

/-- `AirFramesReadBack`: the bytes of a frame, and of an OFFER of base ANY with base bytes that are not 0, are
received; and those of another site, a cut frame and a broken frame check are not. -/
theorem witness_AirFramesReadBack_received :
    (let x : OfferFrame := ⟨250, 300, .any, 5, 0, 0, 3, 1, 7⟩
    let b := (AirFrame.offer x).bytes 0x1234
    let checked : List Byte := 0x21 :: 24 :: (bytesOfBits 2 (0x1234 : SiteCode) ++
      (AirFrame.offer { x with base := .version 7 }).fields)
    let r := receive 12 0x1234
    r b = some (.offer x) ∧ r (checked ++ bytesOfBits 2 (crc16 checked)) = some (.offer x) ∧
    b ≠ checked ++ bytesOfBits 2 (crc16 checked) ∧
    receive 12 0x1235 b = none ∧ r (b.take 23) = none ∧ r (b.set 23 (b.getD 23 0 ^^^ 1)) = none) := by
  decide +kernel

/-- `StandoffDelayLaw`: a CALL that enters STANDING_OFF, and a clock second that leaves a standoff as it is. -/
theorem witness_StandoffDelayLaw :
    Hears oneEntry ∧ (after (.call ⟨300, 3, 0, 9, 1⟩ (-100)) oneEntry).dialogue =
      .standingOff { contextA with delayUs := 5850 } ∧
    isOfAir .clockSecond = false ∧ standing.dialogue = .standingOff contextA ∧
    (after .clockSecond standing).dialogue = .standingOff contextA := by decide +kernel

/-- `MaskDecidesFaultFlag`: a good group 4. -/
theorem witness_MaskDecidesFaultFlag :
    (takeGroup 4 (imageContents edgeConfig 4) defaultConfig).isSome = true := by decide +kernel

/-! ### Witnesses: the Price Arithmetic Unit -/

/-- A price item at the edges: the greatest price, floor and rate. -/
def edgePrice (m : Markdown) (e : Option Ending) : PriceItem := ⟨9999999, m, e, 9999999⟩

/-- `PriceLaw`: the greatest ticket price as its own floor, the rates 900, 901 and 1,000, an amount above the
ticket price, the set prices 1 and 9,999,999, an ending of 999 modulo 1,000, and a raw price below and not below
its ending. -/
theorem witness_PriceLaw :
    (∀ m ∈ [Markdown.none, .percent 900, .percent 901, .percent 1000, .amount 9999999, .amount 10000000, .set 1,
        .set 9999999],
      let p := edgePrice m (some ⟨1000, 999⟩)
      1 ≤ p.ticket ∧ p.ticket ≤ 9999999 ∧ p.floor ≤ p.ticket) ∧
    (1000 ≤ 1000 ∧ 1 ≤ 9999999 ∧ 999 < 1000) ∧ (998 < 999 ∧ 999 ≤ 999) ∧
    (computeFace { price := some (plainPrice 1999 (.amount 1379)) }).save = some 68 := by decide

/-- `UnitPriceLaw`: quantity 1 gives a price above the greatest; quantity 999,999 of basis 1 gives 0; and one in
between. A UNIT without a PRICE item; and a face of the four carried items alone. -/
theorem witness_UnitPriceLaw :
    9999999 < unitPrice (shownPrice (plainPrice 9999999 .none)) ⟨1, 100000, .perKg⟩ ∧
    unitPrice (shownPrice (plainPrice 1 .none)) ⟨999999, 1, .perKg⟩ = 0 ∧
    unitPrice (shownPrice (plainPrice 4099 .none)) ⟨750, 1000, .perL⟩ = 5465 ∧
    (computeNotes { unit := some ⟨750, 1000, .perL⟩ }).unitNoPrice = true ∧
    computeFace { badge := some .new, stock := some .low, ends := some 9, locate := some 60 } =
      { badge := some .new, stock := some .low, ends := some 9, locate := some 60 } := by decide

/-- `DeliveredFaceFitsModel`: a shown price just too wide; a was-price and a unit price just too wide, on models
that show them and that do not; and a face without a price. -/
theorem witness_DeliveredFaceFitsModel :
    fit { price := some 10000 } { defaultModel with priceDigits := 4 } = none ∧
    (fit faceA defaultModel).isSome = true ∧
    (∀ shows ∈ [true, false],
      (fit { price := some 9999, was := some 10000, save := some 1, unit := some (.perL, 1000) }
        ⟨4, 3, ⟨shows, shows, shows, false, false, false, false⟩⟩).isSome = true) ∧
    (fit { badge := some .sale } { defaultModel with unitDigits := 0 }).isSome = true := by decide

/-! ### Witnesses: what every step keeps -/

/-- The station in a transfer with one entry, a fault latched, a group and an overrun pending. -/
def busyStation : State :=
  { withGroup [recordA 300 (.version 5) 6] (transfer .awaitAck contextA) with
    dialogue := .transferring .awaitAck { waitingA with covered := 992 }
    latched := { noKinds with delivery := true }, firstFault := some ⟨.d203, 300, 0, 40, 99000⟩
    holding := [frameA, frameA], response := some responseA, overrun := some ⟨0x32, 2⟩
    pending := [.clockSecond] }

/-- The decidable laws of `StepKeepsSilence`, `StepKeepsControl`, `StepKeepsBounds`, `FirstFaultLogLaw`,
`StepKeepsEntries` and `StepKeepsRoster` hold of a busy station. -/
theorem witness_StepKeeps :
    StartingIsEmpty busyStation ∧ HaltedIsSilent busyStation ∧ BudgetWithinCapacity busyStation ∧
    StopFaultHalts busyStation ∧ RunIsNumbered busyStation ∧ ConfigsInRange busyStation ∧
    QueuesWithinBounds busyStation ∧ OverrunWaits busyStation ∧ LogMatchesLatched busyStation ∧
    BookIsKeyed busyStation ∧ EntriesKeepLaw busyStation ∧ ClosingListHolds busyStation ∧
    RosterIsKeyed busyStation ∧ AutoloadInStarting busyStation ∧ QuietWaitFollows busyStation := by
  refine ⟨?_, ?_, ?_, ?_, ?_, ?_, ?_, ?_, ?_, ?_, ?_, ?_, ?_, ?_, ?_⟩ <;> decide +kernel

/-- `StepKeepsClosingAndTransfer`: the busy station's entry is the one in transfer (and, above, no quiet wait
runs). -/
theorem witness_TransferHasEntry : TransferHasEntry busyStation := by
  show (∃ e ∈ busyStation.book, e.slot = 0 ∧ e.label = 300 ∧ e.target = 5 ∧ e.state = .inTransfer) ∧
    (∀ e ∈ busyStation.book, e.state = .inTransfer → e.slot = 0)
  decide +kernel

/-- `StepKeepsEngine`: the busy station waits for the FRAG ACK of its one fragment of two bytes. -/
theorem witness_EngineAgrees : EngineAgrees busyStation := by
  show contextA.face.length ≤ 27 ∧ 1 ≤ contextA.fragment ∧ contextA.fragment ≤ fragmentCount contextA.face ∧
    contextA.resends ≤ 2 ∧ (busyStation.transmitting.isSome = false ∧ (some waitA).isSome = true ∧
      992 = offerAirtime + fragmentsBefore contextA.face (contextA.fragment + 1))
  decide +kernel

/-- Every command of the invariants has a next state from the busy station. -/
theorem witness_StepAnswers : ∃ t, step busyStation = .next t := ⟨_, rfl⟩

end Sys2Proof.Tests
end

section
/-! Requests that a block answers without touching the link, and ABORT GROUP (R30). -/

namespace Sys2Proof.Machine

/-! ### Answered requests -/

/-- Outside STARTING, a request whose block answers `a` and leaves `t`, with the holding as it found it, ends
with that answer in progress over `t` (R162, R166). -/
theorem exec_eq_answered {i : Instr} {f : LinkFrame} {a : Answer} {s t : State}
    (hf : requestFrame i = some f) (hs : s.opState ≠ .starting) (ht : t.holding = s.holding)
    (hact : requestAct i { s with holding := f :: s.holding.tail } =
      ({ t with holding := f :: s.holding.tail }, a)) :
    exec i s = .next (answered i a t) := by
  rw [exec_of_request hf, serve_acts hs, hact, answered_eq hf, ht]
  rfl

/-! ### ABORT GROUP -/

/-- With a group open, the descriptor, the gathering area and the idle timer go together (R30). -/
theorem abortGroupAct_of_open {s : State} (h : s.group ≠ none) :
    abortGroupAct s = ({ s with group := none }, ⟨.ok, .none⟩) := by
  obtain ⟨g, hg⟩ := Option.ne_none_iff_exists'.mp h
  simp [abortGroupAct, hg, closeTheGroup, plain]

/-- With no group open, the refusal changes nothing (R30). -/
theorem abortGroupAct_of_none {s : State} (h : s.group = none) :
    abortGroupAct s = (s, ⟨.wrongState, .none⟩) := by
  simp [abortGroupAct, h, plain]

/-- Settles O21: the action leaves the holding alone in both cases, so its answer is the response in progress. -/
theorem abortGroupResult : Obligations.AbortGroupResult := by
  unfold Obligations.AbortGroupResult
  refine ⟨rfl, fun s hs => ⟨fun hopen => ?_, fun hnone => ?_⟩⟩
  · exact exec_eq_answered rfl hs rfl (abortGroupAct_of_open hopen)
  · exact exec_eq_answered rfl hs rfl (abortGroupAct_of_none hnone)

end Sys2Proof.Machine
end

section
/-! The standoff delay (R106): its value, the CALL that fixes it, and the commands that leave it alone.
`StandoffKept s t` says that a standoff of `t` goes on from one of `s` with its delay; it chains along a
command's operations, and every command outside the air has it. -/

namespace Sys2Proof.Machine

/-! ### The value of the delay -/

/-- The signal term is the floored quotient of R106: it never truncates a negative value. -/
theorem signalTerm_cast (rssi : Int) :
    (signalTerm rssi : Int) = (-40 - max (-100) (min rssi (-40))) / 4 := by
  unfold signalTerm
  omega

theorem signalTerm_le (rssi : Int) : signalTerm rssi ≤ 15 := by
  unfold signalTerm
  omega

theorem laneTerm_eq (lane : Lane) : laneTerm lane = if lane = .urgent then 0 else 8 := by
  cases lane <;> rfl

theorem laneTerm_le (lane : Lane) : laneTerm lane ≤ 8 := by
  cases lane <;> decide

/-- Ticks and jitter are both whole multiples of 25 µs, and so is the cap. -/
theorem standoffDelay_mod (station : StationNo) (lane : Lane) (rssi : Int) (attempts : Nat) :
    standoffDelay station lane rssi attempts % 25 = 0 := by
  unfold standoffDelay
  omega

/-- With at most 5 attempts the greatest delay is 8 + 15 + 5 ticks and the greatest jitter. -/
theorem standoffDelay_le (station : StationNo) (lane : Lane) (rssi : Int) {attempts : Nat}
    (h : attempts ≤ 5) : standoffDelay station lane rssi attempts ≤ 7175 := by
  have hl := laneTerm_le lane
  have hs := signalTerm_le rssi
  unfold standoffDelay
  omega

/-! ### Where a standoff goes on -/

/-- A standoff of `t` goes on from one of `s`, and its delay is the same. -/
def StandoffKept (s t : State) : Prop :=
  ∀ c', t.dialogue = .standingOff c' → ∃ c, s.dialogue = .standingOff c ∧ c'.delayUs = c.delayUs

theorem StandoffKept.of_dialogue_eq {s t : State} (h : t.dialogue = s.dialogue) : StandoffKept s t :=
  fun c' hc => ⟨c', h ▸ hc, rfl⟩

theorem StandoffKept.refl (s : State) : StandoffKept s s := .of_dialogue_eq rfl

theorem StandoffKept.of_listening {s t : State} (h : t.dialogue = .listening) : StandoffKept s t :=
  fun c' hc => by simp [h] at hc

theorem StandoffKept.of_transferring {s t : State} {p : Phase} {c : TransferContext}
    (h : t.dialogue = .transferring p c) : StandoffKept s t := fun c' hc => by simp [h] at hc

theorem StandoffKept.trans {s t u : State} (h₁ : StandoffKept s t) (h₂ : StandoffKept t u) :
    StandoffKept s u := by
  intro c' hu
  obtain ⟨c, ht, hc⟩ := h₂ c' hu
  obtain ⟨b, hs, hb⟩ := h₁ c ht
  exact ⟨b, hs, hc.trans hb⟩

theorem BookChanges.dialogue {s t : State} (h : BookChanges s t) : t.dialogue = s.dialogue := by
  obtain ⟨_, _, hd, _⟩ := h.keeps
  exact hd

theorem BookChanges.standoff {s t : State} (h : BookChanges s t) : StandoffKept s t :=
  .of_dialogue_eq h.dialogue

/-! ### The Engine's shared operations -/

theorem endTransfer_dialogue (p : Phase) (c : TransferContext) (o : TransferOutcome) (held : Version)
    (s : State) : (endTransfer p c o held s).dialogue = .listening := rfl

theorem cutWork_dialogue (s : State) : (cutWork s).dialogue = .listening := by
  unfold cutWork
  split <;> rfl

/-- A halt that is taken ends the dialogue (R141); otherwise nothing but the halt changes. -/
theorem takeHalt_cases (s : State) :
    (takeHalt s).dialogue = .listening ∨ takeHalt s = { s with halt := (takeHalt s).halt } := by
  unfold takeHalt
  split
  · split
    case h_1 | h_2 | h_3 => exact .inl (cutWork_dialogue _)
    case h_4 | h_5 => exact .inr rfl
  · exact .inr rfl

/-- A standoff found at a command's end was there before it, and the book is the same. -/
theorem settle_of_standingOff {s : State} {c : TransferContext} (h : (settle s).dialogue = .standingOff c) :
    s.dialogue = .standingOff c ∧ (settle s).book = s.book := by
  rcases takeHalt_cases s with hl | he
  · simp [settle, hl] at h
  · simp only [settle, settleQuiet_dialogue, settleQuiet_book] at h ⊢
    rw [he] at h ⊢
    exact ⟨h, rfl⟩

theorem settle_standoff (s : State) : StandoffKept s (settle s) :=
  fun c' h => ⟨c', (settle_of_standingOff h).1, rfl⟩

theorem waitExpires_standoff (p : Phase) (c : TransferContext) (s : State) :
    StandoffKept s (waitExpires p c s) := by
  unfold waitExpires
  split
  · exact .of_listening (endTransfer_dialogue ..)
  · exact .refl s
  · split
    · exact .of_transferring (p := .sending true) rfl
    · exact .of_listening (endTransfer_dialogue ..)
  · exact .of_listening (endTransfer_dialogue ..)

/-- A frame that no phase awaits begins no standoff. -/
theorem unawaited_standoff (s : State) : StandoffKept s (unawaited s) := by
  unfold unawaited
  split
  · split
    · split
      · split
        · exact waitExpires_standoff _ _ s
        · exact .of_transferring rfl
      · exact .refl s
    · exact .refl s
  · exact .refl s

/-! ### A CALL that enters STANDING_OFF -/

/-- The delay of a standoff of `t` is that of R106 for the level `rssi`, from the attempts and the lane of the
entry in the context's slot, which is an entry of label `l`. -/
def DelayIsFixed (l : LabelAddr) (rssi : Int) (t : State) : Prop :=
  ∀ c, t.dialogue = .standingOff c → ∃ e, t.entryAt c.slot = some e ∧ e.label = l ∧ c.lane = e.lane ∧
    c.delayUs = standoffDelay t.config.identity.station c.lane rssi e.attempts

theorem DelayIsFixed.of_listening {l : LabelAddr} {rssi : Int} {t : State} (h : t.dialogue = .listening) :
    DelayIsFixed l rssi t := fun c hc => by simp [h] at hc

/-- Where the slot of an entry is occupied, a change of that entry is what the slot then holds. -/
theorem entryAt_setEntry {s : State} {e x : Entry} (hx : x ∈ s.book) (hs : x.slot = e.slot) :
    (s.setEntry e).entryAt e.slot = some e := by
  have hsome : ((s.setEntry e).entryAt e.slot).isSome := by
    simp only [State.entryAt, List.find?_isSome]
    exact ⟨e, List.mem_map.mpr ⟨x, hx, if_pos hs⟩, beq_self_eq_true _⟩
  obtain ⟨y, hy⟩ := Option.isSome_iff_exists.mp hsome
  obtain ⟨z, _, rfl⟩ := List.mem_map.mp (List.mem_of_find?_eq_some hy)
  have hslot := List.find?_some hy
  by_cases hz : z.slot = e.slot
  · rw [hy, if_pos hz]
  · simp [hz] at hslot

/-- The label map gives an entry of the book, of that label. -/
theorem entryOf_some {s : State} {l : LabelAddr} {e : Entry} (h : s.entryOf l = some e) :
    e ∈ s.book ∧ e.label = l :=
  ⟨List.mem_of_find?_eq_some h, by simpa using List.find?_some h⟩

/-- The budget test of the entry in its own slot fixes the delay from that entry (R83, R106). -/
theorem budgetTest_fixes {e : Entry} {s : State} (hd : s.dialogue = .listening)
    (he : s.entryAt e.slot = some e) (face : List Byte) (rssi : Int) :
    DelayIsFixed e.label rssi (budgetTest e face rssi s) := by
  unfold budgetTest enterStandoff
  split
  · split
    · rintro c ⟨⟩
      exact ⟨e, he, rfl, rfl, rfl⟩
    · exact .of_listening hd
  · exact .of_listening hd

theorem offerDecision_fixes {f : CallFrame} {e : Entry} {s : State} (hd : s.dialogue = .listening)
    (he : s.entryOf f.label = some e) (rssi : Int) :
    DelayIsFixed f.label rssi (offerDecision f rssi e s) := by
  obtain ⟨hmem, hlabel⟩ := entryOf_some he
  unfold offerDecision
  split
  · split
    · rename_i n _
      rw [← hlabel]
      have hat : (s.setEntry (withFit n e)).entryAt (withFit n e).slot = some (withFit n e) :=
        entryAt_setEntry hmem rfl
      exact budgetTest_fixes (s := s.setEntry (withFit n e)) hd hat _ rssi
    · exact .of_listening ((enterHeld_changes e s).dialogue.trans hd)
  · exact .of_listening ((enterClosing_changes ..).dialogue.trans hd)

theorem heldDecision_changes (f : CallFrame) (e : Entry) (s : State) :
    BookChanges s (heldDecision f e s) := by
  unfold heldDecision
  split
  · exact refit_changes ..
  · exact .refl s

theorem thirdDecision_fixes {s : State} (hd : s.dialogue = .listening) (f : CallFrame) (rssi : Int) :
    DelayIsFixed f.label rssi (thirdDecision f rssi s) := by
  unfold thirdDecision
  split
  · rename_i e he
    split
    · exact offerDecision_fixes hd he rssi
    · exact .of_listening hd
  · exact .of_listening hd

theorem evaluateCall_fixes {s : State} (hd : s.dialogue = .listening) (f : CallFrame) (rssi : Int) :
    DelayIsFixed f.label rssi (evaluateCall f rssi s) := by
  unfold evaluateCall
  split
  · split
    · exact .of_listening ((enterClosing_changes ..).dialogue.trans hd)
    · exact thirdDecision_fixes ((heldDecision_changes ..).dialogue.trans hd) f rssi
  · exact .of_listening hd

/-- The Roster's part of a CALL leaves the dialogue. -/
theorem rosterCall_dialogue (f : CallFrame) (rssi : Int) (busy : Bool) (s : State) :
    (rosterCall f rssi busy s).dialogue = s.dialogue := by
  obtain ⟨_, ⟨_, rfl⟩, hb⟩ := rosterCall_changes f rssi busy s
  exact hb.dialogue

/-- Nothing stands off in `s`. -/
def NoStandoff (s : State) : Prop := ∀ c, s.dialogue ≠ .standingOff c

/-- Where nothing stood off, nothing does after what keeps the standoffs. -/
theorem StandoffKept.fixes {s t : State} (h : StandoffKept s t) (hn : NoStandoff s) (l : LabelAddr)
    (rssi : Int) : DelayIsFixed l rssi t := by
  intro c hc
  obtain ⟨b, hb, _⟩ := h c hc
  exact absurd hb (hn b)

/-- A frame's end stops any standoff (R107). -/
theorem frameHeard_noStandoff (s : State) : NoStandoff (frameHeard s) := by
  intro c
  cases hd : s.dialogue <;> simp [frameHeard, standDown, hd]

theorem callReceived_fixes {s : State} (hn : NoStandoff s) (f : CallFrame) (rssi : Int) :
    DelayIsFixed f.label rssi (callReceived f rssi s) := by
  have hr := rosterCall_dialogue f rssi s.isTransferring s
  unfold callReceived
  dsimp only
  split
  · rename_i hl
    exact evaluateCall_fixes (by simpa [State.isListening] using hl) f rssi
  · exact ((StandoffKept.of_dialogue_eq hr).trans (unawaited_standoff _)).fixes hn f.label rssi

/-- The end of a command keeps what a standoff's delay was fixed from. -/
theorem settle_fixes {l : LabelAddr} {rssi : Int} {s : State} (h : DelayIsFixed l rssi s) :
    DelayIsFixed l rssi (settle s) := by
  intro c hc
  obtain ⟨hd, hb⟩ := settle_of_standingOff hc
  obtain ⟨_, ⟨hconfig, _⟩, _⟩ := (settle_changes s).air.keeps
  obtain ⟨e, he, hlabel, hlane, hdelay⟩ := h c hd
  refine ⟨e, ?_, hlabel, hlane, ?_⟩
  · rw [← he, State.entryAt, State.entryAt, hb]
  · rw [hconfig]
    exact hdelay

/-- A CALL's end, where the station hears it (R106). -/
theorem call_fixes {s : State} (h : Hears s) (f : CallFrame) (rssi : Int) :
    DelayIsFixed f.label rssi (frameEnds (.call f) rssi s) := by
  obtain ⟨hop, htx, _, _⟩ := h
  have hear : s.canHear = true := by simp [State.canHear, hop, htx]
  have hn := frameHeard_noStandoff s
  unfold frameEnds
  rw [if_pos hear]
  apply settle_fixes
  split
  · exact callReceived_fixes hn f rssi
  · exact (unawaited_standoff _).fixes hn f.label rssi

/-! ### The requests -/

theorem gathererRefuses_standoff (d : Detail) (l : LabelAddr) (b : Byte) (g : GroupNo) (s : State) :
    StandoffKept s (gathererRefuses d l b g s).1 :=
  (latch_changes d l b g s).book.standoff.trans (settle_standoff _)

theorem restartIdle_standoff (s : State) : StandoffKept s (restartIdle s) := .of_dialogue_eq rfl

theorem closeTheGroup_standoff (s : State) : StandoffKept s (closeTheGroup s) := .of_dialogue_eq rfl

theorem openGroupAct_standoff (n : GroupNo) (time : StoreTime) (cls : Byte) (s : State) :
    StandoffKept s (openGroupAct n time cls s).1 := by
  unfold openGroupAct
  split
  · exact (restartIdle_standoff s).trans (gathererRefuses_standoff _ _ _ _ _)
  · split
    · split
      · exact gathererRefuses_standoff _ _ _ _ s
      · exact .of_dialogue_eq rfl
    · exact gathererRefuses_standoff _ _ _ _ s

theorem recordAct_standoff (body : List Byte) (s : State) : StandoffKept s (recordAct body s).1 := by
  unfold recordAct
  split
  · exact gathererRefuses_standoff _ _ _ _ s
  · split
    · exact (restartIdle_standoff s).trans (gathererRefuses_standoff _ _ _ _ _)
    · split
      · exact (restartIdle_standoff s).trans (gathererRefuses_standoff _ _ _ _ _)
      · exact .of_dialogue_eq rfl

/-- A fold marks the standoff whose entry it touches and leaves its delay (R85). -/
theorem applyFold_standoff (g : OpenGroup) (v : FoldView) (s : State) : StandoffKept s (applyFold g v s) := by
  have marked : ∀ t : State, t.dialogue = markTouched (v.changed ++ v.fresh.map (fun n => n.label)) s.dialogue →
      StandoffKept s t := by
    intro t ht c' hc
    cases hd : s.dialogue <;> simp only [ht, hd, markTouched] at hc
    case standingOff c =>
      refine ⟨c, rfl, ?_⟩
      split at hc <;> cases hc <;> rfl
    all_goals cases hc
  unfold applyFold
  exact (marked _ rfl).trans (BookChanges.foldl (afterTouch_changes s) _ _).standoff

theorem foldGroup_standoff (g : OpenGroup) (s : State) : StandoffKept s (foldGroup g s).1 := by
  unfold foldGroup
  split
  · exact (closeTheGroup_standoff s).trans (gathererRefuses_standoff _ _ _ _ _)
  · exact (closeTheGroup_standoff s).trans (gathererRefuses_standoff _ _ _ _ _)
  · exact .of_dialogue_eq rfl
  · split
    · exact (closeTheGroup_standoff s).trans ((applyFold_standoff _ _ _).trans (settle_standoff _))
    · exact (restartIdle_standoff s).trans (gathererRefuses_standoff _ _ _ _ _)

theorem closeGroupAct_standoff (n : GroupNo) (count : BitVec 16) (s : State) :
    StandoffKept s (closeGroupAct n count s).1 := by
  unfold closeGroupAct
  split
  · exact gathererRefuses_standoff _ _ _ _ s
  · split
    · exact (restartIdle_standoff s).trans (gathererRefuses_standoff _ _ _ _ _)
    · split
      · exact (closeTheGroup_standoff s).trans (gathererRefuses_standoff _ _ _ _ _)
      · exact foldGroup_standoff _ s

theorem abortGroupAct_standoff (s : State) : StandoffKept s (abortGroupAct s).1 := by
  unfold abortGroupAct
  split <;> exact .of_dialogue_eq rfl

theorem setClock_dialogue (v : StoreTime) (s : State) : (setClock v s).dialogue = s.dialogue :=
  (evaluateAll_changes _).dialogue

theorem setTimeAct_standoff (v : StoreTime) (s : State) : StandoffKept s (setTimeAct v s).1 :=
  (StandoffKept.of_dialogue_eq (setClock_dialogue v s)).trans (settle_standoff _)

theorem startAct_standoff (s : State) : StandoffKept s (startAct s).1 := by
  unfold startAct
  split
  · exact .refl s
  · split
    · exact .refl s
    · split
      · exact .refl s
      · exact .of_dialogue_eq rfl

theorem pauseAct_standoff (s : State) : StandoffKept s (pauseAct s).1 := by
  unfold pauseAct
  split <;> exact .of_dialogue_eq rfl

theorem resumeAct_standoff (s : State) : StandoffKept s (resumeAct s).1 := by
  unfold resumeAct
  split <;> exact .of_dialogue_eq rfl

theorem stopAct_standoff (s : State) : StandoffKept s (stopAct s).1 := by
  unfold stopAct
  split <;> exact .of_dialogue_eq rfl

theorem takeReportsAct_standoff (n : Byte) (s : State) : StandoffKept s (takeReportsAct n s).1 :=
  (takeRoom_changes _ s).standoff.trans (settle_standoff _)

theorem readEntryAct_standoff (selector : Byte) (address : LabelAddr) (s : State) :
    StandoffKept s (readEntryAct selector address s).1 := by
  unfold readEntryAct
  split <;> split <;> exact .refl s

theorem withdrawAct_standoff (l : LabelAddr) (s : State) : StandoffKept s (withdrawAct l s).1 := by
  unfold withdrawAct
  split
  · exact .refl s
  · split
    case h_1 | h_2 => exact .refl s
    case h_3 | h_4 | h_5 => split <;> exact .of_dialogue_eq rfl

/-- Every request's action leaves a standoff's delay. -/
theorem requestAct_standoff (i : Instr) (s : State) : StandoffKept s (requestAct i s).1 := by
  cases i with
  | setTime v => exact setTimeAct_standoff v s
  | openGroup g t c => exact openGroupAct_standoff g t c s
  | record body => exact recordAct_standoff body s
  | closeGroup g n => exact closeGroupAct_standoff g n s
  | abortGroup => exact abortGroupAct_standoff s
  | start => exact startAct_standoff s
  | pause => exact pauseAct_standoff s
  | resume => exact resumeAct_standoff s
  | stop => exact stopAct_standoff s
  | takeReports n => exact takeReportsAct_standoff n s
  | readEntry selector address => exact readEntryAct_standoff selector address s
  | withdraw l => exact withdrawAct_standoff l s
  | _ => exact .of_dialogue_eq rfl

/-! ### The batch link -/

theorem serve_standoff (f : LinkFrame) {act : State → State × Answer}
    (h : ∀ s, StandoffKept s (act s).1) (s : State) : StandoffKept s (serve f act s) := by
  unfold serve
  dsimp only
  split
  · exact .of_dialogue_eq rfl
  · exact h { s with holding := f :: s.holding.tail }

theorem takeFrame_standoff (f : LinkFrame) (s : State) : StandoffKept s (takeFrame f s) := by
  unfold takeFrame
  split
  · exact .of_dialogue_eq rfl
  · split
    · exact .of_dialogue_eq rfl
    · split
      case h_1 | h_2 => exact .of_dialogue_eq rfl
      case h_3 => exact requestAct_standoff _ s

theorem offerFrameToHolding_standoff (f : LinkFrame) (s : State) :
    StandoffKept s (offerFrameToHolding f s) := by
  unfold offerFrameToHolding
  split
  · split <;> exact .of_dialogue_eq rfl
  · dsimp only
    split
    · exact takeFrame_standoff f { s with holding := s.holding ++ [f] }
    · exact .of_dialogue_eq rfl

theorem receiveByte_standoff (b : Byte) (stopBit : Bool) (s : State) :
    StandoffKept s (receiveByte b stopBit s) := by
  unfold receiveByte
  split
  · split <;> exact .of_dialogue_eq rfl
  · dsimp only
    split
    · exact .of_dialogue_eq rfl
    · exact offerFrameToHolding_standoff _ { s with receiver := .hunting }

theorem responseEnds_standoff (r : Response) (s : State) : StandoffKept s (responseEnds r s) := by
  have owed : ∀ t : State, (overrunIfOwed t).dialogue = t.dialogue := by
    intro t
    unfold overrunIfOwed
    split
    · split <;> rfl
    · rfl
  unfold responseEnds
  dsimp only
  split
  · exact .of_dialogue_eq rfl
  · exact .of_dialogue_eq (owed _)

/-! ### Time -/

theorem expireGroup_dialogue (s : State) : (expireGroup s).dialogue = s.dialogue := by
  unfold expireGroup
  split <;> rfl

theorem idleSecond_dialogue (s : State) : (idleSecond s).dialogue = s.dialogue := by
  unfold idleSecond
  split
  · split
    · exact expireGroup_dialogue s
    · rfl
  · rfl

theorem blocksSecond_dialogue (s : State) : (blocksSecond s).dialogue = s.dialogue := by
  have hab : (idleSecond (bookSecond s)).dialogue = s.dialogue :=
    (idleSecond_dialogue _).trans (bookSecond_changes s).dialogue
  have hba : (bookSecond (idleSecond s)).dialogue = s.dialogue :=
    (bookSecond_changes _).dialogue.trans (idleSecond_dialogue s)
  have either : (eitherOrder (idleSecond (bookSecond s)) (bookSecond (idleSecond s))).dialogue =
      s.dialogue := by
    rcases eitherOrder_cases (idleSecond (bookSecond s)) (bookSecond (idleSecond s)) with h | h
    · rw [h]; exact hab
    · rw [h]; exact hba
  exact either

/-! ### Every command outside the air -/

/-- The next state of a command's outcome keeps the standoffs of `s`. -/
abbrev OutcomeKeepsStandoff (s : State) (o : Host.Outcome State Fault Refusal) : Prop :=
  ∀ t, o = .next t → StandoffKept s t

theorem OutcomeKeepsStandoff.next {s t : State} (h : StandoffKept s t) :
    OutcomeKeepsStandoff s (.next t) := by
  rintro _ ⟨⟩
  exact h

theorem execLineResetRelease_standoff (s : State) : OutcomeKeepsStandoff s (execLineResetRelease s) := by
  unfold execLineResetRelease
  split <;> exact .next (.of_dialogue_eq rfl)

theorem execHeaderRead_standoff (signature : BitVec 16) (count : Byte) (s : State) :
    OutcomeKeepsStandoff s (execHeaderRead signature count s) := by
  unfold execHeaderRead
  split
  · split <;> exact .next (.of_dialogue_eq rfl)
  · exact .next (.refl s)

theorem afterGroup_dialogue (k count : Nat) (p : StationConfig) (s : State) :
    (afterGroup k count p s).dialogue = s.dialogue := by
  unfold afterGroup
  split <;> rfl

theorem execGroupRead_standoff (length : Byte) (contents : List Byte) (sumCheck : BitVec 16) (s : State) :
    OutcomeKeepsStandoff s (execGroupRead length contents sumCheck s) := by
  unfold execGroupRead
  split
  · split
    · split <;> exact .next (.of_dialogue_eq (afterGroup_dialogue ..))
    · exact .next (.of_dialogue_eq rfl)
  · exact .next (.refl s)

theorem execConfigReadTimeout_standoff (s : State) : OutcomeKeepsStandoff s (execConfigReadTimeout s) := by
  unfold execConfigReadTimeout
  split
  · exact .next (.of_dialogue_eq rfl)
  · exact .next (.refl s)

theorem execClockSecond_standoff (s : State) : OutcomeKeepsStandoff s (execClockSecond s) := by
  have hd : (blocksSecond { s with clock := s.clock + 1, timebase := 0 }).dialogue = s.dialogue :=
    blocksSecond_dialogue _
  unfold execClockSecond
  dsimp only
  split
  · exact .next (.of_dialogue_eq rfl)
  · exact .next ((StandoffKept.of_dialogue_eq hd).trans (settle_standoff _))

theorem execGroupIdleTimeout_standoff (s : State) : OutcomeKeepsStandoff s (execGroupIdleTimeout s) := by
  unfold execGroupIdleTimeout
  split
  · exact .next ((StandoffKept.of_dialogue_eq (expireGroup_dialogue s)).trans (settle_standoff _))
  · exact .next (.refl s)

theorem execResponseSent_standoff (s : State) : OutcomeKeepsStandoff s (execResponseSent s) := by
  unfold execResponseSent
  split
  · exact .next (responseEnds_standoff _ s)
  · exact .next (.refl s)

theorem execHeldFrameTaken_standoff (s : State) : OutcomeKeepsStandoff s (execHeldFrameTaken s) := by
  unfold execHeldFrameTaken
  split
  · exact .next (takeFrame_standoff _ s)
  · exact .next (.refl s)

theorem execClosingListDrain_standoff (s : State) : OutcomeKeepsStandoff s (execClosingListDrain s) :=
  .next ((drainClosing_changes s).standoff.trans (settle_standoff _))

/-- No command outside the air begins a standoff or changes the delay of one that goes on. -/
theorem exec_standoff {i : Instr} (h : isOfAir i = false) (s : State) : OutcomeKeepsStandoff s (exec i s) := by
  cases hf : requestFrame i with
  | some f =>
    rw [exec_of_request hf]
    exact .next (serve_standoff f (requestAct_standoff i) s)
  | none =>
    cases i with
    | coldStart => exact .next (.of_listening rfl)
    | lineReset => exact .next (.of_listening rfl)
    | lineResetRelease => exact execLineResetRelease_standoff s
    | headerRead signature count => exact execHeaderRead_standoff signature count s
    | groupRead length contents sumCheck => exact execGroupRead_standoff length contents sumCheck s
    | configReadTimeout => exact execConfigReadTimeout_standoff s
    | clockSecond => exact execClockSecond_standoff s
    | yieldEnd => exact .next (.of_dialogue_eq rfl)
    | groupIdleTimeout => exact execGroupIdleTimeout_standoff s
    | tallyPeriodEnd => exact .next (.of_dialogue_eq rfl)
    | batchFrameEnd frame => exact .next (offerFrameToHolding_standoff frame { s with receiver := .hunting })
    | linkLoss => exact .next (.of_dialogue_eq rfl)
    | responseSent => exact execResponseSent_standoff s
    | heldFrameTaken => exact execHeldFrameTaken_standoff s
    | closingListDrain => exact execClosingListDrain_standoff s
    | batchByteReceived byte stopBit => exact .next (receiveByte_standoff byte stopBit s)
    | status | setTime | openGroup | record | closeGroup | abortGroup | start | pause | resume | stop
    | clearFaults | takeReports | readEntry | readRoster | withdraw | setAttention | resetPort => cases hf
    | airFrameDiscarded | frameStart | carrierSensed | carrierEnd | call | standoffEnd | offerSent | ready
    | readyWaitExpiry | fragSent | fragAck | ackWaitExpiry | done | doneWaitExpiry | refuse | peerOffer
    | peerFrag | peerTally | quietWaitEnd | tallySent => cases h

/-! ### The law -/

/-- Settles O48: the terms are bounded one by one, the CALL's own evaluation fixes the delay, and every other
command keeps the context of a standoff but for its mark. -/
theorem standoffDelayLaw : Obligations.StandoffDelayLaw := by
  unfold Obligations.StandoffDelayLaw
  refine ⟨fun station lane rssi attempts => ?_, ?_, ?_⟩
  · have hsignal := signalTerm_le rssi
    have hlane := laneTerm_le lane
    refine ⟨signalTerm rssi, signalTerm_cast rssi, hsignal, ?_⟩
    rw [← laneTerm_eq]
    refine ⟨by omega, by omega, rfl, standoffDelay_mod .., standoffDelay_le station lane rssi, ?_⟩
    intro hcap
    omega
  · rintro f rssi c s t hears ⟨⟩ hc
    obtain ⟨e, he, hlabel, hlane, hdelay⟩ := call_fixes hears f rssi c hc
    obtain ⟨_, ⟨hconfig, _⟩, _⟩ := (frameEnds_changes (.call f) rssi s).keeps
    exact ⟨e, he, hlabel, hlane, hconfig ▸ hdelay⟩
  · intro i c c' s t hair ht hs ht'
    obtain ⟨b, hb, hdelay⟩ := exec_standoff hair s t ht c' ht'
    cases hs.symm.trans hb
    exact hdelay

end Sys2Proof.Machine
end

section
/-! Fault kinds, and the mask of a kind (R149): what a test over the latched set asks, what `latch` does to the
latched set and its log, and where the masks are read. -/

namespace Sys2Proof.Machine

/-! ### Sets of kinds -/

@[simp] theorem PerKind.get_map {α β : Type} (f : α → β) (p : PerKind α) (k : FaultKind) :
    (p.map f).get k = f (p.get k) := by
  cases k <;> rfl

@[simp] theorem PerKind.get_noKinds (k : FaultKind) : noKinds.get k = false := by
  cases k <;> rfl

@[simp] theorem PerKind.get_insert (p : PerKind Bool) (k j : FaultKind) :
    (p.insert k).get j = (decide (j = k) || p.get j) := by
  cases k <;> cases j <;> rfl

/-- A set that holds a kind is not empty. -/
theorem PerKind.ne_noKinds_of_get {p : PerKind Bool} {k : FaultKind} (h : p.get k = true) : p ≠ noKinds := by
  rintro rfl
  simp at h

theorem PerKind.isEmpty_iff {p : PerKind Bool} : p.isEmpty = true ↔ p = noKinds := by
  simp [PerKind.isEmpty]

theorem PerKind.anyWith_iff {p test : PerKind Bool} :
    p.anyWith test = true ↔ ∃ k, p.get k = true ∧ test.get k = true := by
  simp only [PerKind.anyWith, Bool.or_eq_true, Bool.and_eq_true]
  constructor
  · rintro (((((h | h) | h) | h) | h) | h)
    · exact ⟨.recordForm, h⟩
    · exact ⟨.recordRange, h⟩
    · exact ⟨.group, h⟩
    · exact ⟨.book, h⟩
    · exact ⟨.delivery, h⟩
    · exact ⟨.config, h⟩
  · rintro ⟨k, h⟩
    cases k <;> simp only [PerKind.get] at h <;> simp [h]

/-! ### A fault taken -/

/-- With the set empty the capture is armed (R146). -/
theorem latch_firstFault_of_empty {s : State} (h : s.latched = noKinds) (d : Detail) (l : LabelAddr) (b : Byte)
    (g : GroupNo) : (latch d l b g s).firstFault = some ⟨d, l, b, g, s.clock⟩ :=
  if_pos (PerKind.isEmpty_iff.mpr h)

/-- With a kind latched the log stands (R146). -/
theorem latch_firstFault_of_nonempty {s : State} (h : s.latched ≠ noKinds) (d : Detail) (l : LabelAddr) (b : Byte)
    (g : GroupNo) : (latch d l b g s).firstFault = s.firstFault :=
  if_neg (mt PerKind.isEmpty_iff.mp h)

/-! ### The masks -/

/-- The cause of the FAULT flag, kind by kind (R149). -/
theorem faultAttended_iff {s : State} :
    s.faultAttended = true ↔
      ∃ k : FaultKind, s.latched.get k = true ∧ s.config.policy.mask.get k = .attended := by
  simp [State.faultAttended, PerKind.anyWith_iff]

/-- Outside STARTING the FAULT flag is its cause (R149, R156). -/
theorem flags_fault {s : State} (h : s.opState ≠ .starting) : s.flags.fault = s.faultAttended := by
  simp [State.flags, h]

/-- A group 4 that is taken gives the six masks from its bytes 6 to 11 (12.4). -/
theorem readPolicy_mask {c : List Byte} {p : Policy} (h : readPolicy c = some p) :
    p.mask = perKindAt kindMaskOf c 6 := by
  unfold readPolicy at h
  dsimp only at h
  split at h
  · cases h
    rfl
  · cases h

/-- Settles O30: the flag's cause is the test of the latched kinds against the masks, which `latch` and STATUS
never read. -/
theorem maskDecidesFaultFlag : Obligations.MaskDecidesFaultFlag := by
  unfold Obligations.MaskDecidesFaultFlag
  refine ⟨fun k => ?_, fun s hs => ?_, fun s m d l b g => ⟨rfl, rfl, rfl, rfl, rfl⟩, fun contents p q h => ?_⟩
  · cases k <;> rfl
  · rw [flags_fault hs, faultAttended_iff]
  · obtain ⟨policy, hp, rfl⟩ := Option.map_eq_some_iff.mp h
    exact readPolicy_mask hp

end Sys2Proof.Machine
end

section
/-! The first-fault log (R146). `LogKept s t` says that what happens between `s` and `t` keeps the log present
exactly while a kind is latched, and naming one; it chains along a command's operations, and the fault itself is
the one step in which it is not plain. -/

namespace Sys2Proof.Machine

/-! ### The log and the latched set -/

/-- What happens between `s` and `t` keeps the law of the first-fault log. -/
structure LogKept (s t : State) : Prop where
  law : LogMatchesLatched s → LogMatchesLatched t

/-- Where neither the latched set nor the log changes, the law stands. -/
theorem LogKept.same {s t : State} (hl : t.latched = s.latched) (hf : t.firstFault = s.firstFault) :
    LogKept s t := by
  constructor
  unfold LogMatchesLatched
  rw [hl, hf]
  exact id

theorem LogKept.refl (s : State) : LogKept s s := .same rfl rfl

theorem LogKept.trans {s t u : State} (h₁ : LogKept s t) (h₂ : LogKept t u) : LogKept s u :=
  ⟨fun h => h₂.law (h₁.law h)⟩

/-- A change of other fields before what keeps the law. -/
theorem LogKept.afterSame {s t u : State} (h : LogKept t u) (hl : t.latched = s.latched)
    (hf : t.firstFault = s.firstFault) : LogKept s u := (LogKept.same hl hf).trans h

/-- The set and the log emptied together keep the law. -/
theorem LogKept.emptied {s t : State} (hl : t.latched = noKinds) (hf : t.firstFault = none) : LogKept s t :=
  ⟨fun _ => by simp [LogMatchesLatched, hl, hf]⟩

theorem LogKept.foldl {α : Type} {f : State → α → State} (h : ∀ s a, LogKept s (f s a)) :
    ∀ (as : List α) (s : State), LogKept s (as.foldl f s)
  | [], s => .refl s
  | a :: as, s => (h s a).trans (LogKept.foldl h as (f s a))

/-- A fault keeps the law: it names its own kind in an empty log, and a log that is present still names a latched
kind. -/
theorem latch_logKept (d : Detail) (l : LabelAddr) (b : Byte) (g : GroupNo) (s : State) :
    LogKept s (latch d l b g s) := by
  constructor
  rintro ⟨hpresent, hnames⟩
  have hset : s.latched.insert d.kind ≠ noKinds := PerKind.ne_noKinds_of_get (k := d.kind) (by simp)
  by_cases he : s.latched = noKinds
  · rw [LogMatchesLatched, latch_firstFault_of_empty he]
    simp [hset]
  · rw [LogMatchesLatched, latch_firstFault_of_nonempty he]
    refine ⟨by simp [hpresent, he, hset], fun f hf => ?_⟩
    simp [hnames f hf]

theorem QueueChanges.logKept {s t : State} : QueueChanges s t → LogKept s t := by
  rintro ⟨_, _, rfl⟩
  exact .same rfl rfl

theorem RosterChanges.logKept {s t : State} : RosterChanges s t → LogKept s t := by
  rintro ⟨_, rfl⟩
  exact .same rfl rfl

/-- Either order keeps the law when both do (R148). -/
theorem eitherOrder_logKept {s a b : State} (ha : LogKept s a) (hb : LogKept s b) :
    LogKept s (eitherOrder a b) := by
  rcases eitherOrder_cases a b with h | h <;> rw [h]
  · exact ha.trans (.same rfl rfl)
  · exact hb.trans (.same rfl rfl)

/-! ### The Change Book -/

theorem eventReport_logKept (r : ReportBody) (s : State) : LogKept s (eventReport r s) :=
  (eventReport_changes r s).logKept

theorem noteLate_logKept (was : Bool) (e : Entry) (s : State) : LogKept s (noteLate was e s) := by
  unfold noteLate
  split
  · exact (latch_logKept ..).trans (eventReport_logKept ..)
  · exact .refl s

theorem evaluateAll_logKept (s : State) : LogKept s (evaluateAll s) :=
  (LogKept.foldl (fun _ _ => noteLate_logKept ..) _ _).afterSame rfl rfl

theorem closeOut_logKept (e : Entry) (r : ClosingRecord) (s : State) : LogKept s (closeOut e r s).1 := by
  unfold closeOut
  split
  · exact .same rfl rfl
  · dsimp only
    split
    · exact (latch_logKept ..).afterSame rfl rfl
    · exact .same rfl rfl

theorem reportPromoted_logKept (ns : List Entry) (s : State) : LogKept s (reportPromoted ns s) :=
  .foldl (fun _ _ => eventReport_logKept ..) _ _

theorem drainList_logKept : ∀ (ns : List Nat) (late : List Entry) (s : State),
    LogKept s (drainList ns late s).1
  | [], _, _ => .same rfl rfl
  | n :: rest, late, s => by
    unfold drainList
    split
    · split
      · split
        · exact (closeOut_logKept ..).trans (drainList_logKept ..)
        · exact drainList_logKept ..
      · exact drainList_logKept ..
    · exact .same rfl rfl

theorem drainClosing_logKept (s : State) : LogKept s (drainClosing s) :=
  (drainList_logKept ..).trans (reportPromoted_logKept ..)

theorem enterClosing_logKept (e : Entry) (o : ClosingOutcome) (d : Deliverer) (v : Version) (s : State) :
    LogKept s (enterClosing e o d v s) := by
  unfold enterClosing
  dsimp only
  split
  · exact ((closeOut_logKept ..).trans (reportPromoted_logKept ..)).afterSame rfl rfl
  · exact .same rfl rfl

theorem confirm_logKept (l : LabelAddr) (v : Version) (o : ClosingOutcome) (d : Deliverer) (s : State) :
    LogKept s (confirm l v o d s) := by
  unfold confirm
  split
  · split
    · exact enterClosing_logKept ..
    · exact .refl s
  · exact .refl s

theorem enterHeld_logKept (e : Entry) (s : State) : LogKept s (enterHeld e s) :=
  ((latch_logKept ..).trans (eventReport_logKept ..)).afterSame rfl rfl

theorem refit_logKept (m : BitVec 4) (e : Entry) (s : State) : LogKept s (refit m e s) := by
  unfold refit
  split
  · exact .same rfl rfl
  · split
    · exact .same rfl rfl
    · exact enterHeld_logKept ..

theorem recheckModel_logKept (l : LabelAddr) (m : BitVec 4) (s : State) :
    LogKept s (recheckModel l m s) := by
  unfold recheckModel
  split
  · split
    · exact refit_logKept ..
    · exact .refl s
  · exact .refl s

theorem yieldLabel_logKept (l : LabelAddr) (s : State) : LogKept s (yieldLabel l s) := by
  unfold yieldLabel
  split
  · split <;> exact .same rfl rfl
  · exact .refl s

theorem returnToWaiting_logKept (e : Entry) (s : State) : LogKept s (returnToWaiting e s) := by
  unfold returnToWaiting
  split
  · exact .same rfl rfl
  · exact (noteLate_logKept ..).afterSame rfl rfl

theorem abandon_logKept (e : Entry) (s : State) : LogKept s (abandon e s) :=
  eitherOrder_logKept ((latch_logKept ..).trans (enterClosing_logKept ..))
    ((enterClosing_logKept ..).trans (latch_logKept ..))

theorem failedTransfer_logKept (e : Entry) (s : State) : LogKept s (failedTransfer e s) := by
  unfold failedTransfer
  dsimp only
  split
  · exact abandon_logKept ..
  · exact returnToWaiting_logKept ..

theorem transferOutcome_logKept (slot : Nat) (o : TransferOutcome) (held : Version) (s : State) :
    LogKept s (transferOutcome slot o held s) := by
  unfold transferOutcome
  split
  · exact .refl s
  · cases o
    case done | current | mismatch => exact enterClosing_logKept ..
    case lowPower | cutOff => exact returnToWaiting_logKept ..
    case noAnswer | lost | uncertain | badFace => exact failedTransfer_logKept ..

/-! ### The Roster -/

theorem rosterHeard_logKept (l : LabelAddr) (v : Option Version) (rssi : Int) (s : State) :
    LogKept s (rosterHeard l v rssi s) := (rosterHeard_changes ..).logKept

theorem modelChange_logKept (f : CallFrame) (s : State) : LogKept s (modelChange f s) :=
  (latch_logKept ..).trans ((eventReport_logKept ..).trans (recheckModel_logKept ..))

theorem rosterCall_logKept (f : CallFrame) (rssi : Int) (busy : Bool) (s : State) :
    LogKept s (rosterCall f rssi busy s) := by
  unfold rosterCall
  split
  · split
    · exact .same rfl rfl
    · exact (modelChange_logKept ..).afterSame rfl rfl
  · split
    · exact .same rfl rfl
    · split <;> exact .same rfl rfl

/-! ### The Dialogue Engine -/

theorem endTransfer_logKept (p : Phase) (c : TransferContext) (o : TransferOutcome) (held : Version)
    (s : State) : LogKept s (endTransfer p c o held s) :=
  (transferOutcome_logKept c.slot o held s).trans (.same (by simp [endTransfer]) (by simp [endTransfer]))

theorem waitExpires_logKept (p : Phase) (c : TransferContext) (s : State) : LogKept s (waitExpires p c s) := by
  unfold waitExpires
  split
  · exact endTransfer_logKept ..
  · exact .refl s
  · split
    · exact .same (by simp [sendFragment]) (by simp [sendFragment])
    · exact endTransfer_logKept ..
  · exact endTransfer_logKept ..

theorem deadline_logKept (p : Phase) (c : TransferContext) (s : State) : LogKept s (deadline p c s) := by
  unfold deadline
  split
  · exact .refl s
  · split
    · exact .same rfl rfl
    · exact waitExpires_logKept ..

theorem unawaited_logKept (s : State) : LogKept s (unawaited s) := by
  unfold unawaited
  split
  · split
    · split
      · split
        · exact waitExpires_logKept ..
        · exact .same rfl rfl
      · exact .refl s
    · exact .refl s
  · exact .refl s

theorem standDown_logKept (s : State) : LogKept s (standDown s) := by
  unfold standDown
  split <;> exact .same rfl rfl

theorem frameHeard_logKept (s : State) : LogKept s (frameHeard s) :=
  (standDown_logKept s).trans (.same rfl rfl)

theorem frameLost_logKept (s : State) : LogKept s (frameLost s) := by
  unfold frameLost
  split <;> exact .same rfl rfl

theorem cutWork_logKept (s : State) : LogKept s (cutWork s) := by
  unfold cutWork
  split
  · rename_i p _ _
    have hair : LogKept s (airAtCut p s) := by
      rw [airAtCut_eq]
      exact .same rfl rfl
    exact hair.trans (endTransfer_logKept ..)
  all_goals exact .same rfl rfl

theorem takeHalt_logKept (s : State) : LogKept s (takeHalt s) := by
  have hcut : LogKept s (cutWork { s with opState := .halted }) := (cutWork_logKept _).afterSame rfl rfl
  unfold takeHalt
  split
  · split
    case h_1 | h_2 | h_3 => exact hcut.trans (.same rfl rfl)
    case h_4 | h_5 => exact .same rfl rfl
  · exact .refl s

/-- The end of a command takes no fault but those of the transfer that a halt cuts off (R141). -/
theorem settle_logKept (s : State) : LogKept s (settle s) :=
  (takeHalt_logKept s).trans (.same rfl rfl)

/-! ### Frames heard -/

theorem budgetTest_logKept (e : Entry) (face : List Byte) (rssi : Int) (s : State) :
    LogKept s (budgetTest e face rssi s) := by
  unfold budgetTest enterStandoff
  split
  · split <;> exact .same rfl rfl
  · exact .refl s

theorem offerDecision_logKept (f : CallFrame) (rssi : Int) (e : Entry) (s : State) :
    LogKept s (offerDecision f rssi e s) := by
  unfold offerDecision
  split
  · split
    · exact (budgetTest_logKept ..).afterSame rfl rfl
    · exact enterHeld_logKept ..
  · exact enterClosing_logKept ..

theorem heldDecision_logKept (f : CallFrame) (e : Entry) (s : State) : LogKept s (heldDecision f e s) := by
  unfold heldDecision
  split
  · exact refit_logKept ..
  · exact .refl s

theorem thirdDecision_logKept (f : CallFrame) (rssi : Int) (s : State) :
    LogKept s (thirdDecision f rssi s) := by
  unfold thirdDecision
  split
  · split
    · exact offerDecision_logKept ..
    · exact .refl s
  · exact .refl s

theorem evaluateCall_logKept (f : CallFrame) (rssi : Int) (s : State) : LogKept s (evaluateCall f rssi s) := by
  unfold evaluateCall
  split
  · split
    · exact enterClosing_logKept ..
    · exact (heldDecision_logKept ..).trans (thirdDecision_logKept ..)
  · exact .refl s

theorem callReceived_logKept (f : CallFrame) (rssi : Int) (s : State) : LogKept s (callReceived f rssi s) := by
  refine (rosterCall_logKept f rssi s.isTransferring s).trans ?_
  unfold callReceived
  dsimp only
  split
  · exact evaluateCall_logKept ..
  · exact unawaited_logKept _

theorem readyOverheard_logKept (f : ReadyFrame) (s : State) : LogKept s (readyOverheard f s) := by
  unfold readyOverheard
  split
  · exact (confirm_logKept ..).trans (unawaited_logKept _)
  · exact unawaited_logKept _

theorem readyReceived_logKept (f : ReadyFrame) (rssi : Int) (s : State) :
    LogKept s (readyReceived f rssi s) := by
  refine (rosterHeard_logKept f.label (some f.held) rssi s).trans ?_
  unfold readyReceived
  dsimp only
  split
  · split
    · unfold readyAwaited
      split
      · exact .same rfl rfl
      all_goals exact endTransfer_logKept ..
    · exact readyOverheard_logKept f _
  · exact readyOverheard_logKept f _

theorem fragAckReceived_logKept (f : FragAckFrame) (s : State) : LogKept s (fragAckReceived f s) := by
  unfold fragAckReceived
  split
  · split
    · unfold ackAwaited
      split <;> exact .same rfl rfl
    · exact unawaited_logKept s
  · exact unawaited_logKept s

theorem joinTally_logKept (p : LabelAddr × Version) (s : State) : LogKept s (joinTally p s) := by
  unfold joinTally
  split <;> exact .same rfl rfl

theorem doneReceived_logKept (f : DoneFrame) (rssi : Int) (s : State) : LogKept s (doneReceived f rssi s) := by
  refine (rosterHeard_logKept f.label (some f.held) rssi s).trans ?_
  unfold doneReceived
  dsimp only
  split
  · exact (endTransfer_logKept ..).trans (joinTally_logKept ..)
  · unfold doneOverheard
    refine .trans ?_ (unawaited_logKept _)
    split
    · exact .refl _
    · split
      · exact (confirm_logKept ..).trans (joinTally_logKept ..)
      · exact confirm_logKept ..

theorem refuseReceived_logKept (f : RefuseFrame) (rssi : Int) (s : State) :
    LogKept s (refuseReceived f rssi s) := by
  refine (rosterHeard_logKept f.label none rssi s).trans ?_
  unfold refuseReceived
  dsimp only
  split
  · exact eitherOrder_logKept ((latch_logKept ..).trans (endTransfer_logKept ..))
      ((endTransfer_logKept ..).trans (latch_logKept ..))
  · exact unawaited_logKept _

theorem tallyPair_logKept (n : StationNo) (p : LabelAddr × Version) (s : State) :
    LogKept s (tallyPair n p s) := by
  unfold tallyPair
  split
  · dsimp only
    split
    · exact .same rfl rfl
    · exact (confirm_logKept ..).afterSame rfl rfl
  · exact .refl s

theorem handleFrame_logKept (f : AirFrame) (rssi : Int) (s : State) : LogKept s (handleFrame f rssi s) := by
  cases f with
  | call f => exact callReceived_logKept f rssi s
  | offer f => exact (yieldLabel_logKept f.label s).trans (unawaited_logKept _)
  | ready f => exact readyReceived_logKept f rssi s
  | frag f => exact unawaited_logKept s
  | fragAck f => exact fragAckReceived_logKept f s
  | done f => exact doneReceived_logKept f rssi s
  | refuse f => exact refuseReceived_logKept f rssi s
  | tally f => exact (LogKept.foldl (fun _ _ => tallyPair_logKept ..) f.pairs s).trans (unawaited_logKept _)

theorem frameEnds_logKept (f : AirFrame) (rssi : Int) (s : State) : LogKept s (frameEnds f rssi s) := by
  unfold frameEnds
  split
  · refine (frameHeard_logKept s).trans (.trans ?_ (settle_logKept _))
    split
    · exact handleFrame_logKept ..
    · exact unawaited_logKept _
  · exact frameLost_logKept s

theorem bytesEnd_logKept (bytes : List Byte) (rssi : Int) (s : State) : LogKept s (bytesEnd bytes rssi s) := by
  unfold bytesEnd
  split
  · exact frameEnds_logKept ..
  · split
    · exact (frameHeard_logKept s).trans ((unawaited_logKept _).trans (settle_logKept _))
    · exact frameLost_logKept s

/-! ### The requests -/

theorem gathererRefuses_logKept (d : Detail) (l : LabelAddr) (b : Byte) (g : GroupNo) (s : State) :
    LogKept s (gathererRefuses d l b g s).1 := (latch_logKept d l b g s).trans (settle_logKept _)

/-- A refusal of the Gatherer with the idle timer restarted. -/
theorem refusesOpen_logKept (d : Detail) (l : LabelAddr) (b : Byte) (g : GroupNo) (s : State) :
    LogKept s (gathererRefuses d l b g (restartIdle s)).1 :=
  (gathererRefuses_logKept ..).afterSame rfl rfl

/-- A refusal of the Gatherer with the group discarded. -/
theorem refusesClosed_logKept (d : Detail) (l : LabelAddr) (b : Byte) (g : GroupNo) (s : State) :
    LogKept s (gathererRefuses d l b g (closeTheGroup s)).1 :=
  (gathererRefuses_logKept ..).afterSame rfl rfl

theorem openGroupAct_logKept (n : GroupNo) (time : StoreTime) (cls : Byte) (s : State) :
    LogKept s (openGroupAct n time cls s).1 := by
  unfold openGroupAct
  split
  · exact refusesOpen_logKept ..
  · split
    · split
      · exact gathererRefuses_logKept ..
      · exact .same rfl rfl
    · exact gathererRefuses_logKept ..

theorem recordAct_logKept (body : List Byte) (s : State) : LogKept s (recordAct body s).1 := by
  unfold recordAct
  split
  · exact gathererRefuses_logKept ..
  · split
    · exact refusesOpen_logKept ..
    · split
      · exact refusesOpen_logKept ..
      · exact .same rfl rfl

theorem supersededReport_logKept (s t : State) (l : LabelAddr) : LogKept t (supersededReport s t l) := by
  unfold supersededReport
  split
  · exact eventReport_logKept ..
  · exact .refl t

theorem afterTouch_logKept (s t : State) (e : Entry) : LogKept t (afterTouch s t e) := by
  have hlate := noteLate_logKept ((s.entryOf e.label).any (fun o => o.late)) e t
  unfold afterTouch
  dsimp only
  split
  · split
    · exact hlate.trans (refit_logKept ..)
    · exact hlate
  · exact hlate

theorem applyFold_logKept (g : OpenGroup) (v : FoldView) (s : State) : LogKept s (applyFold g v s) :=
  (LogKept.foldl (supersededReport_logKept s) v.replaced s).trans
    ((LogKept.foldl (afterTouch_logKept s) _ _).afterSame rfl rfl)

theorem foldGroup_logKept (g : OpenGroup) (s : State) : LogKept s (foldGroup g s).1 := by
  unfold foldGroup
  split
  · exact refusesClosed_logKept ..
  · exact refusesClosed_logKept ..
  · exact .same rfl rfl
  · split
    · exact ((applyFold_logKept _ _ (closeTheGroup s)).trans (settle_logKept _)).afterSame rfl rfl
    · exact refusesOpen_logKept ..

theorem closeGroupAct_logKept (n : GroupNo) (count : BitVec 16) (s : State) :
    LogKept s (closeGroupAct n count s).1 := by
  unfold closeGroupAct
  split
  · exact gathererRefuses_logKept ..
  · split
    · exact refusesOpen_logKept ..
    · split
      · exact refusesClosed_logKept ..
      · exact foldGroup_logKept ..

theorem abortGroupAct_logKept (s : State) : LogKept s (abortGroupAct s).1 := by
  unfold abortGroupAct
  split <;> exact .same rfl rfl

theorem startAct_logKept (s : State) : LogKept s (startAct s).1 := by
  unfold startAct
  split
  · exact .refl s
  · split
    · exact .refl s
    · split <;> exact .same rfl rfl

theorem pauseAct_logKept (s : State) : LogKept s (pauseAct s).1 := by
  unfold pauseAct
  split <;> exact .same rfl rfl

theorem resumeAct_logKept (s : State) : LogKept s (resumeAct s).1 := by
  unfold resumeAct
  split <;> exact .same rfl rfl

theorem stopAct_logKept (s : State) : LogKept s (stopAct s).1 := by
  unfold stopAct
  split <;> exact .same rfl rfl

theorem setTimeAct_logKept (v : StoreTime) (s : State) : LogKept s (setTimeAct v s).1 :=
  ((evaluateAll_logKept _).trans (settle_logKept _)).afterSame rfl rfl

theorem takeReportsAct_logKept (n : Byte) (s : State) : LogKept s (takeReportsAct n s).1 := by
  have hroom : ∀ k, LogKept s (takeRoom k s) := by
    intro k
    unfold takeRoom
    split
    · exact .refl s
    · exact (drainClosing_logKept _).afterSame rfl rfl
  exact (hroom _).trans (settle_logKept _)

theorem readEntryAct_logKept (selector : Byte) (address : LabelAddr) (s : State) :
    LogKept s (readEntryAct selector address s).1 := by
  unfold readEntryAct
  split <;> split <;> exact .refl s

theorem withdrawAct_logKept (l : LabelAddr) (s : State) : LogKept s (withdrawAct l s).1 := by
  unfold withdrawAct
  split
  · exact .refl s
  · split
    case h_1 | h_2 => exact .refl s
    case h_3 | h_4 | h_5 => split <;> exact .same rfl rfl

/-- Every request's action keeps the law; CLEAR FAULTS by emptying the set and the log together (R150). -/
theorem requestAct_logKept (i : Instr) (s : State) : LogKept s (requestAct i s).1 := by
  cases i with
  | setTime v => exact setTimeAct_logKept v s
  | openGroup g t c => exact openGroupAct_logKept g t c s
  | record body => exact recordAct_logKept body s
  | closeGroup g n => exact closeGroupAct_logKept g n s
  | abortGroup => exact abortGroupAct_logKept s
  | start => exact startAct_logKept s
  | pause => exact pauseAct_logKept s
  | resume => exact resumeAct_logKept s
  | stop => exact stopAct_logKept s
  | clearFaults => exact .emptied rfl rfl
  | takeReports n => exact takeReportsAct_logKept n s
  | readEntry selector address => exact readEntryAct_logKept selector address s
  | withdraw l => exact withdrawAct_logKept l s
  | _ => exact .same rfl rfl

/-! ### The batch link -/

theorem serve_logKept (f : LinkFrame) {act : State → State × Answer} (h : ∀ s, LogKept s (act s).1)
    (s : State) : LogKept s (serve f act s) := by
  by_cases hs : s.opState = .starting
  · rw [serve_starting hs]
    exact .same rfl rfl
  · rw [serve_acts hs]
    have hact : LogKept s (act { s with holding := f :: s.holding.tail }).1 := (h _).afterSame rfl rfl
    exact hact.trans (.same rfl rfl)

theorem takeFrame_logKept (f : LinkFrame) (s : State) : LogKept s (takeFrame f s) := by
  unfold takeFrame
  split
  · exact .same rfl rfl
  · split
    · exact .same rfl rfl
    · split
      case h_1 | h_2 => exact .same rfl rfl
      case h_3 => exact (requestAct_logKept _ s).trans (.same rfl rfl)

theorem offerFrameToHolding_logKept (f : LinkFrame) (s : State) : LogKept s (offerFrameToHolding f s) := by
  unfold offerFrameToHolding
  split
  · split <;> exact .same rfl rfl
  · dsimp only
    split
    · exact (takeFrame_logKept f _).afterSame rfl rfl
    · exact .same rfl rfl

theorem receiveByte_logKept (b : Byte) (stopBit : Bool) (s : State) :
    LogKept s (receiveByte b stopBit s) := by
  unfold receiveByte
  split
  · split <;> exact .same rfl rfl
  · dsimp only
    split
    · exact .same rfl rfl
    · exact (offerFrameToHolding_logKept _ _).afterSame rfl rfl

theorem overrunIfOwed_logKept (s : State) : LogKept s (overrunIfOwed s) := by
  unfold overrunIfOwed
  split
  · split <;> exact .same rfl rfl
  · exact .refl s

theorem responseEnds_logKept (r : Response) (s : State) : LogKept s (responseEnds r s) := by
  unfold responseEnds
  dsimp only
  split
  · exact .same rfl rfl
  · exact (overrunIfOwed_logKept _).afterSame rfl rfl

/-! ### Time -/

theorem expireGroup_logKept (s : State) : LogKept s (expireGroup s) := by
  unfold expireGroup
  split
  · exact (latch_logKept ..).afterSame rfl rfl
  · exact .refl s

theorem idleSecond_logKept (s : State) : LogKept s (idleSecond s) := by
  unfold idleSecond
  split
  · split
    · exact expireGroup_logKept s
    · exact .same rfl rfl
  · exact .refl s

theorem bookSecond_logKept (s : State) : LogKept s (bookSecond s) :=
  (evaluateAll_logKept _).afterSame rfl rfl

theorem blocksSecond_logKept (s : State) : LogKept s (blocksSecond s) :=
  have hboth := eitherOrder_logKept ((bookSecond_logKept s).trans (idleSecond_logKept _))
    ((idleSecond_logKept s).trans (bookSecond_logKept _))
  hboth.trans (.same (by simp [blocksSecond, refill]) (by simp [blocksSecond, refill]))

/-! ### Every command -/

/-- The next state of a command's outcome keeps the law. -/
abbrev OutcomeKeepsLog (s : State) (o : Host.Outcome State Fault Refusal) : Prop :=
  ∀ t, o = .next t → LogKept s t

theorem OutcomeKeepsLog.next {s t : State} (h : LogKept s t) : OutcomeKeepsLog s (.next t) := by
  rintro _ ⟨⟩
  exact h

theorem OutcomeKeepsLog.same {s t : State} (hl : t.latched = s.latched) (hf : t.firstFault = s.firstFault) :
    OutcomeKeepsLog s (.next t) := .next (.same hl hf)

theorem execLineResetRelease_logKept (s : State) : OutcomeKeepsLog s (execLineResetRelease s) := by
  unfold execLineResetRelease
  split <;> exact .same rfl rfl

/-- An autoload that ends after a fault of the Loader (R172, R173). -/
theorem endAutoload_latchConfig_logKept (c : StationConfig) (d : Detail) (k : Nat) (s : State) :
    LogKept s (endAutoload c (latchConfig d k s)) :=
  (latch_logKept ..).trans (.same rfl rfl)

theorem execHeaderRead_logKept (signature : BitVec 16) (count : Byte) (s : State) :
    OutcomeKeepsLog s (execHeaderRead signature count s) := by
  unfold execHeaderRead
  split
  · split
    · exact .same rfl rfl
    · exact .next (endAutoload_latchConfig_logKept ..)
  · exact .same rfl rfl

theorem afterGroup_logKept (k count : Nat) (p : StationConfig) (s : State) :
    LogKept s (afterGroup k count p s) := by
  unfold afterGroup
  split <;> exact .same rfl rfl

theorem execGroupRead_logKept (length : Byte) (contents : List Byte) (sumCheck : BitVec 16) (s : State) :
    OutcomeKeepsLog s (execGroupRead length contents sumCheck s) := by
  unfold execGroupRead
  split
  · split
    · split
      · exact .next (afterGroup_logKept ..)
      · exact .next ((latch_logKept ..).trans (afterGroup_logKept ..))
    · exact .next (endAutoload_latchConfig_logKept ..)
  · exact .same rfl rfl

theorem execConfigReadTimeout_logKept (s : State) : OutcomeKeepsLog s (execConfigReadTimeout s) := by
  unfold execConfigReadTimeout
  split
  · exact .next (endAutoload_latchConfig_logKept ..)
  · exact .same rfl rfl

theorem execClockSecond_logKept (s : State) : OutcomeKeepsLog s (execClockSecond s) := by
  unfold execClockSecond
  dsimp only
  split
  · exact .same rfl rfl
  · exact .next (((blocksSecond_logKept _).trans (settle_logKept _)).afterSame rfl rfl)

theorem execGroupIdleTimeout_logKept (s : State) : OutcomeKeepsLog s (execGroupIdleTimeout s) := by
  unfold execGroupIdleTimeout
  split
  · exact .next ((expireGroup_logKept s).trans (settle_logKept _))
  · exact .same rfl rfl

theorem execResponseSent_logKept (s : State) : OutcomeKeepsLog s (execResponseSent s) := by
  unfold execResponseSent
  split
  · exact .next (responseEnds_logKept _ s)
  · exact .same rfl rfl

theorem execHeldFrameTaken_logKept (s : State) : OutcomeKeepsLog s (execHeldFrameTaken s) := by
  unfold execHeldFrameTaken
  split
  · exact .next (takeFrame_logKept _ s)
  · exact .same rfl rfl

theorem execFrameStart_logKept (s : State) : OutcomeKeepsLog s (execFrameStart s) := by
  unfold execFrameStart
  split <;> exact .same rfl rfl

theorem execCarrierSensed_logKept (s : State) : OutcomeKeepsLog s (execCarrierSensed s) := by
  unfold execCarrierSensed
  split
  · exact .same rfl rfl
  · exact .next ((standDown_logKept s).trans (.same rfl rfl))

theorem execCarrierEnd_logKept (s : State) : OutcomeKeepsLog s (execCarrierEnd s) := by
  unfold execCarrierEnd
  split <;> exact .same rfl rfl

theorem standoffEnds_logKept (c : TransferContext) (s : State) : LogKept s (standoffEnds c s) := by
  unfold standoffEnds
  split
  · exact .same (by simp [commitOffer]) (by simp [commitOffer])
  · exact .same rfl rfl

theorem execStandoffEnd_logKept (s : State) : OutcomeKeepsLog s (execStandoffEnd s) := by
  unfold execStandoffEnd
  split
  · exact .next ((standoffEnds_logKept _ s).trans (.same rfl rfl))
  · exact .same rfl rfl

theorem execOfferSent_logKept (s : State) : OutcomeKeepsLog s (execOfferSent s) := by
  unfold execOfferSent
  split <;> exact .same rfl rfl

theorem execReadyWaitExpiry_logKept (s : State) : OutcomeKeepsLog s (execReadyWaitExpiry s) := by
  unfold execReadyWaitExpiry
  split
  · exact .next ((deadline_logKept ..).trans (settle_logKept _))
  · exact .same rfl rfl

theorem execFragSent_logKept (s : State) : OutcomeKeepsLog s (execFragSent s) := by
  unfold execFragSent
  split <;> exact .same rfl rfl

theorem execAckWaitExpiry_logKept (s : State) : OutcomeKeepsLog s (execAckWaitExpiry s) := by
  unfold execAckWaitExpiry
  split
  · exact .next ((deadline_logKept ..).trans (settle_logKept _))
  · exact .same rfl rfl

theorem execDoneWaitExpiry_logKept (s : State) : OutcomeKeepsLog s (execDoneWaitExpiry s) := by
  unfold execDoneWaitExpiry
  split
  · exact .next ((deadline_logKept ..).trans (settle_logKept _))
  · exact .same rfl rfl

theorem execQuietWaitEnd_logKept (s : State) : OutcomeKeepsLog s (execQuietWaitEnd s) := by
  unfold execQuietWaitEnd quietWaitEnds
  dsimp only
  split
  · split <;> exact .same rfl rfl
  · exact .same rfl rfl

theorem execTallySent_logKept (s : State) : OutcomeKeepsLog s (execTallySent s) := by
  unfold execTallySent
  split <;> exact .same rfl rfl

/-- Every command keeps the law of the first-fault log. -/
theorem exec_logKept (i : Instr) (s : State) : OutcomeKeepsLog s (exec i s) := by
  cases hf : requestFrame i with
  | some f =>
    rw [exec_of_request hf]
    exact .next (serve_logKept f (requestAct_logKept i) s)
  | none =>
    cases i with
    | coldStart => exact .next (.emptied rfl rfl)
    | lineReset => exact .next (.emptied rfl rfl)
    | lineResetRelease => exact execLineResetRelease_logKept s
    | headerRead signature count => exact execHeaderRead_logKept signature count s
    | groupRead length contents sumCheck => exact execGroupRead_logKept length contents sumCheck s
    | configReadTimeout => exact execConfigReadTimeout_logKept s
    | clockSecond => exact execClockSecond_logKept s
    | yieldEnd => exact .same rfl rfl
    | groupIdleTimeout => exact execGroupIdleTimeout_logKept s
    | tallyPeriodEnd => exact .same rfl rfl
    | batchFrameEnd frame => exact .next ((offerFrameToHolding_logKept frame _).afterSame rfl rfl)
    | linkLoss => exact .same rfl rfl
    | responseSent => exact execResponseSent_logKept s
    | heldFrameTaken => exact execHeldFrameTaken_logKept s
    | closingListDrain => exact .next ((drainClosing_logKept s).trans (settle_logKept _))
    | batchByteReceived byte stopBit => exact .next (receiveByte_logKept byte stopBit s)
    | airFrameDiscarded bytes rssi => exact .next (bytesEnd_logKept bytes rssi s)
    | frameStart => exact execFrameStart_logKept s
    | carrierSensed => exact execCarrierSensed_logKept s
    | carrierEnd => exact execCarrierEnd_logKept s
    | call frame rssi => exact .next (frameEnds_logKept (.call frame) rssi s)
    | standoffEnd => exact execStandoffEnd_logKept s
    | offerSent => exact execOfferSent_logKept s
    | ready frame rssi => exact .next (frameEnds_logKept (.ready frame) rssi s)
    | readyWaitExpiry => exact execReadyWaitExpiry_logKept s
    | fragSent => exact execFragSent_logKept s
    | fragAck frame => exact .next (frameEnds_logKept (.fragAck frame) 0 s)
    | ackWaitExpiry => exact execAckWaitExpiry_logKept s
    | done frame rssi => exact .next (frameEnds_logKept (.done frame) rssi s)
    | doneWaitExpiry => exact execDoneWaitExpiry_logKept s
    | refuse frame rssi => exact .next (frameEnds_logKept (.refuse frame) rssi s)
    | peerOffer frame => exact .next (frameEnds_logKept (.offer frame) 0 s)
    | peerFrag frame => exact .next (frameEnds_logKept (.frag frame) 0 s)
    | peerTally frame => exact .next (frameEnds_logKept (.tally frame) 0 s)
    | quietWaitEnd => exact execQuietWaitEnd_logKept s
    | tallySent => exact execTallySent_logKept s
    | status | setTime | openGroup | record | closeGroup | abortGroup | start | pause | resume | stop
    | clearFaults | takeReports | readEntry | readRoster | withdraw | setAttention | resetPort => cases hf

/-- A step takes a command from the queue, which the log does not see. -/
theorem step_logKept (s : State) : OutcomeKeepsLog s (step s) := by
  unfold step
  split
  · exact .same rfl rfl
  · exact fun t ht => (exec_logKept _ _ t ht).afterSame rfl rfl

/-! ### The law -/

/-- A cold start, a line reset, and CLEAR FAULTS outside STARTING empty the set with the log (R146). -/
theorem faults_emptied {s t : State} (h : exec .coldStart s = .next t ∨ exec .lineReset s = .next t ∨
    (s.opState ≠ .starting ∧ exec .clearFaults s = .next t)) : t.latched = noKinds ∧ t.firstFault = none := by
  rcases h with h | h | ⟨hs, h⟩
  · cases h
    exact ⟨rfl, rfl⟩
  · cases h
    exact ⟨rfl, rfl⟩
  · rw [exec_of_request rfl, serve_acts hs] at h
    cases h
    exact ⟨rfl, rfl⟩

/-- STATUS leaves the faults, in STARTING too, where it is answered NOT_READY (R136, R167). -/
theorem status_sameFaults {s t : State} (h : exec .status s = .next t) : SameFaults s t := by
  rw [exec_of_request rfl] at h
  by_cases hs : s.opState = .starting
  · rw [serve_starting hs] at h
    cases h
    exact ⟨rfl, rfl⟩
  · rw [serve_acts hs] at h
    cases h
    exact ⟨rfl, rfl⟩

/-- Settles O56: a fault is the one operation that touches the set or the log and does not empty them, and it
keeps the law; every command is a chain of operations that do. -/
theorem firstFaultLogLaw : Obligations.FirstFaultLogLaw := by
  unfold Obligations.FirstFaultLogLaw
  refine ⟨fun d l b g s => ⟨?_, ?_, ?_⟩, fun s t => faults_emptied, fun s t => status_sameFaults,
    fun s hs => ?_, fun s t hlaw ht => (step_logKept s t ht).law hlaw⟩
  · simp
  · exact fun hempty => latch_firstFault_of_empty hempty d l b g
  · exact fun hkinds => latch_firstFault_of_nonempty hkinds d l b g
  · exact ⟨statusBody s, exec_eq_answered rfl hs rfl rfl, rfl, rfl⟩

end Sys2Proof.Machine
end


section
/-! SUPPORT. The few general notions that core Lean does not have: chains of steps, lists that correspond entry by
entry, and lists whose entries differ in a key. -/

namespace Sys2Proof.Machine

/-! ### Chains of steps -/

/-- Any number of steps, one after another. -/
inductive ReflTransGen {α : Type} (r : α → α → Prop) (a : α) : α → Prop
  | refl : ReflTransGen r a a
  | tail {b c : α} (hab : ReflTransGen r a b) (hbc : r b c) : ReflTransGen r a c

namespace ReflTransGen
variable {α β : Type} {r : α → α → Prop} {a b c : α}

theorem single (h : r a b) : ReflTransGen r a b := .tail .refl h

theorem trans (hab : ReflTransGen r a b) (hbc : ReflTransGen r b c) : ReflTransGen r a c := by
  induction hbc with
  | refl => exact hab
  | tail _ h ih => exact ih.tail h

theorem head (hab : r a b) (hbc : ReflTransGen r b c) : ReflTransGen r a c := (single hab).trans hbc

theorem lift {p : β → β → Prop} (f : α → β) (h : ∀ a b, r a b → p (f a) (f b)) (hab : ReflTransGen r a b) :
    ReflTransGen p (f a) (f b) := by
  induction hab with
  | refl => exact .refl
  | tail _ hbc ih => exact ih.tail (h _ _ hbc)

end ReflTransGen

/-! ### Lists that correspond entry by entry -/

/-- Two lists of one length whose entries correspond, each to the other's in its place. -/
inductive Forall₂ {α β : Type} (R : α → β → Prop) : List α → List β → Prop
  | nil : Forall₂ R [] []
  | cons {a : α} {b : β} {as : List α} {bs : List β} (h : R a b) (hs : Forall₂ R as bs) : Forall₂ R (a :: as) (b :: bs)

namespace Forall₂
variable {α β γ : Type} {R : α → β → Prop}

theorem same {R : α → α → Prop} : ∀ {as : List α}, (∀ a ∈ as, R a a) → Forall₂ R as as
  | [], _ => .nil
  | _ :: _, h => .cons (h _ List.mem_cons_self) (same fun a ha => h a (List.mem_cons_of_mem _ ha))

theorem map_right {f : γ → β} : ∀ {as : List α} {cs : List γ}, Forall₂ (fun a c => R a (f c)) as cs →
    Forall₂ R as (cs.map f)
  | _, _, .nil => .nil
  | _, _, .cons h hs => .cons h hs.map_right

theorem length_eq : ∀ {as : List α} {bs : List β}, Forall₂ R as bs → as.length = bs.length
  | _, _, .nil => rfl
  | _, _, .cons _ hs => congrArg (· + 1) hs.length_eq

theorem get : ∀ {as : List α} {bs : List β}, Forall₂ R as bs → ∀ {i : Nat} (ha : i < as.length) (hb : i < bs.length),
    R as[i] bs[i]
  | _, _, .cons h _, 0, _, _ => h
  | _, _, .cons _ hs, _ + 1, ha, hb => hs.get (Nat.lt_of_succ_lt_succ ha) (Nat.lt_of_succ_lt_succ hb)

end Forall₂

/-! ### Lists whose entries differ in a key -/

/-- Entries of one key are one entry where all keys differ. -/
theorem eq_of_key_eq {α β : Type} {k : α → β} {x y : α} (heq : k x = k y) : ∀ {l : List α},
    l.Pairwise (fun a b => k a ≠ k b) → x ∈ l → y ∈ l → x = y
  | z :: l, hp, hx, hy => by
    obtain ⟨hz, hl⟩ := List.pairwise_cons.mp hp
    rcases List.mem_cons.mp hx with hx | hx <;> rcases List.mem_cons.mp hy with hy | hy
    · rw [hx, hy]
    · exact absurd (hx ▸ heq) (hz y hy)
    · exact absurd (hy ▸ heq.symm) (hz x hx)
    · exact eq_of_key_eq heq hl hx hy

/-- Induction on a list from its end. -/
theorem snoc_induction {α : Type} {motive : List α → Prop} (nil : motive [])
    (append_singleton : ∀ as a, motive as → motive (as ++ [a])) (as : List α) : motive as := by
  have h : ∀ bs : List α, motive bs.reverse := by
    intro bs
    induction bs with
    | nil => exact nil
    | cons b bs ih => exact List.reverse_cons ▸ append_singleton _ b ih
  exact as.reverse_reverse ▸ h as.reverse

theorem filterMap_congr_left {α β : Type} {f g : α → Option β} : ∀ {l : List α}, (∀ x ∈ l, f x = g x) →
    l.filterMap f = l.filterMap g
  | [], _ => rfl
  | x :: xs, h => by
    rw [List.filterMap_cons, List.filterMap_cons, h x List.mem_cons_self,
      filterMap_congr_left fun y hy => h y (List.mem_cons_of_mem _ hy)]

end Sys2Proof.Machine
end


section
/-! The step and the resets, and what the two flag readings and the quiet wait say in the manual's own terms (R116,
R117, R156 to R158). -/

namespace Sys2Proof.Machine

/-- Settles O1: `step` matches on the queue, and putting the rest back is the identity. -/
theorem stepTakesFrontCommand : Obligations.StepTakesFrontCommand := by
  unfold Obligations.StepTakesFrontCommand
  intro c s
  rfl

/-! ### Flags -/

/-- Through STARTING every flag is clear (R156). -/
theorem flags_of_starting {s : State} (h : s.opState = .starting) :
    s.flags = ⟨false, false, false, false, false, false⟩ := by simp [State.flags, h]

/-- Through STARTING ATTN is released (R158). -/
theorem attnLow_of_starting {s : State} (h : s.opState = .starting) : s.attnLow = false := by
  simp [State.attnLow, State.shownFlags, flags_of_starting h, FlagSet.inter, FlagSet.any]

/-- The late count is positive exactly when some entry is late (R65). -/
theorem lateCount_pos {s : State} : 0 < s.lateCount ↔ ∃ e ∈ s.book, e.late = true := by
  simp [State.lateCount, List.countP_pos_iff]

/-! ### The quiet wait -/

/-- A TALLY is due by one of the three conditions of R116. -/
theorem tallyDue_iff {s : State} :
    s.tallyDue = true ↔
      16 ≤ s.tally.length ∨ (10 ≤ s.tallyCount ∧ s.tally ≠ []) ∨ s.tallyCount = 60 := by
  simp [State.tallyDue, Nat.one_le_iff_ne_zero, or_assoc]

/-- The Engine is LISTENING exactly in its state of that name. -/
theorem isListening_iff {s : State} : s.isListening = true ↔ s.dialogue = .listening := by
  simp [State.isListening]

/-- A due TALLY is eligible in RUN and PAUSED with the Engine LISTENING (R117). -/
theorem tallyEligible_iff {s : State} :
    s.tallyEligible = true ↔
      (16 ≤ s.tally.length ∨ (10 ≤ s.tallyCount ∧ s.tally ≠ []) ∨ s.tallyCount = 60) ∧
      (s.opState = .run ∨ s.opState = .paused) ∧ s.dialogue = .listening := by
  rw [← tallyDue_iff, ← isListening_iff]
  simp [State.tallyEligible, and_assoc]

/-- No quiet wait runs unless the Engine is LISTENING (R117). -/
theorem quietAfter_of_not_listening {s : State} (h : s.dialogue ≠ .listening) : quietAfter s = none := by
  have : ¬ s.tallyEligible = true := fun he => h (tallyEligible_iff.mp he).2.2
  simp [quietAfter, settleQuiet, this]

/-- No quiet wait runs while carrier is sensed (R117). -/
theorem quietAfter_of_carrier {s : State} (h : s.carriers ≠ 0) : quietAfter s = none := by
  simp [quietAfter, settleQuiet, h]

/-- No quiet wait runs but in RUN and PAUSED (R117). -/
theorem quietAfter_of_opState {s : State} (h1 : s.opState ≠ .run) (h2 : s.opState ≠ .paused) :
    quietAfter s = none := by
  have : ¬ s.tallyEligible = true := fun he => (tallyEligible_iff.mp he).2.1.elim h1 h2
  simp [quietAfter, settleQuiet, this]

/-- Settling the quiet wait changes it and nothing else. -/
theorem settleQuiet_eq (s : State) : settleQuiet s = { s with quietWait := quietAfter s } := rfl

/-! ### Resets -/

/-- Settles O3: a reset's state is written out field by field in the model. -/
theorem resetResults : Obligations.ResetResults := by
  unfold Obligations.ResetResults
  refine ⟨fun s => ⟨_, rfl, ?_⟩, fun s => ⟨_, rfl, ?_⟩, fun s h => ?_⟩
  · and_intros <;> rfl
  · and_intros <;> rfl
  · change execLineResetRelease s = _
    rw [execLineResetRelease, if_pos h]
    rfl

/-- Settles O52: at reset every list is empty, the Engine is LISTENING and the configurations are the defaults. -/
theorem resetKeepsLaws : Obligations.ResetKeepsLaws := by
  unfold Obligations.ResetKeepsLaws
  have hconfig : ConfigInRange defaultConfig := by decide
  have hquiet : QuietWaitFollows State.reset := by decide
  dsimp only
  refine ⟨?_, ?_, ?_, ?_, ?_, ?_, ?_, ⟨hconfig, ?_⟩, ?_, ?_, ?_, ?_, ?_, ?_, ?_, hquiet⟩
  case refine_8 =>
    rintro a ⟨⟩
    exact hconfig
  all_goals
    simp [StartingIsEmpty, AutoloadInStarting, HaltedIsSilent, StopFaultHalts, RunIsNumbered, QueuesWithinBounds,
      OverrunWaits, BudgetWithinCapacity, LogMatchesLatched, BookIsKeyed, EntriesKeepLaw, ClosingListHolds,
      TransferHasEntry, RosterIsKeyed, EngineAgrees, State.reset]

/-! ### Timed ends -/

/-- With the idle timer of the open group at 0, GROUP_IDLE_TIMEOUT takes fault 126 over the state without it. -/
theorem execGroupIdleTimeout_expired {s : State} {g : OpenGroup} (hg : s.group = some g) (hi : g.idle = 0) :
    execGroupIdleTimeout s = .next (settle (latch .d126 0 0 g.number (closeTheGroup s))) := by
  simp [execGroupIdleTimeout, expireGroup, hg, hi]

/-- Settles O7. -/
theorem timedEndsResult : Obligations.TimedEndsResult := by
  unfold Obligations.TimedEndsResult
  refine fun s => ⟨rfl, fun g hg hi hn => ?_, fun h => ?_, ?_⟩
  · refine (execGroupIdleTimeout_expired hg hi).trans (congrArg _ ?_)
    exact settle_latch (s := closeTheGroup s) hn (by simp [Detail.kind]) 0 0 g.number
  · change execGroupIdleTimeout s = _
    have : ¬ (s.group.any (fun g => g.idle == 0) = true) := by
      cases hg : s.group with
      | none => simp
      | some g => simpa using h g hg
    rw [execGroupIdleTimeout, if_neg this]
  · change Host.Outcome.next (settleQuiet s) = _
    simp only [settleQuiet, tallyEligible_iff, and_assoc, quietLength]

end Sys2Proof.Machine
end

section
/-! The Batch Link: bytes and numbers, the bodies of requests, the holding and the overrun (chapter 10, 12.3). -/

namespace Sys2Proof.Machine

/-! ### Bytes and numbers (12.1) -/

@[simp] theorem natOfBytes_nil : natOfBytes [] = 0 := rfl

/-- The last byte is the least significant. -/
theorem natOfBytes_append_singleton (bs : List Byte) (b : Byte) :
    natOfBytes (bs ++ [b]) = natOfBytes bs * 256 + b.toNat := by simp [natOfBytes]

/-- A number read back from its bytes. -/
theorem natOfBytes_bytesOfNat (n x : Nat) : natOfBytes (bytesOfNat n x) = x % 256 ^ n := by
  induction n generalizing x with
  | zero => simp [bytesOfNat, Nat.mod_one]
  | succ n ih =>
    rw [bytesOfNat, natOfBytes_append_singleton, ih, Nat.pow_succ, Nat.mul_comm (256 ^ n) 256, Nat.mod_mul]
    simp only [BitVec.toNat_ofNat]
    omega

/-- A number that fits its bytes is read back whole. -/
theorem natOfBytes_bytesOfNat_of_lt {n x : Nat} (h : x < 256 ^ n) : natOfBytes (bytesOfNat n x) = x := by
  rw [natOfBytes_bytesOfNat, Nat.mod_eq_of_lt h]

/-- A word read back from its bytes. -/
theorem natOfBytes_bytesOfBits {w n : Nat} (x : BitVec w) (h : w ≤ 8 * n) :
    natOfBytes (bytesOfBits n x) = x.toNat := by
  refine natOfBytes_bytesOfNat_of_lt (Nat.lt_of_lt_of_le x.isLt ?_)
  rw [show 256 = 2 ^ 8 by rfl, ← Nat.pow_mul]
  exact Nat.pow_le_pow_right (by omega) h

/-- The number in the bytes that stand after other bytes. -/
theorem numAt_append {bs ms : List Byte} {i n : Nat} (hi : bs.length = i) (hn : ms.length = n) (rest : List Byte) :
    numAt (bs ++ (ms ++ rest)) i n = natOfBytes ms := by
  subst hi hn
  simp [numAt]

/-- A number within what follows other bytes. -/
theorem numAt_append_right {bs : List Byte} {i : Nat} (hi : bs.length = i) (rest : List Byte) (k n : Nat) :
    numAt (bs ++ rest) (i + k) n = numAt rest k n := by
  subst hi
  simp [numAt, List.drop_append, List.drop_eq_nil_of_le]

/-- A word at the head of the bytes. -/
theorem numAt_bytesOfBits {w n : Nat} (x : BitVec w) (h : w ≤ 8 * n) (rest : List Byte) :
    numAt (bytesOfBits n x ++ rest) 0 n = x.toNat := by
  rw [← natOfBytes_bytesOfBits x h]
  exact numAt_append (bs := []) rfl (Laws.bytesOfBits_length n x) rest

/-- A word that ends the bytes. -/
theorem numAt_bytesOfBits_end {w n : Nat} (x : BitVec w) (h : w ≤ 8 * n) :
    numAt (bytesOfBits n x) 0 n = x.toNat := by simpa using numAt_bytesOfBits x h []

/-! ### The bodies of requests (R178) -/

theorem fixedLength_of_length {n : Nat} {body : List Byte} (h : body.length = n) (i : Instr) :
    fixedLength n body i = .request i := if_pos h

theorem fixedLength_of_ne {n : Nat} {body : List Byte} (h : body.length ≠ n) (i : Instr) :
    fixedLength n body i = .badLength := if_neg h

/-- Every request's body is read as the request. -/
theorem parseRequest_of_request {i : Instr} {f : LinkFrame} (h : requestFrame i = some f) :
    parseRequest f.kind f.body = .request i := by
  cases i <;> simp only [requestFrame, Option.some.injEq, reduceCtorEq] at h <;> subst h
  case setTime v =>
    refine (fixedLength_of_length (by simp [goodFrame]) _).trans ?_
    simp [goodFrame, numAt_bytesOfBits_end v (n := 4) (by decide)]
  case openGroup g t c =>
    refine (fixedLength_of_length (by simp [goodFrame]) _).trans ?_
    have ht := numAt_append_right (Laws.bytesOfBits_length 2 g) (bytesOfBits 4 t ++ [c]) 0 4
    simp only [goodFrame, List.append_assoc, numAt_bytesOfBits g (n := 2) (by decide)]
    rw [show (2 : Nat) = 2 + 0 by rfl, ht, numAt_bytesOfBits t (by decide)]
    simp
  case closeGroup g n =>
    refine (fixedLength_of_length (by simp [goodFrame]) _).trans ?_
    have hn := numAt_append_right (Laws.bytesOfBits_length 2 g) (bytesOfBits 2 n) 0 2
    simp only [goodFrame, numAt_bytesOfBits g (n := 2) (by decide)]
    simp only [Nat.add_zero] at hn
    simp [hn, numAt_bytesOfBits_end n (n := 2) (by decide)]
  case readEntry sel a =>
    refine (fixedLength_of_length (by simp [goodFrame]) _).trans ?_
    have ha := numAt_append_right (bs := [sel]) rfl (bytesOfBits 3 a) 0 3
    simp only [List.length_singleton, Nat.add_zero] at ha
    simp only [List.singleton_append] at ha
    simp [goodFrame, ha, numAt_bytesOfBits_end a (n := 3) (by decide)]
  case readRoster first n =>
    refine (fixedLength_of_length (by simp [goodFrame]) _).trans ?_
    simp [goodFrame, numAt_bytesOfBits first (n := 2) (by decide)]
  case withdraw l =>
    refine (fixedLength_of_length (by simp [goodFrame]) _).trans ?_
    simp [goodFrame, numAt_bytesOfBits_end l (n := 3) (by decide)]
  all_goals rfl

/-- Settles O11. -/
theorem requestBodiesReadBack : Obligations.RequestBodiesReadBack := by
  unfold Obligations.RequestBodiesReadBack
  exact fun i f h => ⟨requestFrame_good h, parseRequest_of_request h⟩

/-! ### A frame taken (R164) -/

/-- With no response in progress HELD_FRAME_TAKEN takes the frame at the head of the holding. -/
theorem heldFrameTaken_eq {s : State} {f : LinkFrame} {rest : List LinkFrame} (hr : s.response = none)
    (hh : s.holding = f :: rest) : exec .heldFrameTaken s = .next (takeFrame f s) := by
  change execHeldFrameTaken s = _
  simp [execHeldFrameTaken, hr, hh]

/-- A bad frame (R164, check 1). -/
theorem takeFrame_bad {f : LinkFrame} (h : f.good = false) (s : State) :
    takeFrame f s = { s with response := some ⟨f.kind, ⟨.badFrame, .none⟩, s.lineRate⟩ } := by
  rw [takeFrame, if_pos h]
  rfl

/-- A good frame in STARTING (R164, check 2). -/
theorem takeFrame_starting {f : LinkFrame} {s : State} (h : f.good = true) (hs : s.opState = .starting) :
    takeFrame f s = { s with response := some ⟨f.kind, ⟨.notReady, .none⟩, s.lineRate⟩ } := by
  rw [takeFrame, if_neg (by simp [h]), if_pos hs]
  rfl

/-- A good frame outside STARTING is taken by its kind and body (R164, checks 3 and 4). -/
theorem takeFrame_parsed {f : LinkFrame} {s : State} (h : f.good = true) (hs : s.opState ≠ .starting) :
    takeFrame f s =
      match parseRequest f.kind f.body with
      | .unknownKind => beginResponse f.kind (plain .unknownRequest) s
      | .badLength => beginResponse f.kind (plain .badFrame) s
      | .request i => beginResponse f.kind (requestAct i s).2 (requestAct i s).1 := by
  refine (if_neg (by simp [h])).trans ((if_neg hs).trans ?_)
  cases parseRequest f.kind f.body <;> rfl

/-- The kinds of the seventeen requests (R178). -/
theorem parseRequest_unknown {kind : Byte}
    (h : kind ∉ ([0x01, 0x02, 0x10, 0x11, 0x12, 0x13, 0x20, 0x21, 0x22, 0x23, 0x30, 0x31, 0x32, 0x33, 0x40,
      0x41, 0x42] : List Byte)) (body : List Byte) : parseRequest kind body = .unknownKind := by
  simp only [List.mem_cons, ← BitVec.toNat_inj, not_or] at h
  unfold parseRequest
  split
  case h_18 => rfl
  all_goals
    rename_i hk
    simp [hk] at h

/-- A request of fixed length takes no other (R164, check 4). -/
theorem parseRequest_badLength {kind : Byte} {n : Nat} {body : List Byte}
    (h : (kind, n) ∈ ([(0x01, 0), (0x02, 4), (0x10, 7), (0x12, 4), (0x13, 0), (0x20, 0), (0x21, 0), (0x22, 0),
      (0x23, 0), (0x30, 1), (0x31, 4), (0x32, 3), (0x33, 3), (0x40, 0), (0x41, 1), (0x42, 0)] :
      List (Byte × Nat))) (hb : body.length ≠ n) : parseRequest kind body = .badLength := by
  simp only [List.mem_cons, Prod.mk.injEq, List.not_mem_nil, or_false] at h
  rcases h with h | h | h | h | h | h | h | h | h | h | h | h | h | h | h | h
  all_goals
    obtain ⟨rfl, rfl⟩ := h
    exact fixedLength_of_ne hb _

/-- Settles O13. -/
theorem takenFrameChecks : Obligations.TakenFrameChecks := by
  unfold Obligations.TakenFrameChecks
  refine ⟨fun f rest s hr hh => ?_, fun i f s hf hs => ?_⟩
  · dsimp only
    rw [heldFrameTaken_eq hr hh]
    refine ⟨fun hg => ?_, fun hg hs => ?_, fun hg hs hk => ?_, fun n hg hs hk hb => ?_⟩
    · rw [takeFrame_bad hg]
    · rw [takeFrame_starting hg hs]
    · rw [takeFrame_parsed hg hs, parseRequest_unknown hk]
      rfl
    · rw [takeFrame_parsed hg hs, parseRequest_badLength hk hb]
      rfl
  · rw [exec_of_request hf, serve_starting hs, answered_eq hf]

/-- The frame of a request, taken from the head of the holding, acts as the request's row. -/
theorem takeFrame_eq_serve {i : Instr} {f : LinkFrame} (h : requestFrame i = some f) (s : State) :
    takeFrame f { s with holding := f :: s.holding.tail } = serve f (requestAct i) s := by
  have hg := requestFrame_good h
  by_cases hs : s.opState = .starting
  · rw [takeFrame_starting (s := { s with holding := f :: s.holding.tail }) hg hs, serve_starting hs]
  · rw [takeFrame_parsed (s := { s with holding := f :: s.holding.tail }) hg hs, parseRequest_of_request h,
      serve_acts hs]

/-- Settles O10. -/
theorem frameActsAsRequest : Obligations.FrameActsAsRequest := by
  unfold Obligations.FrameActsAsRequest
  refine fun i f s hf hr => ⟨fun hh => ?_, fun rest hh => ?_⟩
  · rw [exec_of_request hf, ← takeFrame_eq_serve hf]
    change Host.Outcome.next (offerFrameToHolding f { s with receiver := .hunting }) = _
    rw [offerFrameToHolding_taken (s := { s with receiver := .hunting }) hh hr]
    simp only [hh, List.tail_nil]
  · have hs : ({ s with holding := f :: s.holding.tail } : State) = s := by
      rw [show f :: s.holding.tail = s.holding by rw [hh, List.tail_cons]]
    refine ⟨_, heldFrameTaken_eq hr hh, ?_⟩
    rw [exec_of_request hf, ← takeFrame_eq_serve hf, hs]

/-- Settles O8. -/
theorem batchFrameEndResult : Obligations.BatchFrameEndResult := by
  unfold Obligations.BatchFrameEndResult
  refine fun f s => ⟨fun h2 => ?_, fun h2 hw => ?_, fun hh hr => ?_⟩
  · exact congrArg _ (offerFrameToHolding_of_two (s := { s with receiver := .hunting }) h2 f)
  · exact congrArg _ (offerFrameToHolding_waits (s := { s with receiver := .hunting }) h2 hw f)
  · have htaken : exec (.batchFrameEnd f) s =
        .next (takeFrame f { s with receiver := .hunting, holding := [f] }) :=
      congrArg _ (offerFrameToHolding_taken (s := { s with receiver := .hunting }) hh hr f)
    refine ⟨?_, fun hg => ?_⟩
    · rw [htaken]
      exact (heldFrameTaken_eq (s := { s with receiver := .hunting, holding := [f] }) hr rfl).symm
    · rw [htaken, takeFrame_bad hg]

/-! ### A response sent (R162, R163) -/

/-- RESPONSE_SENT with a response in progress. -/
theorem responseSent_eq {s : State} {r : Response} (h : s.response = some r) :
    exec .responseSent s = .next (responseEnds r s) := by
  change execResponseSent s = _
  simp [execResponseSent, h]

/-- Settles O9: a response other than OVERRUN frees the head's place and counts the overrun down. -/
theorem linkEventsResult : Obligations.LinkEventsResult := by
  unfold Obligations.LinkEventsResult
  refine fun s => ⟨rfl, fun r hr hst ho => ?_, fun r k n hr hst ho => ?_, fun r k hr hst ho => ?_,
    fun r hr hst => ?_⟩
  all_goals rw [responseSent_eq hr]
  · simp [responseEnds, hst, overrunIfOwed, overrunCountsDown, ho]
  · simp [responseEnds, hst, overrunIfOwed, overrunCountsDown, ho]
  · simp [responseEnds, hst, overrunIfOwed, overrunCountsDown, ho, beginResponse, plain]
  · simp [responseEnds, hst]

end Sys2Proof.Machine
end


section
/-! The requests of Station Control, the FRU, the book and the Gatherer, each answered over the state it leaves
(chapters 2, 3, 8, 9). -/

namespace Sys2Proof.Machine

/-- The state in which a request's block acts: the request's frame at the head of the holding (R162). -/
abbrev served (f : LinkFrame) (s : State) : State := { s with holding := f :: s.holding.tail }

/-! ### START, PAUSE, RESUME, STOP (8.3) -/

/-- A move of the operating state takes the quiet wait with it. -/
theorem moveTo_eq (o : OpState) (s : State) :
    moveTo o s = ({ s with opState := o, quietWait := quietAfter { s with opState := o } }, ⟨.ok, .opState o⟩) :=
  rfl

/-- START from IDLE, with the clock set and a number (R137). -/
theorem startAct_runs {s : State} (h : s.opState = .idle) (hc : s.clockSet = true)
    (hn : s.config.identity.station ≠ 0) : startAct s = moveTo .run s := by
  rw [startAct, if_neg (Classical.not_not.mpr h), if_neg (by simp [hc]), if_neg hn]

/-- Settles O22. -/
theorem operatingStateRequests : Obligations.OperatingStateRequests := by
  unfold Obligations.OperatingStateRequests
  intro s hs
  refine ⟨fun h h1 h2 => ?_, fun h => ?_, fun h h1 => ?_, fun h h1 h2 => ?_, fun h => ?_, fun h => ?_, fun h => ?_,
    fun h => ?_, fun h => ?_, fun h => ?_⟩
  all_goals refine exec_eq_answered rfl hs rfl ?_
  · exact startAct_runs (s := served _ s) h h1 h2
  · simp [requestAct, startAct, h]
  · simp [requestAct, startAct, h, h1]
  · simp [requestAct, startAct, h, h1, h2]
  · simp [requestAct, pauseAct, h, moveTo_eq]
    rfl
  · simp [requestAct, pauseAct, h, stateAnswer]
  · simp [requestAct, resumeAct, h, moveTo_eq]
    rfl
  · simp [requestAct, resumeAct, h, stateAnswer]
  · simp [requestAct, stopAct, h, moveTo_eq]
    rfl
  · simp [requestAct, stopAct, h, stateAnswer]

/-! ### CLEAR FAULTS, SET ATTENTION and the flags (8.4, 9.4) -/

/-- Settles O24. -/
theorem clearFaultsResult : Obligations.ClearFaultsResult := by
  unfold Obligations.ClearFaultsResult
  intro s hs
  refine ⟨exec_eq_answered rfl hs rfl rfl, ?_, fun d label source group => latch_firstFault_of_empty rfl ..⟩
  have hidle : (if s.opState = .halted then OpState.idle else s.opState) ≠ .starting := by
    split
    · decide
    · exact hs
  rw [flags_fault hidle]
  rfl

/-- Settles O28: the six flags are read one by one. -/
theorem attentionResult : Obligations.AttentionResult := by
  unfold Obligations.AttentionResult
  refine ⟨fun b s hs => exec_eq_answered rfl hs rfl rfl, fun s => attnLow_of_starting, fun s hs => ?_⟩
  rw [← faultAttended_iff, ← lateCount_pos]
  simp only [State.attnLow, State.shownFlags, FlagSet.any, FlagSet.inter, State.flags, hs, if_false, Bool.or_eq_true,
    Bool.and_eq_true, decide_eq_true_eq, or_assoc, Bool.not_eq_true', List.isEmpty_eq_false_iff]
  rfl

/-- Settles O29: the head of the holding is the RESET PORT itself. -/
theorem resetPortResult : Obligations.ResetPortResult := by
  unfold Obligations.ResetPortResult
  intro s hs
  rw [exec_of_request rfl, serve_acts hs]
  rfl

/-! ### WITHDRAW (R66) -/

theorem withdrawAct_absent {l : LabelAddr} {s : State} (h : s.entryOf l = none) :
    withdrawAct l s = (s, ⟨.wrongState, .none⟩) := by simp [withdrawAct, h, plain]

theorem withdrawAct_inTransfer {l : LabelAddr} {s : State} {e : Entry} (h : s.entryOf l = some e)
    (he : e.state = .inTransfer) : withdrawAct l s = (s, ⟨.busy, .none⟩) := by
  simp [withdrawAct, h, he, plain]

theorem withdrawAct_closing {l : LabelAddr} {s : State} {e : Entry} (h : s.entryOf l = some e)
    (he : e.isClosing = true) : withdrawAct l s = (s, ⟨.wrongState, .none⟩) := by
  cases hst : e.state <;> simp [Entry.isClosing, hst] at he
  simp [withdrawAct, h, hst, plain]

/-- An open entry is withdrawn with its report when there is room, and the request is FULL otherwise. -/
theorem withdrawAct_open {l : LabelAddr} {s : State} {e : Entry} (h : s.entryOf l = some e)
    (he : e.isOpen = true) :
    withdrawAct l s =
      if s.reports.length < 256 then
        ({ s with
          reports := s.reports ++ [⟨s.nextSeq, ⟨.withdrawn, e.label, e.target, s.clock,
            .station s.config.identity.station, e.attempts, e.notes, e.lastGroup⟩⟩]
          nextSeq := s.nextSeq + 1
          book := s.book.filter (fun x => x.slot != e.slot) }, ⟨.ok, .none⟩)
      else (s, ⟨.full, .none⟩) := by
  cases hst : e.state <;> simp [Entry.isOpen, hst] at he
  all_goals
    simp only [withdrawAct, h, hst, State.hasRoom, decide_eq_true_eq]
    rfl

/-- Settles O27. -/
theorem withdrawResult : Obligations.WithdrawResult := by
  unfold Obligations.WithdrawResult
  refine fun l s hs => ⟨fun h => ?_, fun e h => ⟨fun he hr => ?_, fun he hr => ?_, fun he => ?_, fun he => ?_⟩⟩
  all_goals refine exec_eq_answered rfl hs rfl ?_
  · exact withdrawAct_absent (s := served _ s) h
  · exact (withdrawAct_open (s := served _ s) h he).trans (if_pos hr)
  · exact (withdrawAct_open (s := served _ s) h he).trans (if_neg (Nat.not_lt.mpr hr))
  · exact withdrawAct_inTransfer (s := served _ s) h he
  · exact withdrawAct_closing (s := served _ s) h he

/-! ### OPEN GROUP and RECORD (2.2) -/

/-- The idle timer of an open group restarts at 60 (R29). -/
theorem restartIdle_of_open {s : State} {g : OpenGroup} (h : s.group = some g) :
    restartIdle s = { s with group := some { g with idle := 60 } } := by simp [restartIdle, h]

/-- A refusal of the Gatherer that halts nothing, as the request's answer: `t` is the state in which the fault is
taken, before the link has put the request's frame at the head of the holding. -/
theorem exec_eq_refused {i : Instr} {f : LinkFrame} {d : Detail} {kinds : List FaultKind} {s t : State}
    {l : LabelAddr} {b : Byte} {g : GroupNo} (hf : requestFrame i = some f) (hs : s.opState ≠ .starting)
    (ht : t.holding = s.holding) (hn : NothingHalts t kinds) (hd : d.kind ∈ kinds)
    (hact : requestAct i { s with holding := f :: s.holding.tail } =
      gathererRefuses d l b g { t with holding := f :: s.holding.tail }) :
    exec i s = .next (answered i ⟨.refused, .refused d⟩
      (faulted d l b g { t with quietWait := quietAfter t })) := by
  refine exec_eq_answered hf hs ht (hact.trans ?_)
  exact gathererRefuses_of_nothingHalts (s := { t with holding := f :: s.holding.tail }) hn hd l b g

theorem openGroupAct_opens {n : GroupNo} {cls : Byte} {s : State} (h : cls.toNat < 8) (hg : s.group = none)
    (hn : n ≠ 0) (time : StoreTime) : openGroupAct n time cls s =
      ({ s with group := some ⟨n, time, ⟨cls.toNat, h⟩, 60, []⟩ }, ⟨.ok, .none⟩) := by
  simp only [openGroupAct, hg, dif_pos h, if_neg hn]
  rfl

theorem openGroupAct_bad {n : GroupNo} {cls : Byte} {s : State} (hg : s.group = none)
    (h : n = 0 ∨ 8 ≤ cls.toNat) (time : StoreTime) :
    openGroupAct n time cls s = gathererRefuses .d103 0 0 n s := by
  rcases h with h | h
  · simp [openGroupAct, hg, h]
  · simp [openGroupAct, hg, Nat.not_lt.mpr h]

theorem openGroupAct_again {s : State} {g : OpenGroup} (hg : s.group = some g) (n : GroupNo) (time : StoreTime)
    (cls : Byte) : openGroupAct n time cls s =
      gathererRefuses .d121 0 0 g.number { s with group := some { g with idle := 60 } } := by
  simp [openGroupAct, restartIdle_of_open hg, hg]

theorem recordAct_full {s : State} {g : OpenGroup} (hg : s.group = some g) (h : 512 ≤ g.gathered.length)
    (body : List Byte) : recordAct body s =
      gathererRefuses .d125 (refusedLabel body) (refusedSource body) g.number
        { s with group := some { g with idle := 60 } } := by
  simp [recordAct, restartIdle_of_open hg, hg, h]

theorem recordAct_refused {s : State} {g : OpenGroup} {body : List Byte} {d : Detail} (hg : s.group = some g)
    (h : g.gathered.length < 512) (hd : checkRecord s.config.sources.masks body = .refused d) :
    recordAct body s =
      gathererRefuses d (refusedLabel body) (refusedSource body) g.number
        { s with group := some { g with idle := 60 } } := by
  simp [recordAct, restartIdle_of_open hg, hg, Nat.not_le.mpr h, hd]

theorem recordAct_accepted {s : State} {g : OpenGroup} {body : List Byte} {r : GatheredRecord}
    (hg : s.group = some g) (h : g.gathered.length < 512)
    (hr : checkRecord s.config.sources.masks body = .accepted r) :
    recordAct body s =
      ({ s with group := some { g with gathered := g.gathered ++ [r], idle := 60 } },
        ⟨.ok, .recordCount (g.gathered.length + 1)⟩) := by
  simp [recordAct, hg, Nat.not_le.mpr h, hr]

/-- Settles O16. -/
theorem gatheringResults : Obligations.GatheringResults := by
  unfold Obligations.GatheringResults
  refine ⟨fun n time cls s hs => ⟨fun h hg hn => ?_, fun hg hbad hh => ?_, fun g hg hh => ?_⟩,
    fun body s hs => ⟨fun hg hh => ?_, fun g hg => ⟨fun r hlen hr => ?_, fun d hlen hd hh => ?_,
      fun hlen hh => ?_⟩⟩⟩
  · refine exec_eq_answered rfl hs rfl ?_
    exact openGroupAct_opens (s := served _ s) h hg hn time
  · exact exec_eq_refused rfl hs rfl hh (by simp [Detail.kind]) (openGroupAct_bad (s := served _ s) hg hbad time)
  · exact exec_eq_refused (t := { s with group := some { g with idle := 60 } }) rfl hs rfl hh
      (by simp [Detail.kind]) (openGroupAct_again (s := served _ s) hg n time cls)
  · refine exec_eq_refused rfl hs rfl hh (by simp [Detail.kind]) ?_
    simp [requestAct, recordAct, hg]
  · exact exec_eq_answered rfl hs rfl (recordAct_accepted (s := served _ s) hg hlen hr)
  · exact exec_eq_refused (t := { s with group := some { g with idle := 60 } }) rfl hs rfl hh
      (by simp) (recordAct_refused (s := served _ s) hg hlen hd)
  · exact exec_eq_refused (t := { s with group := some { g with idle := 60 } }) rfl hs rfl hh
      (by simp [Detail.kind]) (recordAct_full (s := served _ s) hg hlen body)

/-! ### CLOSE GROUP's refusals (R31, R38, R39) -/

theorem closeGroupAct_otherNumber {n : GroupNo} {s : State} {g : OpenGroup} (hg : s.group = some g)
    (h : g.number ≠ n) (count : BitVec 16) : closeGroupAct n count s =
      gathererRefuses .d127 0 0 g.number { s with group := some { g with idle := 60 } } := by
  simp [closeGroupAct, restartIdle_of_open hg, hg, h]

theorem closeGroupAct_otherCount {s : State} {g : OpenGroup} {count : BitVec 16} (hg : s.group = some g)
    (h : g.gathered.length ≠ count.toNat) : closeGroupAct g.number count s =
      gathererRefuses .d124 0 0 g.number { s with group := none } := by
  simp [closeGroupAct, hg, h, closeTheGroup]

/-- A CLOSE GROUP whose number and count match folds the group (R31). -/
theorem closeGroupAct_folds {s : State} {g : OpenGroup} {count : BitVec 16} (hg : s.group = some g)
    (h : g.gathered.length = count.toNat) : closeGroupAct g.number count s = foldGroup g s := by
  simp [closeGroupAct, hg, h]

theorem foldGroup_stale {s : State} {g : OpenGroup} {r : GatheredRecord} {p : Nat}
    (h : checkPass g g.gathered 1 (startView s) = .stopped .stale r p) : foldGroup g s =
      gathererRefuses .d132 r.label (BitVec.ofNat 8 r.source.val) g.number { s with group := none } := by
  simp [foldGroup, h, closeTheGroup]

theorem foldGroup_conflict {s : State} {g : OpenGroup} {r : GatheredRecord} {p : Nat}
    (h : checkPass g g.gathered 1 (startView s) = .stopped .conflict r p) : foldGroup g s =
      gathererRefuses .d133 r.label (BitVec.ofNat 8 r.source.val) g.number { s with group := none } := by
  simp [foldGroup, h, closeTheGroup]

theorem foldGroup_busy {s : State} {g : OpenGroup} {r : GatheredRecord} {p : Nat} (hg : s.group = some g)
    (h : checkPass g g.gathered 1 (startView s) = .stopped .busy r p) : foldGroup g s =
      ({ s with group := some { g with idle := 60 } }, ⟨.busy, .busyAt p⟩) := by
  simp [foldGroup, h, restartIdle_of_open hg]

theorem foldGroup_noRoom {s : State} {g : OpenGroup} {v : FoldView} (hg : s.group = some g)
    (h : checkPass g g.gathered 1 (startView s) = .done v) (hr : 4096 - s.book.length < v.fresh.length) :
    foldGroup g s = gathererRefuses .d131 0 0 g.number { s with group := some { g with idle := 60 } } := by
  have : ¬ roomFor v s = true := by
    simp only [roomFor, decide_eq_true_eq]
    exact Nat.not_le.mpr hr
  simp [foldGroup, h, restartIdle_of_open hg, this]

/-- Settles O18. -/
theorem closeGroupRefusals : Obligations.CloseGroupRefusals := by
  unfold Obligations.CloseGroupRefusals
  intro n count s hs hh
  refine ⟨fun hg => ?_, fun g hg => ⟨fun hn => ?_, fun hn hc => ?_, fun hn hc => ?_⟩⟩
  · refine exec_eq_refused rfl hs rfl hh (by simp [Detail.kind]) ?_
    simp [requestAct, closeGroupAct, hg]
  · exact exec_eq_refused (t := { s with group := some { g with idle := 60 } }) rfl hs rfl hh
      (by simp [Detail.kind]) (closeGroupAct_otherNumber (s := served _ s) hg hn count)
  · subst hn
    exact exec_eq_refused (t := { s with group := none }) rfl hs rfl hh (by simp [Detail.kind])
      (closeGroupAct_otherCount (s := served _ s) hg hc)
  · subst hn
    refine ⟨fun r p hp => ?_, fun r p hp => ?_, fun r p hp => ?_, fun v hv hroom => ?_⟩
    · exact exec_eq_refused (t := { s with group := none }) rfl hs rfl hh (by simp [Detail.kind])
        ((closeGroupAct_folds (s := served _ s) hg hc).trans (foldGroup_stale (s := served _ s) hp))
    · exact exec_eq_refused (t := { s with group := none }) rfl hs rfl hh (by simp [Detail.kind])
        ((closeGroupAct_folds (s := served _ s) hg hc).trans (foldGroup_conflict (s := served _ s) hp))
    · exact exec_eq_answered rfl hs rfl ((closeGroupAct_folds (s := served _ s) hg hc).trans (foldGroup_busy (s := served _ s) hg hp))
    · exact exec_eq_refused (t := { s with group := some { g with idle := 60 } }) rfl hs rfl hh
        (by simp [Detail.kind]) ((closeGroupAct_folds (s := served _ s) hg hc).trans (foldGroup_noRoom (s := served _ s) hg hv hroom))

end Sys2Proof.Machine
end


section
/-! The Price Arithmetic Unit: the shown price stage by stage, the unit price, the fit and the encoding (chapter 1). -/

namespace Sys2Proof.Machine

/-! ### Stages 1 and 2 (R6 to R8) -/

theorem effectiveRate_eq (rate : Nat) : effectiveRate rate = min rate 900 := by
  unfold effectiveRate
  split <;> omega

/-- A PERCENT markdown truncates the exact product (R7). -/
theorem rawPrice_percent {p : PriceItem} {k : Nat} (h : p.markdown = .percent k) :
    rawPrice p = p.ticket * (1000 - min k 900) / 1000 := by simp [rawPrice, h, effectiveRate_eq]

/-- No markdown but SET raises the price. -/
theorem rawPrice_le {p : PriceItem} (h : ∀ k, p.markdown ≠ .set k) : rawPrice p ≤ p.ticket := by
  cases hm : p.markdown with
  | none => simp [rawPrice, hm]
  | set k => exact absurd hm (h k)
  | amount k =>
    simp only [rawPrice, hm]
    split <;> omega
  | percent k =>
    rw [rawPrice_percent hm]
    have : p.ticket * (1000 - min k 900) ≤ p.ticket * 1000 := Nat.mul_le_mul_left _ (by omega)
    omega

/-- Stage 2 runs with the ending rule of a PERCENT or AMOUNT item (R8). -/
theorem activeEnding_eq_some {p : PriceItem} {e : Ending} :
    activeEnding p = some e ↔
      ((∃ k, p.markdown = .percent k) ∨ ∃ k, p.markdown = .amount k) ∧ p.ending = some e := by
  cases hm : p.markdown <;> simp [activeEnding, hm]

theorem afterEnding_le (ending : Option Ending) (raw : Nat) : afterEnding ending raw ≤ raw := by
  unfold afterEnding
  split
  · split <;> omega
  · exact Nat.le_refl _

/-- The greatest value not above the raw price that has the ending (R8). -/
theorem afterEnding_greatest {e : Ending} {raw : Nat} (h : e.value ≤ raw) (hm : e.value < e.modulus) :
    raw < afterEnding (some e) raw + e.modulus ∧ afterEnding (some e) raw % e.modulus = e.value := by
  have hpos : 0 < e.modulus := by omega
  have hlt := Nat.mod_lt (raw - e.value) hpos
  have hle := Nat.mod_le (raw - e.value) e.modulus
  have hdiv := Nat.div_add_mod (raw - e.value) e.modulus
  have hval : afterEnding (some e) raw = e.value + e.modulus * ((raw - e.value) / e.modulus) := by
    simp only [afterEnding, if_pos h]
    omega
  refine ⟨by omega, ?_⟩
  rw [hval, Nat.add_mul_mod_self_left, Nat.mod_eq_of_lt hm]

/-- A raw price below the ending is left (R8). -/
theorem afterEnding_skipped {e : Ending} {raw : Nat} (h : raw < e.value) : afterEnding (some e) raw = raw := by
  simp [afterEnding, Nat.not_le.mpr h]

/-! ### Stages 3 to 6 (R9 to R12) -/

theorem afterMinimum_eq (x : Nat) : afterMinimum x = max x 1 := by
  unfold afterMinimum
  split <;> omega

theorem shownPrice_eq (p : PriceItem) : shownPrice p = max (max (endedPrice p) 1) (max p.floor 1) := by
  simp [shownPrice, afterMinimum_eq, effectiveFloor]

/-- The save figure, where WAS is present, is the truncated percentage when it is at least 1 (R12). -/
theorem saveFigure_eq (p : PriceItem) :
    saveFigure p =
      if wasPrice p = none then none
      else if 1 ≤ 100 * (p.ticket - shownPrice p) / p.ticket then
        some (100 * (p.ticket - shownPrice p) / p.ticket)
      else none := by
  unfold saveFigure
  cases h : wasPrice p with
  | none => simp
  | some w =>
    have hw : w = p.ticket := by
      unfold wasPrice at h
      split at h
      · exact (Option.some.inj h).symm
      · cases h
    subst hw
    simp

/-- A save figure is a percentage of 1 to 99, the quotient truncated (R12). -/
theorem saveFigure_some {p : PriceItem} {v : Nat} (ht : 1 ≤ p.ticket) (hs : 1 ≤ shownPrice p)
    (h : saveFigure p = some v) :
    wasPrice p ≠ none ∧ 1 ≤ v ∧ v ≤ 99 ∧ v * p.ticket ≤ 100 * (p.ticket - shownPrice p) ∧
      100 * (p.ticket - shownPrice p) < (v + 1) * p.ticket := by
  rw [saveFigure_eq] at h
  split at h
  · cases h
  · rename_i hwas
    split at h
    · rename_i h1
      obtain rfl := Option.some.inj h
      refine ⟨hwas, h1, ?_, Nat.div_mul_le_self _ _, (Nat.div_lt_iff_lt_mul ht).mp (Nat.lt_succ_self _)⟩
      have : 100 * (p.ticket - shownPrice p) / p.ticket < 100 := (Nat.div_lt_iff_lt_mul ht).mpr (by omega)
      omega
    · cases h

/-- A saving of less than 1 per cent has no figure (R12). -/
theorem saveFigure_none {p : PriceItem} (ht : 1 ≤ p.ticket) (h : saveFigure p = none) (hw : wasPrice p ≠ none) :
    100 * (p.ticket - shownPrice p) < p.ticket := by
  rw [saveFigure_eq, if_neg hw] at h
  split at h
  · cases h
  · rename_i h1
    simpa using (Nat.div_lt_iff_lt_mul ht).mp (Nat.not_le.mp h1)

/-- Settles O49, stage by stage. -/
theorem priceLaw : Obligations.PriceLaw := by
  unfold Obligations.PriceLaw
  intro p ht htmax hfloor hpercent hset hending
  have hshown := shownPrice_eq p
  have hraw : rawPrice p ≤ 9999999 := by
    by_cases hs : ∃ k, p.markdown = .set k
    · obtain ⟨k, hk⟩ := hs
      simpa [rawPrice, hk] using (hset k hk).2
    · exact Nat.le_trans (rawPrice_le (by simpa using hs)) htmax
  have hended : endedPrice p ≤ rawPrice p := afterEnding_le _ _
  refine ⟨rawPrice p, endedPrice p, shownPrice p, rfl, by omega, by omega, by omega, fun h => by simp [rawPrice, h],
    fun k h => by simp [rawPrice, h], fun k h => ?_, fun k h => ?_, ?_, fun e hu he hle => ?_, fun e hu he hlt => ?_,
    fun h => ?_, ?_, hshown, ?_, ?_, fun h => ?_, rfl, fun v h => saveFigure_some ht (by omega) h,
    fun h hw => saveFigure_none ht h hw, rfl, rfl, rfl, rfl, rfl, rfl, rfl, rfl⟩
  · simp only [rawPrice, h]
    split <;> omega
  · rw [rawPrice_percent h]
    omega
  · cases hm : p.markdown <;> simp [computeNotes, rateClamped, hm]
  · have ha := activeEnding_eq_some.mpr ⟨hu, he⟩
    obtain ⟨h1, h2⟩ := afterEnding_greatest hle (hending e he).2
    exact ⟨hended, by rwa [endedPrice, ha], by rwa [endedPrice, ha]⟩
  · rw [endedPrice, activeEnding_eq_some.mpr ⟨hu, he⟩, afterEnding_skipped hlt]
  · have ha : activeEnding p = none := by
      cases hcase : activeEnding p with
      | none => rfl
      | some e =>
        obtain ⟨hu, he⟩ := activeEnding_eq_some.mp hcase
        rcases h with h | h
        · exact absurd hu h
        · simp [h] at he
    simp [endedPrice, ha, afterEnding]
  · have : (computeNotes { price := some p }).endingSkipped = true ↔
        ∃ e, activeEnding p = some e ∧ rawPrice p < e.value := by
      cases ha : activeEnding p <;> simp [computeNotes, endingSkipped, ha]
    simp only [this, activeEnding_eq_some, and_assoc, exists_and_left]
  · simp [computeNotes]
  · simp [computeNotes, afterMinimum_eq, effectiveFloor]
  · have := rawPrice_le h
    omega

/-! ### Stage 7 (R13 to R15) -/

/-- Settles O50: the unit price is a truncated quotient with half a divisor added. -/
theorem unitPriceLaw : Obligations.UnitPriceLaw := by
  unfold Obligations.UnitPriceLaw
  intro i
  refine ⟨fun h => ?_, fun u hu hp => ?_, fun u p hu hp hq => ?_, rfl, rfl, rfl, rfl, rfl, rfl, rfl, rfl, rfl, rfl,
    rfl, fun h => ?_⟩
  · cases hp : i.price <;> simp [computeFace, computeNotes, unitField, h, hp]
  · simp [computeFace, computeNotes, unitField, hu, hp]
  · have hpos : 0 < 2 * u.quantity := by omega
    refine ⟨shownPrice p, unitPrice (shownPrice p) u, by simp [computeFace, hp], Nat.mul_div_le _ _,
      Nat.lt_mul_div_succ _ hpos, ?_, ?_, ?_, ?_⟩
    · simp only [computeFace, unitField, hu, hp]
      by_cases hx : 1 ≤ unitPrice (shownPrice p) u ∧ unitPrice (shownPrice p) u ≤ 9999999
      · rw [if_pos hx, if_neg (by unfold maxMoney; omega)]
      · rw [if_neg hx, if_pos (by unfold maxMoney; omega)]
    · simp [computeNotes, hu, hp]
    · simp only [computeNotes, hu, hp, decide_eq_true_eq]
      rfl
    · simp [computeNotes, hp]
  · simp [computeFace, computeNotes, h]

/-! ### The fit (R18 to R21) -/

theorem tooWide_iff {f : Face} {m : ModelRecord} :
    tooWide f m = true ↔ ∃ p, f.price = some p ∧ 10 ^ m.priceDigits ≤ p := by
  simp [tooWide, Option.any_eq_true]

theorem wasTooWide_iff {f : Face} {m : ModelRecord} :
    wasTooWide f m = true ↔ ∃ w, f.was = some w ∧ 10 ^ m.priceDigits ≤ w := by
  simp [wasTooWide, Option.any_eq_true]

theorem unitTooWide_iff {f : Face} {m : ModelRecord} :
    unitTooWide f m = true ↔ ∃ u, f.unit = some u ∧ (m.unitDigits = 0 ∨ 10 ^ m.unitDigits ≤ u.2) := by
  simp [unitTooWide, Option.any_eq_true]

theorem showsUnit_iff {m : ModelRecord} : m.showsUnit = true ↔ m.fields.unit = true ∧ 1 ≤ m.unitDigits := by
  simp [ModelRecord.showsUnit]

theorem carried_noPrice {α : Type} (shows : Bool) (x : Option α) : carried false shows x = .notCarried := rfl

theorem carried_notShown {α : Type} (hasPrice : Bool) (x : Option α) : carried hasPrice false x = .notCarried := by
  simp [carried]

/-- What a delivered face and its fit notes are, field by field (R18 to R21). -/
theorem fit_eq_some {f : Face} {m : ModelRecord} {d : DeliveredFace} {n : FitNotes} (h : fit f m = some (d, n)) :
    tooWide f m = false ∧ d = deliver (afterFieldSet (afterWidth f m) m) m ∧
      n = { wasDropped := wasTooWide f m, unitDropped := unitTooWide f m
            fieldsDropped := dropsField (afterWidth f m) m, unitCleared := decide (d.unit = .clear) } := by
  unfold fit at h
  dsimp only at h
  split at h
  · cases h
  · rename_i hw
    obtain ⟨rfl, rfl⟩ := Prod.mk.inj (Option.some.inj h)
    exact ⟨by simpa using hw, rfl, rfl⟩

theorem fit_eq_none {f : Face} {m : ModelRecord} : fit f m = none ↔ tooWide f m = true := by
  unfold fit
  dsimp only
  split <;> simp_all

/-! ### The encoding (R22, 12.2) -/

theorem bytesOfNat_one (x : Nat) : bytesOfNat 1 x = [BitVec.ofNat 8 x] := rfl

theorem bytesOfNat_four (x : Nat) :
    bytesOfNat 4 x = [BitVec.ofNat 8 (x / 16777216), BitVec.ofNat 8 (x / 65536), BitVec.ofNat 8 (x / 256),
      BitVec.ofNat 8 x] := by
  simp [bytesOfNat, Nat.div_div_eq_div_mul]

theorem encodeOption_length_le {α : Type} {tag : Byte} {contents : α → List Byte} {n : Nat}
    (h : ∀ a, (contents a).length = n) (x : Option α) : (encodeOption tag contents x).length ≤ n + 1 := by
  cases x <;> simp [encodeOption, h]

theorem encodeArea_length_le {α : Type} {tag : Byte} {contents : α → List Byte} {n : Nat}
    (h : ∀ a, (contents a).length = n) (x : Area α) : (encodeArea tag n contents x).length ≤ n + 1 := by
  cases x <;> simp [encodeArea, h]

/-- All eight fields together take 27 bytes (R22). -/
theorem encodeFace_length_le (d : DeliveredFace) : (encodeFace d).length ≤ 27 := by
  have h1 := encodeOption_length_le (tag := 1) (Laws.bytesOfNat_length 4) d.price
  have h2 := encodeArea_length_le (tag := 2) (Laws.bytesOfNat_length 4) d.was
  have h3 := encodeArea_length_le (tag := 3) (Laws.bytesOfNat_length 1) d.save
  have h4 := encodeArea_length_le (tag := 4) (n := 5)
    (contents := fun u : UnitCode × Nat => bytesOfNat 1 u.1.toNat ++ bytesOfNat 4 u.2) (by simp) d.unit
  have h5 := encodeOption_length_le (tag := 5) (n := 1) (contents := fun b : Badge => bytesOfNat 1 b.toNat)
    (by simp) d.badge
  have h6 := encodeOption_length_le (tag := 6) (n := 1) (contents := fun m : StockMark => bytesOfNat 1 m.toNat)
    (by simp) d.stock
  have h7 := encodeOption_length_le (tag := 7) (Laws.bytesOfNat_length 2) d.ends
  have h8 := encodeOption_length_le (tag := 8) (Laws.bytesOfNat_length 1) d.locate
  simp only [encodeFace, List.length_append]
  omega

/-- Settles O51. -/
theorem deliveredFaceFitsModel : Obligations.DeliveredFaceFitsModel := by
  unfold Obligations.DeliveredFaceFitsModel
  refine ⟨fun d => ?_, fun f m => ⟨fit_eq_none.trans tooWide_iff, fun d n h => ?_⟩⟩
  · refine ⟨_, _, _, _, _, _, _, _, rfl, ?_, ?_, ?_, ?_, ?_, ?_, ?_, ?_⟩
    · cases d.price <;> simp [encodeOption, bytesOfNat_four]
    · cases d.was <;> simp [encodeArea, bytesOfNat_four]
    · cases d.save <;> simp [encodeArea, bytesOfNat_one]
    · rcases d.unit with _ | _ | ⟨code, x⟩
      · rfl
      · rfl
      · cases code <;> simp [encodeArea, bytesOfNat_four, bytesOfNat_one, UnitCode.toNat]
    · rcases d.badge with _ | x
      · rfl
      · cases x <;> rfl
    · rcases d.stock with _ | x
      · rfl
      · cases x <;> rfl
    · cases d.ends <;> rfl
    · cases d.locate <;> rfl
  · obtain ⟨hwide, rfl, rfl⟩ := fit_eq_some h
    dsimp only
    simp only [← wasTooWide_iff, ← unitTooWide_iff, ← showsUnit_iff]
    refine ⟨rfl, fun hp => ?_, fun hp => ?_, rfl, rfl, rfl, rfl, trivial, trivial, ?_, by simp, encodeFace_length_le _⟩
    · simp [deliver, afterFieldSet, afterWidth, hp, carried_noPrice]
    · have hsome : f.price.isSome = true := Option.isSome_iff_ne_none.mpr hp
      simp only [deliver, afterFieldSet, afterWidth, hsome]
      refine ⟨fun hm => ?_, fun hm => ⟨fun w hw hn => ?_, fun hn => ?_⟩, fun hm => ?_, fun hm => ⟨fun w hw hn => ?_,
        fun hn => ?_⟩, fun hm => ?_, fun hm => ⟨fun w hw hn => ?_, fun hn => ?_⟩⟩
      · rw [hm, carried_notShown]
      · simp [hm, hw, hn, keepIf, carried]
      · rcases hn with hn | hn <;> simp [hm, hn, keepIf, carried]
      · rw [hm, carried_notShown]
      · simp [hm, hw, hn, keepIf, carried]
      · rcases hn with hn | hn <;> simp [hm, hn, keepIf, carried]
      · rw [Bool.not_eq_true _ |>.mp hm, carried_notShown]
      · simp [hm, (showsUnit_iff.mp hm).1, hw, hn, keepIf, carried]
      · rcases hn with hn | hn <;> simp [hm, hn, keepIf, carried]
    · cases hw : wasTooWide f m <;> cases hu : unitTooWide f m <;>
        simp [dropsField, afterWidth, hw, hu, Option.isSome_iff_ne_none, or_assoc]

end Sys2Proof.Machine
end


section
/-! What the operations of the Change Book do not read: the exchange on the air, a halt that is waiting, and the severities,
which decide nothing but whether a fault hands on a halt (R147). `Indifferent F` says that `F` acts the same under any
of them, and hands on a halt exactly when a kind that it latches has severity STOP. -/

namespace Sys2Proof.Machine

/-- The dialogue and the carrier counted: what a frame heard changes beside the blocks. -/
structure Exchange where
  dialogue : Dialogue
  carriers : Nat

/-- The state with another exchange on the air, another halt waiting, and other severities. -/
def dress (d : Exchange) (halt : Bool) (severity : PerKind Severity) (s : State) : State :=
  { s with
    dialogue := d.dialogue, carriers := d.carriers, halt := halt
    config := { s.config with policy := { s.config.policy with severity := severity } } }

/-- The halt that faults of these kinds leave waiting, after the one that was (R141, R147). -/
def haltAfter (halt : Bool) (kinds : List FaultKind) (severity : PerKind Severity) (o : OpState) : Bool :=
  halt || (kinds.any (fun k => severity.get k == .stop) && o != .starting)

theorem haltAfter_nil (b : Bool) (v : PerKind Severity) (o : OpState) : haltAfter b [] v o = b := by simp [haltAfter]

theorem haltAfter_append (b : Bool) (k₁ k₂ : List FaultKind) (v : PerKind Severity) (o : OpState) :
    haltAfter b (k₁ ++ k₂) v o = haltAfter (haltAfter b k₁ v o) k₂ v o := by
  simp only [haltAfter, List.any_append]
  cases b <;> cases o != .starting <;> simp

section
variable {ι : Type} {wear : ι → Bool → PerKind Severity → State → State}

/-- In this state the operation acts the same whatever the state wears, latching these kinds and handing on their
halt. -/
structure RaisesUnder (wear : ι → Bool → PerKind Severity → State → State) (F : State → State) (s : State)
    (kinds : List FaultKind) : Prop where
  latched : (F s).latched = kinds.foldl PerKind.insert s.latched
  opState : (F s).opState = s.opState
  dressed : ∀ d b v, F (wear d b v s) = wear d (haltAfter b kinds v s.opState) v (F s)

/-- The operation acts the same whatever the state wears. -/
abbrev BlindTo (wear : ι → Bool → PerKind Severity → State → State) (F : State → State) : Prop :=
  ∀ s, ∃ kinds, RaisesUnder wear F s kinds

/-- The operations that latch nothing. -/
theorem RaisesUnder.silent {F : State → State} {s : State} (hl : (F s).latched = s.latched)
    (ho : (F s).opState = s.opState) (h : ∀ d b v, F (wear d b v s) = wear d b v (F s)) : RaisesUnder wear F s [] :=
  ⟨hl, ho, fun d b v => by rw [haltAfter_nil, h]⟩

theorem RaisesUnder.comp {F G : State → State} {s : State} {k₁ k₂ : List FaultKind} (hG : RaisesUnder wear G s k₁)
    (hF : RaisesUnder wear F (G s) k₂) : RaisesUnder wear (fun t => F (G t)) s (k₁ ++ k₂) := by
  refine ⟨?_, hF.opState.trans hG.opState, fun d b v => ?_⟩
  · rw [hF.latched, hG.latched, List.foldl_append]
  · rw [hG.dressed, hF.dressed, hG.opState, haltAfter_append]

/-- An operation that agrees, on this state whatever it wears, with one that acts the same. -/
theorem RaisesUnder.congr {F G : State → State} {s : State} {kinds : List FaultKind} (h : RaisesUnder wear G s kinds)
    (hs : F s = G s) (hd : ∀ d b v, F (wear d b v s) = G (wear d b v s)) : RaisesUnder wear F s kinds :=
  ⟨hs ▸ h.latched, hs ▸ h.opState, fun d b v => by rw [hd, h.dressed, hs]⟩

theorem BlindTo.comp {F G : State → State} (hF : BlindTo wear F) (hG : BlindTo wear G) :
    BlindTo wear (fun s => F (G s)) := fun s =>
  let ⟨_, h₁⟩ := hG s
  let ⟨_, h₂⟩ := hF (G s)
  ⟨_, h₁.comp h₂⟩

theorem BlindTo.silent {F : State → State} (hl : ∀ s, (F s).latched = s.latched)
    (ho : ∀ s, (F s).opState = s.opState) (h : ∀ d b v s, F (wear d b v s) = wear d b v (F s)) : BlindTo wear F :=
  fun s => ⟨[], .silent (hl s) (ho s) (fun d b v => h d b v s)⟩

theorem BlindTo.id : BlindTo wear (fun s => s) := .silent (fun _ => rfl) (fun _ => rfl) (fun _ _ _ _ => rfl)

/-- A choice between two operations, by what no dress changes. -/
theorem BlindTo.ite {F G : State → State} {p : State → Bool} (hp : ∀ d b v s, p (wear d b v s) = p s)
    (hF : BlindTo wear F) (hG : BlindTo wear G) : BlindTo wear (fun s => if p s = true then F s else G s) := by
  intro s
  cases hps : p s with
  | true =>
    obtain ⟨k, h⟩ := hF s
    exact ⟨k, h.congr (by simp [hps]) (fun d b v => by simp [hp, hps])⟩
  | false =>
    obtain ⟨k, h⟩ := hG s
    exact ⟨k, h.congr (by simp [hps]) (fun d b v => by simp [hp, hps])⟩

theorem BlindTo.foldl {α : Type} {f : State → α → State} (h : ∀ a, BlindTo wear (fun s => f s a)) :
    ∀ as : List α, BlindTo wear (fun s => as.foldl f s)
  | [] => .id
  | a :: as => BlindTo.comp (BlindTo.foldl h as) (h a)
end

/-- In this state the operation acts the same under every dress. -/
abbrev Raises (F : State → State) (s : State) (kinds : List FaultKind) : Prop := RaisesUnder dress F s kinds

/-- The operation acts the same under every dress. -/
abbrev Indifferent (F : State → State) : Prop := BlindTo dress F

/-- A state is its own dress. -/
theorem dress_self (s : State) : dress ⟨s.dialogue, s.carriers⟩ s.halt s.config.policy.severity s = s := rfl

/-- The halt that the operation leaves. -/
theorem RaisesUnder.halt {F : State → State} {s : State} {kinds : List FaultKind} (h : Raises F s kinds) :
    (F s).halt = haltAfter s.halt kinds s.config.policy.severity s.opState := by
  have := h.dressed ⟨s.dialogue, s.carriers⟩ s.halt s.config.policy.severity
  rw [dress_self] at this
  rw [this]
  rfl

/-- The severities are kept. -/
theorem RaisesUnder.severity {F : State → State} {s : State} {kinds : List FaultKind} (h : Raises F s kinds) :
    (F s).config.policy.severity = s.config.policy.severity := by
  have := h.dressed ⟨s.dialogue, s.carriers⟩ s.halt s.config.policy.severity
  rw [dress_self] at this
  rw [this]
  rfl

/-- The carrier counted is kept. -/
theorem RaisesUnder.carriers {F : State → State} {s : State} {kinds : List FaultKind} (h : Raises F s kinds) :
    (F s).carriers = s.carriers := by
  have := h.dressed ⟨s.dialogue, s.carriers⟩ s.halt s.config.policy.severity
  rw [dress_self] at this
  rw [this]
  rfl

/-- Under another exchange on the air the operation leaves the same state but for the exchange. -/
theorem Indifferent.exchange {F : State → State} (hF : Indifferent F) (d : Dialogue) (n : Nat) (s : State) :
    F { s with dialogue := d, carriers := n } = { F s with dialogue := d, carriers := n } := by
  obtain ⟨k, h⟩ := hF s
  have hd := h.dressed ⟨d, n⟩ s.halt s.config.policy.severity
  rw [← h.halt] at hd
  refine hd.trans ?_
  rw [← h.severity]
  rfl

/-! ### Faults and reports -/

theorem latch_indifferent (d : Detail) (l : LabelAddr) (c : Byte) (g : GroupNo) : Indifferent (latch d l c g) :=
  fun s => ⟨[d.kind], rfl, rfl, fun dl b v => by
    simp only [haltAfter, List.any_cons, List.any_nil, Bool.or_false]
    rfl⟩

theorem eventReport_indifferent {r : State → ReportBody} (h : ∀ d b v s, r (dress d b v s) = r s) :
    Indifferent (fun s => eventReport (r s) s) := by
  refine BlindTo.ite (F := fun s => pushReport (r s) s) (p := State.hasRoom) (fun _ _ _ _ => rfl) ?_ .id
  refine .silent (fun _ => rfl) (fun _ => rfl) (fun d b v s => ?_)
  rw [h]
  rfl

theorem noteLate_indifferent (was : Bool) (e : Entry) : Indifferent (noteLate was e) :=
  BlindTo.ite (p := fun _ => e.late && !was) (fun _ _ _ _ => rfl)
    (BlindTo.comp (eventReport_indifferent (r := ownReport .late e) (fun _ _ _ _ => rfl))
      (latch_indifferent .d205 e.label 0 e.lastGroup)) .id

theorem setEntry_indifferent (e : Entry) : Indifferent (fun s => s.setEntry e) :=
  .silent (fun _ => rfl) (fun _ => rfl) (fun _ _ _ _ => rfl)

/-! ### Either of two orders -/

/-- The first-named order is taken where the free value says so. -/
theorem eitherOrder_first {a b : State} (h : a.firstFault ≠ b.firstFault)
    (ho : Config.faultOrder (max a.choices b.choices) = true) :
    Machine.eitherOrder a b = { a with choices := max a.choices b.choices + 1 } := by
  simp [Machine.eitherOrder, h, ho]

/-- The second-named order is taken where the free value says so. -/
theorem eitherOrder_second {a b : State} (h : a.firstFault ≠ b.firstFault)
    (ho : Config.faultOrder (max a.choices b.choices) = false) :
    Machine.eitherOrder a b = { b with choices := max a.choices b.choices + 1 } := by
  simp [Machine.eitherOrder, h, ho]

/-- Either of two orders, under a dress that shows the log and the free values taken. -/
theorem BlindTo.eitherOrder {ι : Type} {wear : ι → Bool → PerKind Severity → State → State} {F G : State → State}
    (hlog : ∀ d b v s, (wear d b v s).firstFault = s.firstFault) (hc : ∀ d b v s, (wear d b v s).choices = s.choices)
    (hset : ∀ d b v s n, { wear d b v s with choices := n } = wear d b v { s with choices := n })
    (hF : BlindTo wear F) (hG : BlindTo wear G) : BlindTo wear (fun s => Machine.eitherOrder (F s) (G s)) := by
  intro s
  obtain ⟨k₁, h₁⟩ := hF s
  obtain ⟨k₂, h₂⟩ := hG s
  by_cases hsame : (F s).firstFault = (G s).firstFault
  · refine ⟨k₁, h₁.congr (eitherOrder_of_eq hsame) (fun d b v => ?_)⟩
    rw [h₁.dressed, h₂.dressed]
    exact eitherOrder_of_eq (by rwa [hlog, hlog])
  · cases horder : Config.faultOrder (max (F s).choices (G s).choices) with
    | true =>
      refine ⟨k₁, ?_, ?_, fun d b v => ?_⟩
      · rw [eitherOrder_first hsame horder, ← h₁.latched]
      · rw [eitherOrder_first hsame horder, ← h₁.opState]
      · rw [h₁.dressed, h₂.dressed, eitherOrder_first hsame horder,
          eitherOrder_first (by rwa [hlog, hlog]) (by rwa [hc, hc]), hc, hc, hset]
    | false =>
      refine ⟨k₂, ?_, ?_, fun d b v => ?_⟩
      · rw [eitherOrder_second hsame horder, ← h₂.latched]
      · rw [eitherOrder_second hsame horder, ← h₂.opState]
      · rw [h₁.dressed, h₂.dressed, eitherOrder_second hsame horder,
          eitherOrder_second (by rwa [hlog, hlog]) (by rwa [hc, hc]), hc, hc, hset]

theorem Indifferent.eitherOrder {F G : State → State} (hF : Indifferent F) (hG : Indifferent G) :
    Indifferent (fun s => Machine.eitherOrder (F s) (G s)) :=
  BlindTo.eitherOrder (fun _ _ _ _ => rfl) (fun _ _ _ _ => rfl) (fun _ _ _ _ _ => rfl) hF hG

/-! ### Closing and promotion -/

/-- No dress changes the entry that a closing hands back for its LATE report. -/
theorem closeOut_dress_snd (e : Entry) (r : ClosingRecord) (d : Exchange) (b : Bool) (v : PerKind Severity)
    (s : State) : (closeOut e r (dress d b v s)).2 = (closeOut e r s).2 := by
  unfold closeOut
  cases e.successor with
  | none => rfl
  | some p =>
    have hn : promote (pushReport (closingReport e r) (dress d b v s)) e p =
        promote (pushReport (closingReport e r) s) e p := rfl
    dsimp only
    rw [hn]
    split <;> rfl

theorem closeOut_indifferent (e : Entry) (r : ClosingRecord) : Indifferent (fun s => (closeOut e r s).1) := by
  have hreport : Indifferent (pushReport (closingReport e r)) :=
    .silent (fun _ => rfl) (fun _ => rfl) (fun _ _ _ _ => rfl)
  intro s
  cases hp : e.successor with
  | none =>
    refine ⟨[], .silent ?_ ?_ fun d b v => ?_⟩
    all_goals simp only [closeOut, hp]
    all_goals rfl
  | some p =>
    let n := promote (pushReport (closingReport e r) s) e p
    have hn : ∀ d b v, promote (pushReport (closingReport e r) (dress d b v s)) e p = n := fun _ _ _ => rfl
    cases hl : n.late with
    | true =>
      obtain ⟨k, h⟩ := ((latch_indifferent .d205 n.label 0 n.lastGroup).comp (setEntry_indifferent n)).comp hreport s
      refine ⟨k, h.congr ?_ fun d b v => ?_⟩
      · simp only [closeOut, hp]
        exact congrArg Prod.fst (if_pos hl)
      · simp only [closeOut, hp, hn]
        exact congrArg Prod.fst (if_pos hl)
    | false =>
      obtain ⟨k, h⟩ := (setEntry_indifferent n).comp hreport s
      refine ⟨k, h.congr ?_ fun d b v => ?_⟩
      · simp only [closeOut, hp]
        exact congrArg Prod.fst (if_neg (by simpa using hl))
      · simp only [closeOut, hp, hn]
        exact congrArg Prod.fst (if_neg (by simp [hl]))

theorem reportPromoted_indifferent (ns : List Entry) : Indifferent (reportPromoted ns) :=
  BlindTo.foldl (fun n => eventReport_indifferent (r := ownReport .late n) (fun _ _ _ _ => rfl)) ns

/-- With nothing waiting before it and room in the queue an entry is closed out at once (R59 to R61). -/
theorem enterClosing_now {s : State} (h : s.closing = [] ∧ s.reports.length < 256) (e : Entry) (o : ClosingOutcome)
    (dl : Deliverer) (ver : Version) :
    enterClosing e o dl ver s =
      (let x : Entry := { e with state := .closing ⟨o, dl, ver, s.clock⟩, late := false }
      let closed := closeOut x ⟨o, dl, ver, s.clock⟩ (s.setEntry x)
      reportPromoted closed.2.toList closed.1) := by
  unfold enterClosing
  dsimp only
  refine if_pos ?_
  simp [h.1, State.hasRoom, h.2]

theorem not_closesNow {s : State} (h : ¬ (s.closing = [] ∧ s.reports.length < 256)) :
    s.closing ≠ [] ∨ 256 ≤ s.reports.length := by
  by_cases hc : s.closing = []
  · exact .inr (Nat.not_lt.mp fun hlt => h ⟨hc, hlt⟩)
  · exact .inl hc

theorem enterClosing_indifferent (e : Entry) (o : ClosingOutcome) (dl : Deliverer) (ver : Version) :
    Indifferent (enterClosing e o dl ver) := by
  intro s
  by_cases h : s.closing = [] ∧ s.reports.length < 256
  · let r : ClosingRecord := ⟨o, dl, ver, s.clock⟩
    let x : Entry := { e with state := .closing r, late := false }
    let ns := (closeOut x r (s.setEntry x)).2.toList
    obtain ⟨k, hk⟩ := ((reportPromoted_indifferent ns).comp (closeOut_indifferent x r)).comp
      (setEntry_indifferent x) s
    refine ⟨k, hk.congr (enterClosing_now h e o dl ver) fun d b v => ?_⟩
    refine (enterClosing_now (s := dress d b v s) h e o dl ver).trans ?_
    change reportPromoted (closeOut x r (dress d b v (s.setEntry x))).2.toList _ = _
    rw [closeOut_dress_snd]
    rfl
  · have hw := not_closesNow h
    refine ⟨[], .silent ?_ ?_ fun d b v => ?_⟩
    · rw [enterClosing_waits hw]
    · rw [enterClosing_waits hw]
    · rw [enterClosing_waits (s := dress d b v s) hw, enterClosing_waits hw]
      rfl

/-! ### The outcomes of a transfer -/

theorem returnToWaiting_indifferent (e : Entry) : Indifferent (returnToWaiting e) := by
  intro s
  cases hp : e.successor with
  | none =>
    refine ⟨[], .silent ?_ ?_ fun d b v => ?_⟩
    all_goals simp only [returnToWaiting, hp]
    all_goals rfl
  | some p =>
    obtain ⟨k, h⟩ := (noteLate_indifferent e.late (chain s e p)).comp (setEntry_indifferent (chain s e p)) s
    refine ⟨k, h.congr ?_ fun d b v => ?_⟩
    all_goals simp only [returnToWaiting, hp]
    rfl

theorem abandon_indifferent (e : Entry) : Indifferent (abandon e) := by
  intro s
  have hclose := enterClosing_indifferent e .abandoned s.own e.target
  have hfault := latch_indifferent .d203 e.label 0 e.lastGroup
  obtain ⟨k, h⟩ := Indifferent.eitherOrder (hclose.comp hfault) (hfault.comp hclose) s
  exact ⟨k, h.congr rfl fun _ _ _ => rfl⟩

theorem failedTransfer_indifferent (e : Entry) : Indifferent (failedTransfer e) := by
  intro s
  let x : Entry := { e with limit := limitFor s e.label, attempts := min (e.attempts + 1) (limitFor s e.label) }
  by_cases hlimit : min (e.attempts + 1) (limitFor s e.label) = limitFor s e.label
  · obtain ⟨k, h⟩ := abandon_indifferent x s
    exact ⟨k, h.congr (if_pos hlimit) fun _ _ _ => if_pos hlimit⟩
  · obtain ⟨k, h⟩ := returnToWaiting_indifferent x s
    exact ⟨k, h.congr (if_neg hlimit) fun _ _ _ => if_neg hlimit⟩

/-- What the book does with an entry whose transfer has had this outcome (R55 to R58). -/
def bookTakes (o : TransferOutcome) (held : Version) (e : Entry) (s : State) : State :=
  match o with
  | .done => enterClosing e .delivered s.own e.target s
  | .current => enterClosing e .seenCurrent .label held s
  | .mismatch => enterClosing e .mismatch .label held s
  | .lowPower | .cutOff => returnToWaiting e s
  | .noAnswer | .lost | .uncertain | .badFace => failedTransfer e s

/-- The outcome of the transfer of an entry that is there. -/
theorem transferOutcome_of_entry {slot : Nat} {e : Entry} {s : State} (h : s.entryAt slot = some e)
    (o : TransferOutcome) (held : Version) :
    transferOutcome slot o held s = bookTakes o held { e with lastOutcome := some o } s := by
  cases o <;> simp only [transferOutcome, h] <;> rfl

theorem bookTakes_indifferent (o : TransferOutcome) (held : Version) (e : Entry) :
    Indifferent (bookTakes o held e) := by
  cases o
  case done =>
    intro s
    obtain ⟨k, h⟩ := enterClosing_indifferent e .delivered s.own e.target s
    exact ⟨k, h.congr rfl fun _ _ _ => rfl⟩
  case current => exact enterClosing_indifferent e .seenCurrent .label held
  case mismatch => exact enterClosing_indifferent e .mismatch .label held
  case lowPower | cutOff => exact returnToWaiting_indifferent e
  case noAnswer | lost | uncertain | badFace => exact failedTransfer_indifferent e

theorem transferOutcome_indifferent (slot : Nat) (o : TransferOutcome) (held : Version) :
    Indifferent (transferOutcome slot o held) := by
  intro s
  have hat : ∀ d b v, (dress d b v s).entryAt slot = s.entryAt slot := fun _ _ _ => rfl
  cases he : s.entryAt slot with
  | none =>
    refine ⟨[], .silent ?_ ?_ fun d b v => ?_⟩
    all_goals simp only [transferOutcome, hat, he]
  | some e =>
    obtain ⟨k, h⟩ := bookTakes_indifferent o held { e with lastOutcome := some o } s
    exact ⟨k, h.congr (transferOutcome_of_entry he o held) fun d b v =>
      transferOutcome_of_entry (s := dress d b v s) he o held⟩

/-- A transfer ends the same under every dress, but for the halt: it ends in LISTENING. -/
theorem endTransfer_dress {s : State} {k : List FaultKind} {slot : Nat} {o : TransferOutcome} {held : Version}
    (h : Raises (transferOutcome slot o held) s k) (p : Phase) {c : TransferContext} (hc : c.slot = slot)
    (d : Exchange) (b : Bool) (v : PerKind Severity) :
    endTransfer p c o held (dress d b v s) =
      dress ⟨.listening, d.carriers⟩ (haltAfter b k v s.opState) v (endTransfer p c o held s) := by
  subst hc
  have hsent : coveredAtEnd p c (dress d b v s).transmitting.isSome = coveredAtEnd p c s.transmitting.isSome := rfl
  unfold endTransfer
  rw [h.dressed, hsent]
  rfl

end Sys2Proof.Machine
end


section
/-! Frames of the air that no phase awaits: a wait goes on, or expires as at its own deadline (R81, R88, R107). -/

namespace Sys2Proof.Machine

/-! ### A frame heard -/

/-- The dialogue once a frame's carrier has stopped any standoff (R107). -/
def heardDialogue : Dialogue → Dialogue
  | .standingOff _ => .listening
  | .listening => .listening
  | .transferring p c => .transferring p c
  | .tallying n => .tallying n

theorem standDown_eq (s : State) : standDown s = { s with dialogue := heardDialogue s.dialogue } := by
  cases s with | mk => ?_
  rename_i dialogue _ _ _ _ _ _ _ _ _ _ _ _ _ _
  cases dialogue <;> rfl

/-- A frame's end stops a standoff and ends the frame's own carrier, and does nothing else (R105, R107). -/
theorem frameHeard_eq (s : State) :
    frameHeard s = { s with dialogue := heardDialogue s.dialogue, carriers := s.carriers - 1 } := by
  rw [frameHeard, standDown_eq]
  rfl

theorem heardDialogue_not_standingOff (d : Dialogue) (c : TransferContext) : heardDialogue d ≠ .standingOff c := by
  cases d <;> simp [heardDialogue]

theorem dialogueGoesOn_heard (d : Dialogue) : dialogueGoesOn (heardDialogue d) = dialogueGoesOn d := by
  cases d <;> rfl

/-- A deadline ahead is ahead still when the frame's carrier has been heard. -/
theorem deadlineAhead_heard {s t : State} (h : t.dialogue = heardDialogue s.dialogue) :
    deadlineAhead t = deadlineAhead s := by
  unfold deadlineAhead
  rw [h]
  cases s.dialogue <;> rfl

/-- A frame that no phase awaits, in a state of the Engine after a frame heard, before any deadline. -/
theorem unawaited_of_ahead {s : State} (hd : ∀ c, s.dialogue ≠ .standingOff c) (h : deadlineAhead s = true) :
    unawaited s = { s with dialogue := dialogueGoesOn s.dialogue } := by
  cases s with | mk => ?_
  rename_i dialogue _ _ _ _ _ _ _ _ _ _ _ _ _ _
  rcases dialogue with _ | c | ⟨p, c⟩ | n
  · rfl
  · exact absurd rfl (hd c)
  · rcases c with ⟨_, _, _, _, _, _, _, _, _, _, wait, _, _⟩
    rcases wait with _ | ⟨n, met, passed⟩
    · rfl
    · have hp : passed = false := by simpa [deadlineAhead] using h
      subst hp
      cases met <;> rfl
  · rfl

/-- A wait that a frame start has met and whose deadline has passed expires at the frame's end (R81). -/
theorem unawaited_of_passed {s : State} {p : Phase} {c : TransferContext} {w : Wait}
    (hd : s.dialogue = .transferring p c) (hw : c.wait = some w) (hm : w.met = true) (hp : w.passed = true) :
    unawaited s = waitExpires p c s := by
  simp [unawaited, hd, hw, hm, hp]

/-! ### The expiry of a wait -/

/-- A wait expires the same whatever the exchange and the wait that the state holds, and but for the halt that it
leaves whatever halt is waiting. -/
theorem waitExpires_dress {p : Phase} (hp : ∀ r, p ≠ .sending r) (c : TransferContext) (s : State) :
    ∃ k, ∀ w d n b,
      waitExpires p { c with wait := w } { s with dialogue := d, carriers := n, halt := b } =
        { waitExpires p c s with carriers := n, halt := haltAfter b k s.config.policy.severity s.opState } := by
  have hend : ∀ o, ∃ k, ∀ w d n b,
      endTransfer p { c with wait := w } o 0 { s with dialogue := d, carriers := n, halt := b } =
        { endTransfer p c o 0 s with
          carriers := n, halt := haltAfter b k s.config.policy.severity s.opState } := by
    intro o
    obtain ⟨k, hk⟩ := transferOutcome_indifferent c.slot o 0 s
    refine ⟨k, fun w d n b => ?_⟩
    have hsev : (endTransfer p c o 0 s).config.policy.severity = s.config.policy.severity := hk.severity
    refine (endTransfer_dress hk p (c := { c with wait := w }) rfl ⟨d, n⟩ b s.config.policy.severity).trans ?_
    rw [dress, ← hsev]
    cases p <;> rfl
  cases p with
  | awaitReady => exact hend .noAnswer
  | sending r => exact absurd rfl (hp r)
  | awaitDone => exact hend .uncertain
  | awaitAck =>
    by_cases hc : c.resends < 2 ∧ covers c.fragmentTime s = true
    · refine ⟨[], fun w d n b => ?_⟩
      rw [haltAfter_nil]
      simp only [waitExpires, if_pos hc]
      exact if_pos hc
    · obtain ⟨k, h⟩ := hend .lost
      refine ⟨k, fun w d n b => ?_⟩
      rw [show waitExpires .awaitAck c s = endTransfer .awaitAck c .lost 0 s from if_neg hc, ← h w d n b]
      exact if_neg hc

/-- The command by which a wait expires, at a deadline that no frame start has met. -/
theorem exec_expiryOf {p : Phase} {c : TransferContext} {w : Wait} {x : Instr} {s : State}
    (hx : expiryOf p = some x) (hd : s.dialogue = .transferring p c) (hw : c.wait = some w) (hm : w.met = false) :
    exec x s = .next (settle (waitExpires p c s)) := by
  have hdl : deadline p c s = waitExpires p c s := by simp [deadline, hw, hm]
  cases p <;> cases hx
  · change execReadyWaitExpiry s = _
    simp [execReadyWaitExpiry, hd, hdl]
  · change execAckWaitExpiry s = _
    simp [execAckWaitExpiry, hd, hdl]
  · change execDoneWaitExpiry s = _
    simp [execDoneWaitExpiry, hd, hdl]

/-! ### Halts that change nothing -/

/-- Either no halt waits in `v`, or the station is HALTED and it changes nothing (R141); `u` is `v` without it. -/
structure HaltsNothing (u v : State) : Prop where
  same : v = { u with halt := v.halt }
  clear : u.halt = false
  only : v.halt = true → u.opState = .halted

theorem HaltsNothing.refl {u : State} (h : u.halt = false) : HaltsNothing u u :=
  ⟨rfl, h, fun hc => by simp [h] at hc⟩

/-- In HALTED the ends of commands that differ in the halt are one. -/
theorem settle_of_halted_congr {s : State} (h : s.opState = .halted) (b : Bool) :
    settle { s with halt := b } = settle s := by
  rw [settle_of_halted h, settle_of_halted (s := { s with halt := b }) h]
  rfl

/-- The end of a command that halts nothing. -/
theorem HaltsNothing.settle_eq {u v : State} (h : HaltsNothing u v) :
    settle v = { u with quietWait := quietAfter u } := by
  have hu : settle { u with halt := v.halt } = settle u := by
    cases hv : v.halt with
    | false => rw [← h.clear]
    | true => exact settle_of_halted_congr (h.only hv) true
  rw [h.same, hu, settle_of_no_halt h.clear]

/-- The operating state is kept by the expiry of a wait. -/
theorem waitExpires_opState {p : Phase} (hp : ∀ r, p ≠ .sending r) (c : TransferContext) (s : State) :
    (waitExpires p c s).opState = s.opState := by
  cases p with
  | sending r => exact absurd rfl (hp r)
  | awaitReady => exact (transferOutcome_changes ..).keeps.1
  | awaitDone => exact (transferOutcome_changes ..).keeps.1
  | awaitAck =>
    simp only [waitExpires]
    split
    · rfl
    · exact (transferOutcome_changes ..).keeps.1

/-- The expiry of a wait, with and without such a halt. -/
theorem HaltsNothing.waitExpires_eq {u v : State} (h : HaltsNothing u v) {p : Phase} (hp : ∀ r, p ≠ .sending r)
    (c : TransferContext) (w : Option Wait) (d d' : Dialogue) (n : Nat) :
    settle (waitExpires p c { v with dialogue := d, carriers := n }) =
      settle (waitExpires p { c with wait := w } { u with dialogue := d', carriers := n }) := by
  obtain ⟨k, hk⟩ := waitExpires_dress hp c u
  have hv : waitExpires p c { v with dialogue := d, carriers := n } =
      { waitExpires p c u with
        carriers := n, halt := haltAfter v.halt k u.config.policy.severity u.opState } := by
    rw [← hk c.wait d n v.halt, h.same]
  have hu : waitExpires p { c with wait := w } { u with dialogue := d', carriers := n } =
      { waitExpires p c u with
        carriers := n, halt := haltAfter u.halt k u.config.policy.severity u.opState } := hk w d' n u.halt
  rw [hv, hu]
  cases hvh : v.halt with
  | true =>
    have ho : (waitExpires p c u).opState = .halted := (waitExpires_opState hp c u).trans (h.only hvh)
    exact (settle_of_halted_congr (s := { waitExpires p c u with carriers := n }) ho _).trans
      (settle_of_halted_congr (s := { waitExpires p c u with carriers := n }) ho _).symm
  | false => rw [h.clear]

/-- A frame that no phase awaits: where the command ends as `v` says, with the Engine after the frame heard and the
rest as in `u`, the wait goes on or expires as `NotAwaited` says. -/
theorem notAwaited_of_act {i : Instr} {s u v : State} (hv : HaltsNothing u v)
    (hexec : exec i s = .next (settle (unawaited
      { v with dialogue := heardDialogue s.dialogue, carriers := s.carriers - 1 }))) :
    NotAwaited i s u := by
  refine ⟨fun hahead => ?_, fun p c w x hd hw hm hp hx => ?_⟩
  · let u' : State := { u with dialogue := dialogueGoesOn s.dialogue, carriers := s.carriers - 1 }
    have hun : unawaited { v with dialogue := heardDialogue s.dialogue, carriers := s.carriers - 1 } =
        { u' with halt := v.halt } := by
      rw [unawaited_of_ahead (heardDialogue_not_standingOff _) ((deadlineAhead_heard rfl).trans hahead)]
      dsimp only
      rw [dialogueGoesOn_heard]
      exact congrArg (fun x : State =>
        { x with dialogue := dialogueGoesOn s.dialogue, carriers := s.carriers - 1 }) hv.same
    have hset : settle { u' with halt := v.halt } = { u' with quietWait := quietAfter u' } :=
      HaltsNothing.settle_eq ⟨rfl, hv.clear, hv.only⟩
    exact ⟨{ u' with quietWait := quietAfter u' }, by rw [hexec, hun, hset], rfl, rfl, rfl, rfl⟩
  · have hheard : heardDialogue s.dialogue = .transferring p c := by rw [hd]; rfl
    have hsend : ∀ r, p ≠ .sending r := by
      rintro r rfl
      cases hx
    rw [hexec, hheard, unawaited_of_passed rfl hw hm hp,
      exec_expiryOf (c := { c with wait := some { w with met := false } }) hx rfl rfl rfl]
    rw [hv.waitExpires_eq hsend]

end Sys2Proof.Machine
end


section
/-! The air, command by command: what is never touched, the frames the station sends, carrier, and the frames that
reach no block. -/

namespace Sys2Proof.Machine

/-! ### What the air never touches -/

theorem settleQuiet_changes (s : State) : EngineChanges s (settleQuiet s) := ⟨s, _, _, _, _, _, _, .refl s, rfl⟩

theorem standDown_changes (s : State) : EngineChanges s (standDown s) := by
  rw [standDown_eq]
  exact ⟨s, _, _, _, _, _, _, .refl s, rfl⟩

theorem execFrameStart_changes {s t : State} (h : execFrameStart s = .next t) : AirChanges s t := by
  unfold execFrameStart at h
  split at h <;> cases h
  · exact EngineChanges.air ⟨s, _, _, _, _, _, _, .refl s, rfl⟩
  · exact .refl s

theorem execCarrierSensed_changes {s t : State} (h : execCarrierSensed s = .next t) : AirChanges s t := by
  unfold execCarrierSensed at h
  split at h <;> cases h
  · exact .refl s
  · exact ((standDown_changes s).trans ⟨_, _, _, _, _, _, _, .refl _, rfl⟩).air

theorem execCarrierEnd_changes {s t : State} (h : execCarrierEnd s = .next t) : AirChanges s t := by
  unfold execCarrierEnd at h
  split at h <;> cases h
  · exact .refl s
  · exact EngineChanges.air ⟨s, _, _, _, _, _, _, .refl s, rfl⟩

theorem execStandoffEnd_changes {s t : State} (h : execStandoffEnd s = .next t) : AirChanges s t := by
  unfold execStandoffEnd at h
  split at h <;> cases h
  · exact ((standoffEnds_changes _ s).trans (settleQuiet_changes _)).air
  · exact .refl s

theorem execOfferSent_changes {s t : State} (h : execOfferSent s = .next t) : AirChanges s t := by
  unfold execOfferSent at h
  split at h <;> cases h
  · exact EngineChanges.air ⟨s, _, _, _, _, _, _, .refl s, rfl⟩
  · exact .refl s

theorem execFragSent_changes {s t : State} (h : execFragSent s = .next t) : AirChanges s t := by
  unfold execFragSent at h
  split at h <;> cases h
  · exact EngineChanges.air ⟨s, _, _, _, _, _, _, .refl s, rfl⟩
  · exact .refl s

/-- A deadline reached, with the end of the command. -/
theorem settle_deadline_changes (p : Phase) (c : TransferContext) (s : State) :
    AirChanges s (settle (deadline p c s)) := ((deadline_changes p c s).trans (settle_changes _)).air

theorem execReadyWaitExpiry_changes {s t : State} (h : execReadyWaitExpiry s = .next t) : AirChanges s t := by
  unfold execReadyWaitExpiry at h
  split at h <;> cases h
  · exact settle_deadline_changes ..
  · exact .refl s

theorem execAckWaitExpiry_changes {s t : State} (h : execAckWaitExpiry s = .next t) : AirChanges s t := by
  unfold execAckWaitExpiry at h
  split at h <;> cases h
  · exact settle_deadline_changes ..
  · exact .refl s

theorem execDoneWaitExpiry_changes {s t : State} (h : execDoneWaitExpiry s = .next t) : AirChanges s t := by
  unfold execDoneWaitExpiry at h
  split at h <;> cases h
  · exact settle_deadline_changes ..
  · exact .refl s

theorem execQuietWaitEnd_changes {s t : State} (h : execQuietWaitEnd s = .next t) : AirChanges s t := by
  unfold execQuietWaitEnd at h
  split at h <;> cases h
  · exact (quietWaitEnds_changes s).air
  · exact .refl s

theorem execTallySent_changes {s t : State} (h : execTallySent s = .next t) : AirChanges s t := by
  unfold execTallySent at h
  split at h <;> cases h
  · rename_i n _
    have hl : AirChanges s (toListening { s with tally := s.tally.drop n, tallyCount := 0 }) :=
      ⟨{ s with dialogue := .listening, transmitting := none }, s.roster, s.tally.drop n, 0,
        ⟨s, _, _, _, _, _, _, .refl s, rfl⟩, rfl⟩
    exact hl.trans (settleQuiet_changes _).air
  · exact .refl s

/-- Every command of the air changes at most what a frame on the air can change. -/
theorem exec_airChanges {i : Instr} {s t : State} (hi : isOfAir i = true) (h : exec i s = .next t) :
    AirChanges s t := by
  have ends : ∀ f rssi, frameEnds f rssi s = t → AirChanges s t := fun f rssi h => h ▸ frameEnds_changes f rssi s
  cases i with
  | airFrameDiscarded bytes rssi => exact Host.Outcome.next.inj h ▸ bytesEnd_changes bytes rssi s
  | frameStart => exact execFrameStart_changes h
  | carrierSensed => exact execCarrierSensed_changes h
  | carrierEnd => exact execCarrierEnd_changes h
  | standoffEnd => exact execStandoffEnd_changes h
  | offerSent => exact execOfferSent_changes h
  | readyWaitExpiry => exact execReadyWaitExpiry_changes h
  | fragSent => exact execFragSent_changes h
  | ackWaitExpiry => exact execAckWaitExpiry_changes h
  | doneWaitExpiry => exact execDoneWaitExpiry_changes h
  | quietWaitEnd => exact execQuietWaitEnd_changes h
  | tallySent => exact execTallySent_changes h
  | call f rssi => exact ends (.call f) rssi (Host.Outcome.next.inj h)
  | ready f rssi => exact ends (.ready f) rssi (Host.Outcome.next.inj h)
  | fragAck f => exact ends (.fragAck f) 0 (Host.Outcome.next.inj h)
  | done f rssi => exact ends (.done f) rssi (Host.Outcome.next.inj h)
  | refuse f rssi => exact ends (.refuse f) rssi (Host.Outcome.next.inj h)
  | peerOffer f => exact ends (.offer f) 0 (Host.Outcome.next.inj h)
  | peerFrag f => exact ends (.frag f) 0 (Host.Outcome.next.inj h)
  | peerTally f => exact ends (.tally f) 0 (Host.Outcome.next.inj h)
  | _ => cases hi

/-- Settles O46: a command of the air changes the book, the FRU, the exchange, the budget, the Roster and the tally
list at most, which `AirChanges` says command by command. -/
theorem airKeepsTheRest : Obligations.AirKeepsTheRest := by
  unfold Obligations.AirKeepsTheRest
  intro i s t hi h
  obtain ⟨hlink, hsetup, hgroup, henable, _⟩ := (exec_airChanges hi h).keeps
  exact ⟨hlink, hsetup, hgroup, henable⟩

/-! ### Offers and fragments -/

/-- A face of at most 16 bytes is one fragment, and one of at most 32 two (R84). -/
theorem fragmentCount_eq {face : List Byte} (h : face.length ≤ 27) :
    fragmentCount face = if face.length ≤ 16 then 1 else 2 := by
  unfold fragmentCount
  split <;> omega

theorem estimateOf_eq {face : List Byte} (h : face.length ≤ 27) :
    estimateOf face = if face.length ≤ 16 then 1216 else 1848 := by
  rw [estimateOf, fragmentCount_eq h]
  split <;> rfl

theorem offerNeed_eq (lane : Lane) (n : Nat) (s : State) :
    offerNeed lane n s = n + (if lane = .night then s.config.policy.reserve * 100 else 0) := by
  cases lane <;> simp [offerNeed, State.reserve]

theorem covers_iff {n : Nat} {s : State} : covers n s = true ↔ n ≤ s.budget := by simp [covers]

theorem fragAirtime_eq (n : Nat) : fragAirtime n = 376 + 16 * n := by
  unfold fragAirtime airtime
  omega

/-- The commit is refused where one of its conditions fails (R85). -/
theorem commitEntry_none {c : TransferContext} {s : State}
    (h : s.opState ≠ .run ∨ c.touched = true ∨ s.budget < offerNeed c.lane (estimateOf c.face) s ∨
      (∀ e, s.entryAt c.slot = some e → e.label ≠ c.label ∨ e.state ≠ .waiting)) : commitEntry c s = none := by
  unfold commitEntry
  split
  next e he =>
    refine if_neg ?_
    rintro ⟨hrun, hwait, hlabel, htouched, hcov⟩
    rcases h with h | h | h | h
    · exact h hrun
    · simp [htouched] at h
    · exact absurd (covers_iff.mp hcov) (by omega)
    · exact (h e he).elim (· hlabel) (· hwait)
  next => rfl

/-- Settles O33: `standoffEnds` by the two values of `commitEntry`. -/
theorem standoffEndCommits : Obligations.StandoffEndCommits := by
  unfold Obligations.StandoffEndCommits
  intro c s hd hface
  have hexec : exec .standoffEnd s = .next (settleQuiet (standoffEnds c s)) := by
    change execStandoffEnd s = _
    simp [execStandoffEnd, hd]
  refine ⟨fun e he hlabel hwait hrun htouched hneed => ?_, fun h => ?_⟩
  · have hcov : covers (offerNeed c.lane (estimateOf c.face) s) s = true := by
      rw [covers_iff, offerNeed_eq, estimateOf_eq hface]
      exact hneed
    have hcommit : commitEntry c s = some e := by
      simp only [commitEntry, he]
      exact if_pos ⟨hrun, hwait, hlabel, htouched, hcov⟩
    have hcount : BitVec.ofNat 8 (fragmentCount c.face) = if c.face.length ≤ 16 then 1 else 2 := by
      rw [fragmentCount_eq hface]
      split <;> rfl
    rw [hexec, standoffEnds, hcommit, ← hcount, ← estimateOf_eq hface]
    rw [settleQuiet_eq, quietAfter_of_not_listening (by simp [commitOffer, beginSending])]
    rfl
  · have hnone : commitEntry c s = none := commitEntry_none (by
      rw [offerNeed_eq, estimateOf_eq hface]
      exact h)
    rw [hexec, standoffEnds, hnone]
    rfl

/-- Settles O34: the three commands' one case each. -/
theorem sentFramesBeginWaits : Obligations.SentFramesBeginWaits := by
  unfold Obligations.SentFramesBeginWaits
  intro c s
  refine ⟨fun x hd hx => ?_, fun hd => ?_, fun hd => ?_⟩
  · change execOfferSent s = _
    simp only [execOfferSent, hd, hx]
    rfl
  · change execFragSent s = _
    rw [← fragAirtime_eq]
    simp only [execFragSent, hd]
    rfl
  · change execFragSent s = _
    simp only [execFragSent, hd]
    rfl

/-! ### Tallies sent -/

theorem tallyAirtime_eq (n : Nat) : tallyAirtime n = 424 + 80 * n := by
  unfold tallyAirtime airtime
  omega

/-- Settles O44. -/
theorem tallyIsSent : Obligations.TallyIsSent := by
  unfold Obligations.TallyIsSent
  intro s
  have hlen : (s.tally.take 16).length = min 16 s.tally.length := by simp
  have hexec : s.quietWait ≠ none → exec .quietWaitEnd s = .next (quietWaitEnds s) := by
    intro h
    obtain ⟨n, hn⟩ := Option.ne_none_iff_exists'.mp h
    change execQuietWaitEnd s = _
    simp only [execQuietWaitEnd, hn]
  refine ⟨⟨fun hq hcov => ?_, fun hq hcov => ?_⟩, fun n hd hh => ?_⟩
  · have hc : covers (tallyAirtime (s.tally.take 16).length) s = true := by
      rw [covers_iff, tallyAirtime_eq, hlen]
      exact hcov
    refine ⟨⟨s.config.identity.station, s.clock, BitVec.ofNat 8 (s.tally.length - (s.tally.take 16).length),
      BitVec.ofNat 8 s.tallyCause, BitVec.ofNat 16 s.freeSlots, s.tally.take 16⟩, ?_, rfl, rfl, rfl⟩
    rw [hexec hq, quietWaitEnds, ← hlen, ← tallyAirtime_eq]
    exact congrArg _ (if_pos hc)
  · have hc : ¬ covers (tallyAirtime (s.tally.take 16).length) s = true := by
      rw [covers_iff, tallyAirtime_eq, hlen]
      omega
    rw [hexec hq, quietWaitEnds]
    exact congrArg _ (if_neg hc)
  · change execTallySent s = _
    simp only [execTallySent, hd]
    rfl

/-! ### Frames that no phase awaits -/

/-- The end of a decoded frame; the received level is read only of the kinds that carry one. -/
theorem exec_commandOf (f : AirFrame) (rssi : Int) (s : State) :
    exec (commandOf f rssi) s = .next (frameEnds f rssi s) := by
  cases f <;> rfl

/-- A frame that is heard and passes R104. -/
theorem exec_commandOf_hears {f : AirFrame} {s : State} (h : Hears s)
    (ha : f.admissible s.config.identity.station = true) (rssi : Int) :
    exec (commandOf f rssi) s = .next (settle (handleFrame f rssi
      { s with dialogue := heardDialogue s.dialogue, carriers := s.carriers - 1 })) := by
  rw [exec_commandOf, frameEnds_of_hears h ha, frameHeard_eq]

/-- What reaches no block goes on, or expires. -/
theorem notAwaited_self {i : Instr} {s : State} (h : s.halt = false)
    (hexec : exec i s = .next (settle (unawaited (frameHeard s)))) : NotAwaited i s s :=
  notAwaited_of_act (.refl h) (by rw [hexec, frameHeard_eq])

/-- A frame that fails checks 5 to 7 (R104). -/
theorem notAwaited_of_inadmissible {f : AirFrame} {s : State} (h : Hears s)
    (hf : f.admissible s.config.identity.station = false) (rssi : Int) :
    NotAwaited (commandOf f rssi) s s := by
  obtain ⟨h1, h2, h3, _⟩ := h
  refine notAwaited_self h3 ?_
  rw [exec_commandOf]
  simp [frameEnds, State.canHear, h1, h2, hf]

theorem validStation_iff {n : StationNo} : validStation n = true ↔ StationNo.wf n = true := by
  simp [validStation, StationNo.wf]

theorem validLabel_iff {l : LabelAddr} : validLabel l = true ↔ l.wf = true := by
  simp [validLabel, LabelAddr.wf]

/-- Settles O36. -/
theorem fragAckAwaited : Obligations.FragAckAwaited := by
  unfold Obligations.FragAckAwaited
  have hadm : ∀ {f : FragAckFrame} {s : State}, f.label.wf = true → StationNo.wf f.station = true →
      (AirFrame.fragAck f).admissible s.config.identity.station = true := by
    intro f s hl hs
    simp [AirFrame.admissible, validStation_iff.mpr hs, validLabel_iff.mpr hl]
  refine ⟨fun f s h hl hs hother => ?_, fun f p c s h hd hl hs => ?_⟩
  · refine notAwaited_of_act (.refl h.2.2.1) ?_
    refine (exec_commandOf_hears h (hadm hl hs) 0).trans ?_
    refine congrArg (fun x => Host.Outcome.next (settle x)) ?_
    change fragAckReceived f _ = _
    unfold fragAckReceived
    split
    next c hc =>
      refine if_neg ?_
      rintro ⟨h1, h2, h3⟩
      have hdial : s.dialogue = .transferring .awaitAck c := by
        cases hs : s.dialogue <;> rw [hs] at hc <;> simp_all [heardDialogue]
      rcases hother c hdial with h | h | h
      · exact h h1
      · exact h h2
      · exact h h3
    next => rfl
  · let heard : State := { s with dialogue := heardDialogue s.dialogue, carriers := s.carriers - 1 }
    have hheard : heard.dialogue = .transferring p c := congrArg heardDialogue hd
    have hexec : exec (.fragAck f) s = .next (settle (fragAckReceived f heard)) :=
      exec_commandOf_hears h (hadm hl hs) 0
    have hacts : ∀ u : State, fragAckReceived f heard = u → u.halt = false →
        exec (.fragAck f) s = .next { u with quietWait := quietAfter u } := by
      intro u hu halt
      rw [hexec, hu, settle_of_no_halt halt]
    refine ⟨?_, ?_⟩
    · rintro ⟨rfl, h1, h2, h3⟩ hlt
      refine ⟨_, hacts (sendFragment { c with fragment := c.fragment + 1 } false heard) ?_ h.2.2.1,
        rfl, rfl, rfl, rfl, rfl⟩
      simp only [fragAckReceived, hheard]
      exact (if_pos ⟨h1, h2, h3⟩).trans (if_pos hlt)
    · rintro ⟨rfl, h1, h2, h3⟩ hge
      refine ⟨_, hacts { heard with
          dialogue := .transferring .awaitDone { c with wait := some ⟨10000, false, false⟩ } } ?_ h.2.2.1,
        rfl, h.2.1, rfl, rfl, rfl⟩
      simp only [fragAckReceived, hheard]
      exact (if_pos ⟨h1, h2, h3⟩).trans (if_neg (by omega))

theorem yieldLabel_open {l : LabelAddr} {s : State} {e : Entry} (he : s.entryOf l = some e) (ho : e.isOpen = true) :
    yieldLabel l s = { s with book := putEntry { e with state := .yielded (s.clock + 32) } s.book } := by
  simp only [yieldLabel, he, ho]
  rfl

theorem yieldLabel_other {l : LabelAddr} {s : State} (h : ∀ e, s.entryOf l = some e → e.isOpen = false) :
    yieldLabel l s = s := by
  unfold yieldLabel
  split
  next e he => exact if_neg (by simp [h e he])
  next => rfl

/-- Settles O42. -/
theorem peerOfferYields : Obligations.PeerOfferYields := by
  unfold Obligations.PeerOfferYields
  intro s h
  refine ⟨fun f hl hs hown => ?_, fun f => ?_⟩
  · have hadm : (AirFrame.offer f).admissible s.config.identity.station = true := by
      simp [AirFrame.admissible, validStation_iff.mpr hs, validLabel_iff.mpr hl, hown]
    have hexec := exec_commandOf_hears h hadm 0
    refine ⟨fun e he ho => ?_, fun hn => ?_⟩
    · refine notAwaited_of_act (.refl h.2.2.1) (hexec.trans ?_)
      refine congrArg (fun x => Host.Outcome.next (settle (unawaited x))) ?_
      exact yieldLabel_open (s := { s with dialogue := _, carriers := _ }) he ho
    · refine notAwaited_of_act (.refl h.2.2.1) (hexec.trans ?_)
      refine congrArg (fun x => Host.Outcome.next (settle (unawaited x))) ?_
      exact yieldLabel_other (s := { s with dialogue := _, carriers := _ }) hn
  · cases hadm : (AirFrame.frag f).admissible s.config.identity.station with
    | true =>
      exact notAwaited_of_act (.refl h.2.2.1) (exec_commandOf_hears h hadm 0)
    | false => exact notAwaited_of_inadmissible h hadm 0

/-- A frame start meets the wait in progress, and outside a transfer nothing (R81). -/
theorem execFrameStart_hears {s : State} (h : Hears s) :
    exec .frameStart s = .next { s with dialogue := meetWait s.dialogue } := by
  obtain ⟨h1, h2, _, _⟩ := h
  change execFrameStart s = _
  simp [execFrameStart, State.canHear, h1, h2]

theorem meetWait_of_not_transferring {s : State} (h : s.isTransferring = false) : meetWait s.dialogue = s.dialogue := by
  cases hd : s.dialogue <;> simp_all [State.isTransferring, meetWait]

/-- Settles O45. -/
theorem carrierAndFrameStarts : Obligations.CarrierAndFrameStarts := by
  unfold Obligations.CarrierAndFrameStarts
  intro s
  refine ⟨fun hs => ⟨if_pos hs, if_pos hs⟩, fun hs => ⟨?_, ?_, fun hc => ?_, fun n hd hc => ?_, fun ht => ?_⟩,
    fun h => ⟨fun p c w hd hw => ?_, fun hn => ?_, fun bytes rssi hb => ?_, fun f rssi hf => ?_⟩⟩
  · refine (if_neg hs).trans (congrArg Host.Outcome.next ?_)
    rw [settleQuiet_eq, quietAfter_of_carrier (by simp), standDown_eq]
    cases s.dialogue <;> rfl
  · exact if_neg hs
  · exact quietAfter_of_carrier hc
  · refine ⟨settleQuiet (toListening { s with tally := s.tally.drop n, tallyCount := 0 }), ?_, rfl, ?_⟩
    · change execTallySent s = _
      simp only [execTallySent, hd]
    · exact quietAfter_of_carrier (s := toListening { s with tally := s.tally.drop n, tallyCount := 0 }) hc
  · have hhear : s.canHear = false := by
      cases hx : s.transmitting with
      | none => exact absurd hx ht
      | some x => simp [State.canHear, hx]
    refine ⟨if_neg (by simp [hhear]), fun f i rssi hi => ?_⟩
    rw [← hi, exec_commandOf]
    simp [frameEnds, hhear, frameLost, hs, carrierEnds]
  · rw [execFrameStart_hears h, hd]
    simp [meetWait, hw]
  · rw [execFrameStart_hears h, meetWait_of_not_transferring hn]
  · refine notAwaited_self h.2.2.1 ?_
    obtain ⟨h1, h2, _, _⟩ := h
    change Host.Outcome.next (bytesEnd bytes rssi s) = _
    simp [bytesEnd, hb, State.canHear, h1, h2]
  · exact notAwaited_of_inadmissible h hf rssi

end Sys2Proof.Machine
end


section
/-! The book as a keyed list, and what a check pass and its application make of it (R34 to R42, R45). -/

namespace Sys2Proof.Machine

/-! ### Keyed books -/

/-- Every slot of a book, in order, and every label has one entry (R45). -/
abbrev KeyedBook (b : List Entry) : Prop :=
  b.Pairwise (fun x y => x.slot < y.slot) ∧ b.Pairwise (fun x y => x.label ≠ y.label) ∧
  (∀ e ∈ b, e.slot < slotCount)

theorem KeyedBook.slot_inj {b : List Entry} (h : KeyedBook b) {x y : Entry} (hx : x ∈ b) (hy : y ∈ b)
    (hs : x.slot = y.slot) : x = y := by
  exact eq_of_key_eq hs (h.1.imp fun h => Nat.ne_of_lt h) hx hy

theorem KeyedBook.label_inj {b : List Entry} (h : KeyedBook b) {x y : Entry} (hx : x ∈ b) (hy : y ∈ b)
    (hl : x.label = y.label) : x = y := by
  exact eq_of_key_eq hl h.2.1 hx hy

/-- The entry in a slot, found. -/
theorem entryAt_some {s : State} {n : Nat} {e : Entry} (h : s.entryAt n = some e) : e ∈ s.book ∧ e.slot = n :=
  ⟨List.mem_of_find?_eq_some h, by simpa using List.find?_some h⟩

theorem entryAt_none {s : State} {n : Nat} (h : s.entryAt n = none) : ∀ e ∈ s.book, e.slot ≠ n := by
  simpa [State.entryAt] using h

theorem entryOf_none {s : State} {l : LabelAddr} (h : s.entryOf l = none) : ∀ e ∈ s.book, e.label ≠ l := by
  simpa [State.entryOf] using h

/-- In a keyed book the slot map gives each entry. -/
theorem entryAt_of_mem {s : State} (h : BookIsKeyed s) {e : Entry} (he : e ∈ s.book) : s.entryAt e.slot = some e := by
  cases hx : s.entryAt e.slot with
  | none => exact absurd rfl (entryAt_none hx e he)
  | some x =>
    obtain ⟨hm, hs⟩ := entryAt_some hx
    rw [KeyedBook.slot_inj h hm he hs]

/-- In a keyed book the label map gives each entry. -/
theorem entryOf_of_mem {s : State} (h : BookIsKeyed s) {e : Entry} (he : e ∈ s.book) :
    s.entryOf e.label = some e := by
  cases hx : s.entryOf e.label with
  | none => exact absurd rfl (entryOf_none hx e he)
  | some x =>
    obtain ⟨hm, hl⟩ := entryOf_some hx
    rw [KeyedBook.label_inj h hm he hl]

/-- What corresponding entries have alike. -/
theorem map_eq_of_forall₂ {α : Type} {R : Entry → Entry → Prop} {f : Entry → α} (hf : ∀ {x y}, R x y → f y = f x)
    {b c : List Entry} (hr : Forall₂ R b c) : c.map f = b.map f := by
  induction hr with
  | nil => rfl
  | cons hxy _ ih => rw [List.map_cons, List.map_cons, hf hxy, ih]

/-- Entries changed one by one, each in its slot and under its label, leave the book keyed. -/
theorem KeyedBook.of_forall₂ {R : Entry → Entry → Prop} (hslot : ∀ {x y}, R x y → y.slot = x.slot)
    (hlabel : ∀ {x y}, R x y → y.label = x.label) {b c : List Entry} (h : KeyedBook b)
    (hr : Forall₂ R b c) : KeyedBook c := by
  have hslots := map_eq_of_forall₂ (f := Entry.slot) hslot hr
  have hlabels := map_eq_of_forall₂ (f := Entry.label) hlabel hr
  obtain ⟨hs, hl, hb⟩ := h
  refine ⟨?_, ?_, fun e he => ?_⟩
  · rw [← List.pairwise_map (f := Entry.slot) (R := (· < ·)), hslots, List.pairwise_map]
    exact hs
  · rw [← List.pairwise_map (f := Entry.label) (R := (· ≠ ·)), hlabels, List.pairwise_map]
    exact hl
  · have hm : e.slot ∈ b.map Entry.slot := hslots ▸ List.mem_map_of_mem he
    obtain ⟨x, hx, hxs⟩ := List.mem_map.mp hm
    exact hxs ▸ hb x hx

theorem KeyedBook.map {f : Entry → Entry} (hslot : ∀ x, (f x).slot = x.slot) (hlabel : ∀ x, (f x).label = x.label)
    {b : List Entry} (h : KeyedBook b) : KeyedBook (b.map f) :=
  h.of_forall₂ (R := fun x y => y = f x) (fun h => h ▸ hslot _) (fun h => h ▸ hlabel _)
    (.map_right (.same fun _ _ => rfl))

theorem KeyedBook.filter {b : List Entry} (h : KeyedBook b) (p : Entry → Bool) : KeyedBook (b.filter p) :=
  ⟨h.1.filter p, h.2.1.filter p, fun e he => h.2.2 e ((List.mem_filter.mp he).1)⟩

theorem mem_putEntry {n x : Entry} {b : List Entry} (h : x ∈ putEntry n b) :
    (x = n ∧ ∃ y ∈ b, y.slot = n.slot) ∨ (x ∈ b ∧ x.slot ≠ n.slot) := by
  obtain ⟨y, hy, rfl⟩ := List.mem_map.mp h
  by_cases hs : y.slot = n.slot
  · rw [if_pos hs]
    exact .inl ⟨rfl, y, hy, hs⟩
  · rw [if_neg hs]
    exact .inr ⟨hy, hs⟩

theorem mem_putEntry_self {n y : Entry} {b : List Entry} (hy : y ∈ b) (hs : y.slot = n.slot) : n ∈ putEntry n b :=
  List.mem_map.mpr ⟨y, hy, if_pos hs⟩

theorem mem_putEntry_other {n x : Entry} {b : List Entry} (hx : x ∈ b) (hs : x.slot ≠ n.slot) :
    x ∈ putEntry n b := List.mem_map.mpr ⟨x, hx, if_neg hs⟩

/-- An entry changed in its slot under its label leaves the book keyed. -/
theorem KeyedBook.put {b : List Entry} (h : KeyedBook b) {e n : Entry} (he : e ∈ b) (hslot : n.slot = e.slot)
    (hlabel : n.label = e.label) : KeyedBook (putEntry n b) := by
  have hr : Forall₂ (fun x y => x ∈ b ∧ y = if x.slot = n.slot then n else x) b (putEntry n b) := by
    exact .map_right (.same fun x hx => ⟨hx, rfl⟩)
  refine h.of_forall₂ (fun {x y} => ?_) (fun {x y} => ?_) hr
  · rintro ⟨_, rfl⟩
    split
    · exact Eq.symm ‹_›
    · rfl
  · rintro ⟨hx, rfl⟩
    split
    next hs => rw [hlabel, h.slot_inj he hx (hslot.symm.trans hs.symm)]
    next => rfl

/-! ### Entries placed in free slots -/

theorem mem_insertEntry {e x : Entry} {b : List Entry} : x ∈ insertEntry e b ↔ x = e ∨ x ∈ b := by
  induction b with
  | nil => simp [insertEntry]
  | cons y ys ih =>
    unfold insertEntry
    split
    · simp
    · simp only [List.mem_cons, ih]
      exact or_left_comm

theorem length_insertEntry (e : Entry) (b : List Entry) : (insertEntry e b).length = b.length + 1 := by
  induction b with
  | nil => rfl
  | cons y ys ih =>
    unfold insertEntry
    split
    · rfl
    · simp [ih]

/-- The lowest free slot from `n` is free, and at most as far as there are entries. -/
theorem lowestFreeFrom_free (b : List Entry) :
    ∀ n, b.Pairwise (fun x y => x.slot < y.slot) → (∀ e ∈ b, n ≤ e.slot) →
      n ≤ lowestFreeFrom n b ∧ lowestFreeFrom n b ≤ n + b.length ∧ ∀ e ∈ b, e.slot ≠ lowestFreeFrom n b := by
  induction b with
  | nil => intro n _ _; simp [lowestFreeFrom]
  | cons x xs ih =>
    intro n hp hn
    obtain ⟨hx, hxs⟩ := List.pairwise_cons.mp hp
    unfold lowestFreeFrom
    split
    next hs =>
      obtain ⟨h1, h2, h3⟩ := ih (n + 1) hxs fun e he => hs ▸ hx e he
      refine ⟨by omega, by simp only [List.length_cons]; omega, fun e he => ?_⟩
      rcases List.mem_cons.mp he with rfl | he
      · omega
      · exact h3 e he
    next hs =>
      have hlt : n < x.slot := Nat.lt_of_le_of_ne (hn x List.mem_cons_self) (Ne.symm hs)
      refine ⟨Nat.le_refl n, by simp, fun e he => ?_⟩
      rcases List.mem_cons.mp he with rfl | he
      · exact hs
      · exact Nat.ne_of_gt (Nat.lt_trans hlt (hx e he))

/-- The lowest free slot of a book is below its length at most, and free. -/
theorem lowestFree_free {b : List Entry} (h : KeyedBook b) :
    lowestFree b ≤ b.length ∧ ∀ e ∈ b, e.slot ≠ lowestFree b := by
  obtain ⟨_, h2, h3⟩ := lowestFreeFrom_free b 0 h.1 fun e _ => Nat.zero_le _
  exact ⟨by unfold lowestFree; omega, h3⟩

theorem pairwise_insertEntry {e : Entry} {b : List Entry} (h : b.Pairwise (fun x y => x.slot < y.slot))
    (hn : ∀ x ∈ b, x.slot ≠ e.slot) : (insertEntry e b).Pairwise (fun x y => x.slot < y.slot) := by
  induction b with
  | nil => simp [insertEntry]
  | cons y ys ih =>
    obtain ⟨hy, hys⟩ := List.pairwise_cons.mp h
    unfold insertEntry
    split
    next hlt =>
      refine List.pairwise_cons.mpr ⟨fun x hx => ?_, h⟩
      rcases List.mem_cons.mp hx with rfl | hx
      · exact hlt
      · exact Nat.lt_trans hlt (hy x hx)
    next hlt =>
      refine List.pairwise_cons.mpr ⟨fun x hx => ?_, ih hys fun x hx => hn x (List.mem_cons_of_mem _ hx)⟩
      rcases mem_insertEntry.mp hx with rfl | hx
      · exact Nat.lt_of_le_of_ne (Nat.le_of_not_lt hlt) (hn y List.mem_cons_self)
      · exact hy x hx

theorem pairwise_label_insertEntry {e : Entry} {b : List Entry} (h : b.Pairwise (fun x y => x.label ≠ y.label))
    (hn : ∀ x ∈ b, x.label ≠ e.label) : (insertEntry e b).Pairwise (fun x y => x.label ≠ y.label) := by
  induction b with
  | nil => simp [insertEntry]
  | cons y ys ih =>
    obtain ⟨hy, hys⟩ := List.pairwise_cons.mp h
    unfold insertEntry
    split
    next => exact List.pairwise_cons.mpr ⟨fun x hx => (hn x hx).symm, h⟩
    next =>
      refine List.pairwise_cons.mpr ⟨fun x hx => ?_, ih hys fun x hx => hn x (List.mem_cons_of_mem _ hx)⟩
      rcases mem_insertEntry.mp hx with rfl | hx
      · exact hn y List.mem_cons_self
      · exact hy x hx

theorem KeyedBook.insert {b : List Entry} (h : KeyedBook b) {e : Entry} (hs : ∀ x ∈ b, x.slot ≠ e.slot)
    (hl : ∀ x ∈ b, x.label ≠ e.label) (hc : e.slot < slotCount) : KeyedBook (insertEntry e b) := by
  refine ⟨pairwise_insertEntry h.1 hs, pairwise_label_insertEntry h.2.1 hl, fun x hx => ?_⟩
  rcases mem_insertEntry.mp hx with rfl | hx
  · exact hc
  · exact h.2.2 x hx

theorem freshEntry_slot (g : OpenGroup) (s : State) (slot : Nat) (n : FreshEntry) :
    (freshEntry g s slot n).slot = slot := rfl

theorem freshEntry_label (g : OpenGroup) (s : State) (slot : Nat) (n : FreshEntry) :
    (freshEntry g s slot n).label = n.label := rfl

/-- The entries of a book with new ones placed: those of the book, and the new ones in some slots. -/
theorem mem_placeFresh {g : OpenGroup} {s : State} {e : Entry} :
    ∀ {ns : List FreshEntry} {b : List Entry}, e ∈ placeFresh g s ns b →
      e ∈ b ∨ ∃ n ∈ ns, ∃ slot, e = freshEntry g s slot n
  | [], _, h => .inl h
  | n :: ns, b, h => by
    rcases mem_placeFresh (ns := ns) h with h | ⟨m, hm, slot, rfl⟩
    · rcases mem_insertEntry.mp h with rfl | h
      · exact .inr ⟨n, List.mem_cons_self, _, rfl⟩
      · exact .inl h
    · exact .inr ⟨m, List.mem_cons_of_mem _ hm, slot, rfl⟩

theorem mem_placeFresh_of_mem {g : OpenGroup} {s : State} {e : Entry} :
    ∀ {ns : List FreshEntry} {b : List Entry}, e ∈ b → e ∈ placeFresh g s ns b
  | [], _, h => h
  | _ :: ns, _, h => mem_placeFresh_of_mem (ns := ns) (mem_insertEntry.mpr (.inr h))

/-- New labels placed in a book that has room for them leave it keyed (R38, R40). -/
theorem KeyedBook.place {g : OpenGroup} {s : State} :
    ∀ {ns : List FreshEntry} {b : List Entry}, KeyedBook b → (ns.map (fun n => n.label)).Nodup →
      (∀ n ∈ ns, ∀ e ∈ b, e.label ≠ n.label) → b.length + ns.length ≤ slotCount →
      KeyedBook (placeFresh g s ns b)
  | [], _, h, _, _, _ => h
  | n :: ns, b, h, hnd, hnew, hroom => by
    obtain ⟨hn, hnd⟩ := List.nodup_cons.mp hnd
    obtain ⟨hlow, hfree⟩ := lowestFree_free h
    have hlen : b.length + (ns.length + 1) ≤ slotCount := by simpa using hroom
    refine KeyedBook.place (ns := ns)
      (h.insert (e := freshEntry g s (lowestFree b) n) hfree (hnew n List.mem_cons_self) ?_) ?_ ?_ ?_
    · rw [freshEntry_slot]
      omega
    · exact hnd
    · intro m hm e he
      rcases mem_insertEntry.mp he with rfl | he
      · rw [freshEntry_label]
        intro heq
        exact hn (List.mem_map.mpr ⟨m, hm, heq.symm⟩)
      · exact hnew m (List.mem_cons_of_mem _ hm) e he
    · rw [length_insertEntry]
      omega

/-! ### The check pass -/

/-- What a check pass has made of one entry of the book: it is changed in its content alone, if its label is among
those changed, or it has another successor part. `G` says that the group's records keep the version law. -/
structure Folds (G : Prop) (changed : List LabelAddr) (e x : Entry) : Prop where
  slot : x.slot = e.slot
  label : x.label = e.label
  state : x.state = e.state
  target : e.label ∉ changed → x.target = e.target
  isOpen : e.label ∈ changed → e.isOpen = true
  law : G → EntryLaw e → EntryLaw x

theorem Folds.refl (G : Prop) (e : Entry) : Folds G [] e e :=
  ⟨rfl, rfl, rfl, fun _ => rfl, fun h => absurd h (by simp), fun _ => id⟩

theorem isOpen_of_state {e x : Entry} (h : x.state = e.state) : x.isOpen = e.isOpen := by simp [Entry.isOpen, h]

theorem isClosing_of_state {e x : Entry} (h : x.state = e.state) : x.isClosing = e.isClosing := by
  simp [Entry.isClosing, h]

theorem mem_addOnce {l m : LabelAddr} {ls : List LabelAddr} : m ∈ addOnce l ls ↔ m = l ∨ m ∈ ls := by
  unfold addOnce
  split
  · constructor
    · exact .inr
    · rintro (rfl | h) <;> assumption
  · simp [or_comm]

/-- What a check pass keeps of its view of a keyed book. -/
structure ViewHolds (G : Prop) (b : List Entry) (v : FoldView) : Prop where
  book : Forall₂ (Folds G v.changed) b v.book
  nodup : (v.fresh.map (fun n => n.label)).Nodup
  new : ∀ n ∈ v.fresh, ∀ e ∈ b, e.label ≠ n.label
  law : G → ∀ n ∈ v.fresh, VersionLaw n.base n.target

theorem ViewHolds.start (G : Prop) (s : State) : ViewHolds G s.book (startView s) :=
  ⟨.same fun _ _ => .refl G _, by simp [startView], by simp [startView], by simp [startView]⟩

theorem ViewHolds.keyed {G : Prop} {b : List Entry} {v : FoldView} (h : ViewHolds G b v) (hb : KeyedBook b) :
    KeyedBook v.book := hb.of_forall₂ (fun h => h.slot) (fun h => h.label) h.book

/-- Changing one entry of a list that corresponds to another, entry by entry. -/
theorem forall₂_putEntry {R R' : Entry → Entry → Prop} {n : Entry} {b c : List Entry} (h : Forall₂ R b c)
    (hput : ∀ x y, x ∈ b → y ∈ c → R x y → y.slot = n.slot → R' x n)
    (hkeep : ∀ x y, x ∈ b → y ∈ c → R x y → y.slot ≠ n.slot → R' x y) : Forall₂ R' b (putEntry n c) := by
  induction h with
  | nil => exact .nil
  | @cons x y xs ys hxy _ ih =>
    refine .cons ?_ (ih (fun x y hx hy => hput x y (List.mem_cons_of_mem _ hx) (List.mem_cons_of_mem _ hy))
      fun x y hx hy => hkeep x y (List.mem_cons_of_mem _ hx) (List.mem_cons_of_mem _ hy))
    by_cases hs : y.slot = n.slot
    · simpa [hs] using hput x y List.mem_cons_self List.mem_cons_self hxy hs
    · simpa [hs] using hkeep x y List.mem_cons_self List.mem_cons_self hxy hs

/-- The base is ANY, or newer than the target it meets (R35). -/
def overtakes (base : Base) (target : Version) : Bool :=
  match base with
  | .any => true
  | .version b => newer b target

theorem classify_eq (entryBase : Base) (entryTarget : Version) (base : Base) (target : Version) :
    classify entryBase entryTarget base target =
      if base = entryBase ∧ target = entryTarget then .merge
      else if base = .version entryTarget ∧ VersionLaw entryBase target then .chain
      else if overtakes base entryTarget = true ∧ atLeast target entryTarget = true then .replace
      else if newer entryTarget target = true then .stale
      else .conflict := by
  unfold classify
  cases entryBase <;> rfl

/-- A record that chains with a change is newer than its base (R35). -/
theorem classify_chain {eb : Base} {et : Version} {base : Base} {target : Version}
    (h : classify eb et base target = .chain) : VersionLaw eb target := by
  rw [classify_eq] at h
  split at h
  · cases h
  · split at h
    next hchain => exact hchain.2
    next =>
      split at h
      · cases h
      · split at h <;> cases h

/-- The law of a change as the three classes that take a record leave it (R35, R47). -/
theorem classify_law {base : Base} {target : Version} {r : GatheredRecord} {items : Items} {masked : Bool}
    (hr : VersionLaw r.base r.target) (h : VersionLaw base target) :
    VersionLaw (applyRecord (classify base target r.base r.target) r base target items masked).1
      (applyRecord (classify base target r.base r.target) r base target items masked).2.1 := by
  cases hc : classify base target r.base r.target
  case merge => exact h
  case replace => exact hr
  case stale | conflict => exact h
  case chain => exact classify_chain hc

theorem stopOr_ok {c : FoldClass} {v w : FoldView} (h : stopOr c v = .ok w) :
    w = v ∧ (c = .merge ∨ c = .chain ∨ c = .replace) := by
  cases c <;> simp_all [stopOr]

/-- A record on an open entry keeps the view's law (R35). -/
theorem foldOpen_holds {G : Prop} {b : List Entry} {v w : FoldView} {r : GatheredRecord} {e : Entry}
    (hb : KeyedBook b) (h : ViewHolds G b v) (hr : G → VersionLaw r.base r.target) (he : e ∈ v.book)
    (hl : e.label = r.label) (ho : e.isOpen = true) (hok : foldOpen r e v = .ok w) : ViewHolds G b w := by
  obtain ⟨rfl, _⟩ := stopOr_ok hok
  refine ⟨?_, h.nodup, h.new, h.law⟩
  refine forall₂_putEntry h.book (fun x y hx hy hxy hs => ?_) fun x y hx hy hxy hs => ?_
  · obtain rfl : y = e := (h.keyed hb).slot_inj hy he hs
    refine ⟨hxy.slot, hxy.label, hxy.state, fun hn => ?_, fun _ => ?_, fun hG hlaw => ?_⟩
    · exact absurd (mem_addOnce.mpr (.inl (hxy.label.symm.trans hl))) hn
    · rw [← isOpen_of_state hxy.state]
      exact ho
    · obtain ⟨hv, hsucc, hatt, hlate⟩ := hxy.law hG hlaw
      exact ⟨classify_law (hr hG) hv, fun p hp => absurd ho (by simp [(hsucc p hp).1]), hatt, hlate⟩
  · have hlab : x.label ≠ r.label := by
      intro hxl
      have hye : y = e := (h.keyed hb).label_inj hy he (hxy.label.trans (hxl.trans hl.symm))
      rw [hye] at hs
      exact hs rfl
    exact ⟨hxy.slot, hxy.label, hxy.state, fun hn => hxy.target fun hc => hn (mem_addOnce.mpr (.inr hc)),
      fun hc => hxy.isOpen ((mem_addOnce.mp hc).resolve_left hlab), hxy.law⟩

/-- A successor part set from a record keeps the view's law (R37, R42). -/
theorem withSuccessor_holds {G : Prop} {b : List Entry} {v : FoldView} {g : OpenGroup} {r : GatheredRecord}
    {e : Entry} {base target : Version} {items : Items} {masked : Bool} (hb : KeyedBook b) (h : ViewHolds G b v)
    (he : e ∈ v.book) (ho : e.isOpen = false)
    (hp : G → EntryLaw e → base = e.target ∧ newer target e.target = true) :
    ViewHolds G b (withSuccessor g r e base target items masked v) := by
  refine ⟨?_, h.nodup, h.new, h.law⟩
  refine forall₂_putEntry h.book (fun x y hx hy hxy hs => ?_) fun x y hx hy hxy hs => hxy
  obtain rfl : y = e := (h.keyed hb).slot_inj hy he hs
  refine ⟨hxy.slot, hxy.label, hxy.state, hxy.target, hxy.isOpen, fun hG hlaw => ?_⟩
  have hy := hxy.law hG hlaw
  obtain ⟨hv, hsucc, hatt, hlate⟩ := hy
  refine ⟨hv, fun p hps => ?_, hatt, hlate⟩
  cases hps
  exact ⟨ho, hp hG ⟨hv, hsucc, hatt, hlate⟩⟩

/-- A record on a busy or closing entry keeps the view's law (R37). -/
theorem foldBusy_holds {G : Prop} {b : List Entry} {v w : FoldView} {g : OpenGroup} {r : GatheredRecord} {e : Entry}
    (hb : KeyedBook b) (h : ViewHolds G b v) (hr : G → VersionLaw r.base r.target) (he : e ∈ v.book)
    (ho : e.isOpen = false) (hok : foldBusy g r e v = .ok w) : ViewHolds G b w := by
  unfold foldBusy at hok
  split at hok
  next hnone =>
    split at hok
    next hbase =>
      cases hok
      refine withSuccessor_holds hb h he ho fun hG hlaw => ⟨rfl, ?_⟩
      have := hr hG
      rwa [hbase] at this
    next => split at hok <;> cases hok
  next p hp =>
    obtain ⟨rfl, _⟩ := stopOr_ok hok
    refine withSuccessor_holds hb h he ho fun hG hlaw => ?_
    obtain ⟨_, hbase, hnewer⟩ := hlaw.2.1 p hp
    refine ⟨hbase, ?_⟩
    cases hc : classifySuccessor e.target p r.base r.target
    case chain =>
      unfold classifySuccessor at hc
      split at hc
      · cases hc
      · split at hc
        next hchain => exact hchain.2
        next => cases hc
    case replace =>
      unfold classifySuccessor at hc
      split at hc
      · cases hc
      · split at hc <;> cases hc
    all_goals exact hnewer

/-- A record on a label that is new in the view keeps the view's law (R36). -/
theorem foldFresh_holds {G : Prop} {b : List Entry} {v w : FoldView} {r : GatheredRecord} {n : FreshEntry}
    (h : ViewHolds G b v) (hr : G → VersionLaw r.base r.target) (hn : n ∈ v.fresh) (hok : foldFresh r n v = .ok w) : ViewHolds G b w := by
  obtain ⟨rfl, _⟩ := stopOr_ok hok
  have hlabels : ∀ l : List FreshEntry, ∀ y : FreshEntry, y.label = r.label →
      (l.map (fun x => if x.label = r.label then y else x)).map (fun x => x.label) = l.map (fun x => x.label) := by
    intro l y hy
    rw [List.map_map]
    refine List.map_congr_left fun x _ => ?_
    by_cases hx : x.label = r.label <;> simp [hx, hy]
  refine ⟨h.book, ?_, fun m hm => ?_, fun hG m hm => ?_⟩
  · dsimp only
    rw [hlabels _ _ rfl]
    exact h.nodup
  · obtain ⟨x, hx, rfl⟩ := List.mem_map.mp hm
    by_cases hxl : x.label = r.label
    · simp only [if_pos hxl]
      intro e he
      exact hxl ▸ h.new x hx e he
    · simp only [if_neg hxl]
      exact h.new x hx
  · obtain ⟨x, hx, rfl⟩ := List.mem_map.mp hm
    by_cases hxl : x.label = r.label
    · simp only [if_pos hxl]
      exact classify_law (hr hG) (h.law hG n hn)
    · simp only [if_neg hxl]
      exact h.law hG x hx

/-- One record keeps the view's law (R34). -/
theorem foldRecord_holds {G : Prop} {b : List Entry} {v w : FoldView} {g : OpenGroup} {r : GatheredRecord}
    (hb : KeyedBook b) (h : ViewHolds G b v) (hr : G → VersionLaw r.base r.target)
    (hok : foldRecord g r v = .ok w) : ViewHolds G b w := by
  unfold foldRecord at hok
  split at hok
  next e he =>
    have hm := List.mem_of_find?_eq_some he
    have hl : e.label = r.label := by simpa using List.find?_some he
    split at hok
    next ho => exact foldOpen_holds hb h hr hm hl ho hok
    next ho => exact foldBusy_holds hb h hr hm (by simpa using ho) hok
  next hnone =>
    split at hok
    next n hn =>
      exact foldFresh_holds h hr (List.mem_of_find?_eq_some hn) hok
    next hfresh =>
      cases hok
      have hbook : ∀ e ∈ b, e.label ≠ r.label := by
        intro e he hl
        obtain ⟨i, hi, rfl⟩ := List.getElem_of_mem he
        have hlen : i < v.book.length := h.book.length_eq ▸ hi
        have hxy := h.book.get hi hlen
        have := List.find?_eq_none.mp hnone v.book[i] (List.getElem_mem hlen)
        exact this (by simpa using hxy.label.trans hl)
      have hnew : ∀ n ∈ v.fresh, n.label ≠ r.label := by simpa using hfresh
      refine ⟨h.book, ?_, fun n hn => ?_, fun hG n hn => ?_⟩
      · rw [List.map_append, List.nodup_append]
        refine ⟨h.nodup, by simp, ?_⟩
        intro l hl m hm
        obtain ⟨n, hn, rfl⟩ := List.mem_map.mp hl
        simp only [List.map_cons, List.map_nil, List.mem_singleton] at hm
        exact hm ▸ hnew n hn
      · rcases List.mem_append.mp hn with hn | hn
        · exact h.new n hn
        · obtain rfl := List.mem_singleton.mp hn
          exact hbook
      · rcases List.mem_append.mp hn with hn | hn
        · exact h.law hG n hn
        · obtain rfl := List.mem_singleton.mp hn
          exact hr hG

/-- A check pass that is not stopped keeps the view's law (R34). -/
theorem checkPass_holds {G : Prop} {b : List Entry} {g : OpenGroup} (hb : KeyedBook b) :
    ∀ {rs : List GatheredRecord} {k : Nat} {v w : FoldView}, ViewHolds G b v →
      (∀ r ∈ rs, G → VersionLaw r.base r.target) → checkPass g rs k v = .done w → ViewHolds G b w
  | [], _, _, _, h, _, hok => by
    cases hok
    exact h
  | r :: rs, k, v, w, h, hr, hok => by
    unfold checkPass at hok
    split at hok
    next u hu =>
      exact checkPass_holds hb (foldRecord_holds hb h (hr r List.mem_cons_self) hu)
        (fun x hx => hr x (List.mem_cons_of_mem _ hx)) hok
    next => cases hok

/-! ### The application -/

/-- The labels that a fold touches (R41). -/
def touchedBy (v : FoldView) : List LabelAddr := v.changed ++ v.fresh.map (fun n => n.label)

/-- The book as a fold's application leaves it, before the re-checks for fit (R40, R41). -/
def foldedBook (g : OpenGroup) (s : State) (v : FoldView) : List Entry :=
  placeFresh g s v.fresh (v.book.map (fun e => if e.label ∈ v.changed then touch g s.config s.clock e else e))

/-- What a fold has made of one entry of the book. -/
structure Applies (G : Prop) (touched : List LabelAddr) (e x : Entry) : Prop where
  slot : x.slot = e.slot
  label : x.label = e.label
  state : x.state = if e.label ∈ touched then .waiting else e.state
  target : e.label ∉ touched → x.target = e.target
  isOpen : e.label ∈ touched → e.isOpen = true
  law : G → EntryLaw e → EntryLaw x

theorem touch_law {g : OpenGroup} {c : StationConfig} {clock : StoreTime} {e : Entry} (ho : e.isOpen = true)
    (h : EntryLaw e) : EntryLaw (touch g c clock e) := by
  obtain ⟨hv, hsucc, _, _⟩ := h
  refine ⟨hv, fun p hp => ?_, Nat.zero_le _, fun hc => ?_⟩
  · exact absurd ho (by simp [(hsucc p hp).1])
  · simp [touch, evaluate, recompute, Entry.isClosing] at hc

theorem foldedBook_applies {G : Prop} {g : OpenGroup} {s : State} {v : FoldView} (h : ViewHolds G s.book v) :
    Forall₂ (Applies G (touchedBy v)) s.book
      (v.book.map (fun e => if e.label ∈ v.changed then touch g s.config s.clock e else e)) := by
  refine .map_right ?_
  have hnew : ∀ e ∈ s.book, e.label ∈ touchedBy v → e.label ∈ v.changed := by
    intro e he ht
    rcases List.mem_append.mp ht with ht | ht
    · exact ht
    · obtain ⟨n, hn, hl⟩ := List.mem_map.mp ht
      exact absurd hl.symm (h.new n hn e he)
  have hcore : ∀ {b c : List Entry}, (∀ e ∈ b, e.label ∈ touchedBy v → e.label ∈ v.changed) →
      Forall₂ (Folds G v.changed) b c → Forall₂ (fun x y => Applies G (touchedBy v) x
        (if y.label ∈ v.changed then touch g s.config s.clock y else y)) b c := by
    intro b c hb hbc
    induction hbc with
    | nil => exact .nil
    | @cons x y xs ys hxy _ ih =>
      refine .cons ?_ (ih fun e he => hb e (List.mem_cons_of_mem _ he))
      have hmem : x.label ∈ touchedBy v ↔ x.label ∈ v.changed :=
        ⟨hb x List.mem_cons_self, fun h => List.mem_append_left _ h⟩
      by_cases hc : y.label ∈ v.changed
      · have hx : x.label ∈ v.changed := hxy.label ▸ hc
        simp only [if_pos hc]
        refine ⟨hxy.slot, hxy.label, ?_, fun hn => absurd (hmem.mpr hx) hn, fun _ => hxy.isOpen hx, fun hG hlaw => ?_⟩
        · rw [if_pos (hmem.mpr hx)]
          rfl
        · exact touch_law ((isOpen_of_state hxy.state).trans (hxy.isOpen hx)) (hxy.law hG hlaw)
      · have hx : x.label ∉ v.changed := hxy.label ▸ hc
        simp only [if_neg hc]
        refine ⟨hxy.slot, hxy.label, ?_, fun _ => hxy.target hx, fun ht => absurd (hmem.mp ht) hx, hxy.law⟩
        rw [if_neg (mt hmem.mp hx)]
        exact hxy.state
  exact hcore hnew h.book

/-- The folded book is keyed when it has room for the new labels (R38, R40). -/
theorem foldedBook_keyed {G : Prop} {g : OpenGroup} {s : State} {v : FoldView} (hb : BookIsKeyed s)
    (h : ViewHolds G s.book v) (hroom : roomFor v s = true) : KeyedBook (foldedBook g s v) := by
  have happ := foldedBook_applies (g := g) h
  refine KeyedBook.place (KeyedBook.of_forall₂ (fun h => h.slot) (fun h => h.label) hb happ) h.nodup ?_ ?_
  · intro n hn e he
    obtain ⟨i, hi, rfl⟩ := List.getElem_of_mem he
    have hi' : i < s.book.length := happ.length_eq ▸ hi
    have ha : Applies G (touchedBy v) s.book[i] (v.book.map _)[i] := happ.get hi' hi
    rw [ha.label]
    exact h.new n hn _ (List.getElem_mem hi')
  · have hlen := happ.length_eq
    have hfree : v.fresh.length ≤ s.freeSlots := by simpa [roomFor] using hroom
    have hbound : s.book.length ≤ slotCount := by
      have hnd : (s.book.map Entry.slot).Nodup := by
        rw [List.Nodup, List.pairwise_map]
        exact hb.1.imp fun h => Nat.ne_of_lt h
      have hsub : s.book.map Entry.slot ⊆ List.range slotCount := by
        intro n hn
        obtain ⟨e, he, rfl⟩ := List.mem_map.mp hn
        exact List.mem_range.mpr (hb.2.2 e he)
      simpa using List.Nodup.length_le_of_subset hnd hsub
    rw [← hlen]
    unfold State.freeSlots at hfree
    omega

/-- An entry of the folded book: a new one, or what the fold has made of one of the book. -/
theorem mem_foldedBook {G : Prop} {g : OpenGroup} {s : State} {v : FoldView} (h : ViewHolds G s.book v) {x : Entry}
    (hx : x ∈ foldedBook g s v) :
    (∃ e ∈ s.book, Applies G (touchedBy v) e x) ∨ ∃ n ∈ v.fresh, ∃ slot, x = freshEntry g s slot n := by
  have happ := foldedBook_applies (g := g) h
  rcases mem_placeFresh hx with hx | hx
  · obtain ⟨i, hi, rfl⟩ := List.getElem_of_mem hx
    have hi' : i < s.book.length := happ.length_eq ▸ hi
    exact .inl ⟨s.book[i], List.getElem_mem hi', happ.get hi' hi⟩
  · exact .inr hx

/-- Every entry of the book is in the folded one, as the fold has made it. -/
theorem exists_mem_foldedBook {G : Prop} {g : OpenGroup} {s : State} {v : FoldView} (h : ViewHolds G s.book v)
    {e : Entry} (he : e ∈ s.book) : ∃ x ∈ foldedBook g s v, Applies G (touchedBy v) e x := by
  have happ := foldedBook_applies (g := g) h
  obtain ⟨i, hi, rfl⟩ := List.getElem_of_mem he
  have hi' := happ.length_eq ▸ hi
  exact ⟨_, mem_placeFresh_of_mem (List.getElem_mem hi'), happ.get hi hi'⟩

theorem applyFold_eq (g : OpenGroup) (v : FoldView) (s : State) :
    applyFold g v s = ((foldedBook g s v).filter (fun e => e.label ∈ touchedBy v)).foldl (afterTouch s)
      { v.replaced.foldl (supersededReport s) s with
        book := foldedBook g s v, dialogue := markTouched (touchedBy v) s.dialogue } := rfl

end Sys2Proof.Machine
end


section
/-! The operations that every command is made of. `Op K Q L s t` is one of them, with what the invariants need to
know of the state it is taken in; `exec_ops` says once that every command is a chain of them, and each invariant is
then a case analysis over the operations. `K` says that the book was keyed when the command began, `Q` that the
quiet wait followed R117, and `L` that the command is a reset or part of the autoload. -/

namespace Sys2Proof.Machine

/-! ### Faults, reports and free choices -/

/-- A fault taken, a report queued, or a free choice made. -/
inductive News : State → State → Prop
  | fault (d : Detail) (l : LabelAddr) (b : Byte) (g : GroupNo) (s : State) : News s (latch d l b g s)
  | report (r : ReportBody) {s : State} (h : s.hasRoom = true) : News s (pushReport r s)
  | choice (n : Nat) (s : State) : News s { s with choices := n }

/-- Any number of faults, reports and free choices. -/
abbrev Tells : State → State → Prop := ReflTransGen News

theorem Tells.latch (d : Detail) (l : LabelAddr) (b : Byte) (g : GroupNo) (s : State) :
    Tells s (latch d l b g s) := .single (.fault d l b g s)

theorem eventReport_tells (r : ReportBody) (s : State) : Tells s (eventReport r s) := by
  unfold eventReport
  split
  next h => exact .single (.report r h)
  next => exact .refl

theorem Tells.foldl {α : Type} {f : State → α → State} (h : ∀ s a, Tells s (f s a)) :
    ∀ (as : List α) (s : State), Tells s (as.foldl f s)
  | [], _ => .refl
  | a :: as, s => (h s a).trans (Tells.foldl h as (f s a))

theorem noteLate_tells (was : Bool) (e : Entry) (s : State) : Tells s (noteLate was e s) := by
  unfold noteLate
  split
  · exact (Tells.latch ..).trans (eventReport_tells ..)
  · exact .refl

theorem reportPromoted_tells (ns : List Entry) (s : State) : Tells s (reportPromoted ns s) :=
  Tells.foldl (fun _ _ => eventReport_tells ..) ns s

/-! ### What an entry's change comes to -/

/-- The same change on its way to an end: only its attempts, limit, notes and last outcome may differ. -/
structure SameChange (e x : Entry) : Prop where
  slot : x.slot = e.slot
  label : x.label = e.label
  base : x.base = e.base
  target : x.target = e.target
  successor : x.successor = e.successor
  attempts : e.attempts ≤ e.limit → x.attempts ≤ x.limit

theorem SameChange.refl (e : Entry) : SameChange e e := ⟨rfl, rfl, rfl, rfl, rfl, id⟩

/-- An entry's slot is freed, or holds a WAITING entry of its label. -/
inductive Leaves (e : Entry) (s : State) : State → Prop
  | freed : Leaves e s (s.freeSlot e.slot)
  | waits (n : Entry) (slot : n.slot = e.slot) (label : n.label = e.label) (state : n.state = .waiting)
      (law : EntryLaw e → EntryLaw n) : Leaves e s (s.setEntry n)

/-- An entry's slot is left, or the entry is CLOSING and its slot at the end of the closing order list. -/
inductive Concludes (e : Entry) (s : State) : State → Prop
  | leaves {t : State} (h : Leaves e s t) : Concludes e s t
  | joins (x : Entry) (r : ClosingRecord) (hx : SameChange e x) (hw : s.closing ≠ [] ∨ 256 ≤ s.reports.length) :
      Concludes e s { s with
        book := putEntry { x with state := .closing r, late := false } s.book
        closing := s.closing ++ [x.slot] }

/-- An entry is closed or returned to WAITING, with its news. -/
def Ends (e : Entry) (s t : State) : Prop := ∃ u v, Tells s u ∧ Concludes e u v ∧ Tells v t

theorem Ends.before {e : Entry} {s t u : State} (h : Tells s t) : Ends e t u → Ends e s u := by
  rintro ⟨v, w, h1, h2, h3⟩
  exact ⟨v, w, h.trans h1, h2, h3⟩

theorem Ends.after {e : Entry} {s t u : State} (h : Ends e s t) (h' : Tells t u) : Ends e s u := by
  obtain ⟨v, w, h1, h2, h3⟩ := h
  exact ⟨v, w, h1, h2, h3.trans h'⟩

theorem promote_law {s : State} {e x : Entry} {p : Successor} (hx : SameChange e x) (hp : x.successor = some p)
    (h : EntryLaw e) : EntryLaw (promote s x p) := by
  obtain ⟨_, hbase, hnewer⟩ := h.2.1 p (hx.successor ▸ hp)
  refine ⟨?_, fun q hq => by simp [promote, evaluate, recompute] at hq, Nat.zero_le _, fun hc => ?_⟩
  · change newer p.target x.target = true
    rw [hx.target, hnewer]
  · simp [promote, evaluate, recompute, Entry.isClosing] at hc

theorem chain_law {s : State} {e x : Entry} {p : Successor} (hx : SameChange e x) (hp : x.successor = some p)
    (h : EntryLaw e) : EntryLaw (chain s x p) := by
  obtain ⟨_, hbase, hnewer⟩ := h.2.1 p (hx.successor ▸ hp)
  refine ⟨?_, fun q hq => by simp [chain, evaluate, recompute] at hq, Nat.zero_le _, fun hc => ?_⟩
  · change VersionLaw (if breaksLaw x p then .version x.target else x.base) p.target
    split
    · change newer p.target x.target = true
      rw [hx.target, hnewer]
    · rename_i hb
      cases hbx : x.base with
      | any => rfl
      | version b =>
        change newer p.target b = true
        simpa [breaksLaw, hbx] using hb
  · simp [chain, evaluate, recompute, Entry.isClosing] at hc

/-- A closed entry's report is queued, and its slot left (R60). -/
theorem closeOut_leaves {e x : Entry} (hx : SameChange e x) (r : ClosingRecord) (s : State) :
    ∃ v, Leaves e (pushReport (closingReport x r) s) v ∧ Tells v (closeOut x r s).1 := by
  unfold closeOut
  split
  next => exact ⟨_, hx.slot ▸ .freed, .refl⟩
  next p hp =>
    refine ⟨_, .waits (promote (pushReport (closingReport x r) s) x p) hx.slot hx.label rfl (promote_law hx hp), ?_⟩
    dsimp only
    split
    · exact Tells.latch ..
    · exact .refl

/-- The entry itself in the book makes no difference to its closing out. -/
theorem closeOut_setEntry {x n : Entry} (hs : n.slot = x.slot) (r : ClosingRecord) (s : State) :
    closeOut x r (s.setEntry n) = closeOut x r s := by
  have hput : ∀ m : Entry, m.slot = x.slot → putEntry m (putEntry n s.book) = putEntry m s.book := by
    intro m hm
    simp only [putEntry, List.map_map]
    refine List.map_congr_left fun y _ => ?_
    by_cases hy : y.slot = x.slot <;> simp [hy, hm, hs]
  unfold closeOut
  cases hp : x.successor with
  | none =>
    simp only [pushReport, State.freeSlot, State.setEntry]
    rw [filter_putEntry hs]
  | some p =>
    have hn : promote (pushReport (closingReport x r) (s.setEntry n)) x p =
        promote (pushReport (closingReport x r) s) x p := rfl
    have he : (pushReport (closingReport x r) (s.setEntry n)).setEntry
        (promote (pushReport (closingReport x r) s) x p) =
        (pushReport (closingReport x r) s).setEntry (promote (pushReport (closingReport x r) s) x p) := by
      simp only [State.setEntry, pushReport]
      rw [hput (promote _ x p) rfl]
    simp only [hn, he]

theorem enterClosing_ends {e x : Entry} (hx : SameChange e x) (o : ClosingOutcome) (d : Deliverer) (v : Version)
    (s : State) : Ends e s (enterClosing x o d v s) := by
  by_cases h : s.closing = [] ∧ s.reports.length < 256
  · rw [enterClosing_now h]
    dsimp only
    rw [closeOut_setEntry (n := { x with state := _, late := _ }) rfl]
    have hroom : s.hasRoom = true := by simpa [State.hasRoom] using h.2
    obtain ⟨v, hl, ht⟩ := closeOut_leaves (x := { x with state := .closing ⟨o, d, v, s.clock⟩, late := false })
      ⟨hx.slot, hx.label, hx.base, hx.target, hx.successor, hx.attempts⟩ ⟨o, d, v, s.clock⟩ s
    exact ⟨_, _, .single (.report _ hroom), .leaves hl, ht.trans (reportPromoted_tells ..)⟩
  · rw [enterClosing_waits (not_closesNow h)]
    exact ⟨s, _, .refl, .joins x _ hx (not_closesNow h), .refl⟩

theorem returnToWaiting_ends {e x : Entry} (hx : SameChange e x) (s : State) :
    Ends e s (returnToWaiting x s) := by
  unfold returnToWaiting
  split
  next hp =>
    refine ⟨s, _, .refl, .leaves (.waits { x with state := .waiting } hx.slot hx.label rfl fun h => ?_), .refl⟩
    obtain ⟨hv, _, hatt, _⟩ := h
    refine ⟨?_, fun p h => ?_, hx.attempts hatt, fun hc => ?_⟩
    · change VersionLaw x.base x.target
      rw [hx.base, hx.target]
      exact hv
    · exact absurd (hp.symm.trans h) (by simp)
    · simp [Entry.isClosing] at hc
  next p hp =>
    exact ⟨s, _, .refl, .leaves (.waits (chain s x p) hx.slot hx.label rfl (chain_law hx hp)), noteLate_tells ..⟩

theorem eitherOrder_ends {e : Entry} {s a b : State} (ha : Ends e s a) (hb : Ends e s b) :
    Ends e s (eitherOrder a b) := by
  rcases eitherOrder_cases a b with h | h <;> rw [h]
  · exact ha.after (.single (.choice _ a))
  · exact hb.after (.single (.choice _ b))

theorem abandon_ends {e x : Entry} (hx : SameChange e x) (s : State) : Ends e s (abandon x s) :=
  eitherOrder_ends ((enterClosing_ends hx ..).before (Tells.latch ..))
    ((enterClosing_ends hx ..).after (Tells.latch ..))

theorem failedTransfer_ends {e x : Entry} (hx : SameChange e x) (s : State) : Ends e s (failedTransfer x s) := by
  have h : SameChange e { x with
      limit := limitFor s x.label, attempts := min (x.attempts + 1) (limitFor s x.label) } :=
    ⟨hx.slot, hx.label, hx.base, hx.target, hx.successor, fun _ => Nat.min_le_right _ _⟩
  unfold failedTransfer
  dsimp only
  split
  · exact abandon_ends h s
  · exact returnToWaiting_ends h s

/-- The outcome of a transfer at the book: nothing for a slot that holds no entry, or the end of its entry. -/
def Outcome (slot : Nat) (s t : State) : Prop :=
  (s.entryAt slot = none ∧ t = s) ∨ ∃ e, s.entryAt slot = some e ∧ Ends e s t

theorem transferOutcome_outcome (slot : Nat) (o : TransferOutcome) (held : Version) (s : State) :
    Outcome slot s (transferOutcome slot o held s) := by
  cases he : s.entryAt slot with
  | none =>
    refine .inl ⟨he, ?_⟩
    simp [transferOutcome, he]
  | some e =>
    refine .inr ⟨e, he, ?_⟩
    rw [transferOutcome_of_entry he]
    have hx : SameChange e { e with lastOutcome := some o } := ⟨rfl, rfl, rfl, rfl, rfl, id⟩
    cases o
    case done | current | mismatch => exact enterClosing_ends hx ..
    case lowPower | cutOff => exact returnToWaiting_ends hx s
    case noAnswer | lost | uncertain | badFace => exact failedTransfer_ends hx s

/-! ### The closing order list used from its head -/

/-- One use of the closing order list: its first slot is left, or skipped where no entry waits to close. -/
inductive Drains : State → State → Prop
  | news {s t : State} (h : News s t) : Drains s t
  | takes {s t : State} {n : Nat} {rest : List Nat} {e : Entry} (hc : s.closing = n :: rest)
      (he : s.entryAt n = some e) (hcl : e.isClosing = true) (ht : Leaves e { s with closing := rest } t) :
      Drains s t
  | skips {s : State} {n : Nat} {rest : List Nat} (hc : s.closing = n :: rest)
      (hn : ∀ e, s.entryAt n = some e → e.isClosing = false) : Drains s { s with closing := rest }

theorem Tells.drains {s t : State} (h : Tells s t) : ReflTransGen Drains s t :=
  h.lift id fun _ _ h => .news h

theorem closeOut_closing (x : Entry) (r : ClosingRecord) (s : State) (ns : List Nat) :
    closeOut x r { s with closing := ns } =
      ({ (closeOut x r s).1 with closing := ns }, (closeOut x r s).2) := by
  unfold closeOut
  cases x.successor with
  | none => rfl
  | some p =>
    have hn : promote (pushReport (closingReport x r) { s with closing := ns }) x p =
        promote (pushReport (closingReport x r) s) x p := rfl
    dsimp only
    rw [hn]
    split <;> rfl

theorem drainList_drains : ∀ (ns : List Nat) (late : List Entry) (s : State),
    ReflTransGen Drains { s with closing := ns } (drainList ns late s).1
  | [], _, _ => .refl
  | n :: rest, late, s => by
    have hskip : (∀ e, s.entryAt n = some e → e.isClosing = false) →
        ReflTransGen Drains { s with closing := n :: rest } (drainList rest late s).1 := fun h =>
      .head (b := { s with closing := rest }) (Drains.skips (s := { s with closing := n :: rest }) rfl h)
        (drainList_drains rest late s)
    unfold drainList
    split
    next hroom =>
      split
      next e he =>
        split
        next r hr =>
          have hcl : e.isClosing = true := by simp [Entry.isClosing, hr]
          obtain ⟨v, hl, ht⟩ := closeOut_leaves (SameChange.refl e) r { s with closing := rest }
          rw [closeOut_closing] at ht
          refine .head (.news (.report (closingReport e r) (s := { s with closing := n :: rest }) hroom))
            (.head (.takes (n := n) (rest := rest) rfl he hcl hl) (ht.drains.trans ?_))
          exact drainList_drains rest _ (closeOut e r s).1
        next hr =>
          refine hskip fun x hx => ?_
          cases he.symm.trans hx
          unfold Entry.isClosing
          split
          next r h => exact absurd h (hr r)
          next => rfl
      next he => exact hskip fun x hx => by simp [he] at hx
    next => exact .refl

/-- After a drain the list is empty or the queue full. -/
theorem drainList_ends : ∀ (ns : List Nat) (late : List Entry) (s : State),
    (drainList ns late s).1.hasRoom = true → (drainList ns late s).1.closing = []
  | [], _, _ => fun _ => rfl
  | n :: rest, late, s => by
    unfold drainList
    split
    next =>
      split
      · split
        · exact drainList_ends rest _ _
        · exact drainList_ends rest _ _
      · exact drainList_ends rest _ _
    next hroom => exact fun h => absurd h hroom

theorem hasRoom_of_tells {s t : State} (h : Tells s t) (ht : t.hasRoom = true) :
    s.hasRoom = true ∧ t.closing = s.closing := by
  induction h with
  | refl => exact ⟨ht, rfl⟩
  | tail _ hn ih =>
    cases hn with
    | fault => exact ih ht
    | report r h =>
      obtain ⟨h1, h2⟩ := ih h
      exact ⟨h1, h2⟩
    | choice => exact ih ht

theorem drainClosing_drains (s : State) : ReflTransGen Drains s (drainClosing s) :=
  (drainList_drains s.closing [] s).trans (reportPromoted_tells ..).drains

theorem drainClosing_ends (s : State) (h : (drainClosing s).hasRoom = true) : (drainClosing s).closing = [] := by
  obtain ⟨h1, h2⟩ := hasRoom_of_tells (reportPromoted_tells _ _) h
  exact h2.trans (drainList_ends _ _ _ h1)

/-! ### One operation -/

/-- An evaluation, or the end or the move of a yield, of one entry (R53, R63, R64). -/
structure Reckons (e x : Entry) : Prop where
  slot : x.slot = e.slot
  label : x.label = e.label
  base : x.base = e.base
  target : x.target = e.target
  successor : x.successor = e.successor
  attempts : x.attempts = e.attempts
  limit : x.limit = e.limit
  state : x.state = e.state ∨ (e.isOpen = true ∧ e.state ≠ .waiting ∧ x.isOpen = true)
  late : e.isClosing = true → x.late = e.late

/-- An open entry that stays open, with its change and its attempts. -/
structure StaysOpen (e n : Entry) : Prop where
  slot : n.slot = e.slot
  label : n.label = e.label
  base : n.base = e.base
  target : n.target = e.target
  successor : n.successor = e.successor
  attempts : n.attempts = e.attempts
  limit : n.limit = e.limit
  isOpen : n.isOpen = true

/-- One operation of the blocks. `K` says that the book was keyed when the command began, `Q` that the quiet wait
followed R117, and `L` that the command is a reset or part of the autoload. -/
inductive Op (K Q L : Prop) (s : State) : State → Prop
  | news {t : State} (h : News s t) : Op K Q L s t
  -- the Batch Link, the enable set and the last reset kind
  | link (receiver : Receiver) (holding : List LinkFrame) (response : Option Response)
      (overrun : Option Overrun) (enable : FlagSet) (lastReset : ResetKind) :
      Op K Q L s { s with
        receiver := receiver, holding := holding, response := response, overrun := overrun, enable := enable,
        lastReset := lastReset }
  -- the Record Gatherer
  | opensGroup (n : GroupNo) (time : StoreTime) (cls : Fin 8) (hn : n ≠ 0) :
      Op K Q L s { s with group := some ⟨n, time, cls, 60, []⟩ }
  | idles (g : OpenGroup) (n : Nat) (hg : s.group = some g) (hn : 1 ≤ n ∧ (n ≤ 60 ∨ n ≤ g.idle)) :
      Op K Q L s { s with group := some { g with idle := n } }
  | gathers (g : OpenGroup) (r : GatheredRecord) (hg : s.group = some g) (hlen : g.gathered.length < 512)
      (hr : VersionLaw r.base r.target) :
      Op K Q L s { s with group := some { g with gathered := g.gathered ++ [r], idle := 60 } }
  | closesGroup : Op K Q L s { s with group := none }
  -- Station Control and the Station Clock
  | turns (o : OpState) (hs : s.opState = .idle ∨ s.opState = .run ∨ s.opState = .paused)
      (ho : o = .idle ∨ (o = .run ∨ o = .paused) ∧ (s.opState = .idle →
        s.clockSet = true ∧ s.config.identity.station ≠ 0)) : Op K Q L s { s with opState := o }
  | clears : Op K Q L s { s with
      latched := noKinds, firstFault := none, opState := if s.opState = .halted then .idle else s.opState }
  | ticks (clock : StoreTime) (set : Bool) (h : s.clockSet = true → set = true) :
      Op K Q L s { s with clock := clock, clockSet := set, timebase := 0 }
  -- the Change Book
  | reckons (f : Entry → Entry) (hf : ∀ e, Reckons e (f e)) : Op K Q L s { s with book := s.book.map f }
  | fits (e n : Entry) (he : K → e ∈ s.book ∧ e.isOpen = true) (hn : StaysOpen e n)
      (hd : ∀ c, s.dialogue = .standingOff c → c.touched = true ∨ c.label ≠ e.label) : Op K Q L s (s.setEntry n)
  | withdraws (e : Entry) (he : e ∈ s.book) (ho : e.isOpen = true) : Op K Q L s (s.freeSlot e.slot)
  | confirms (e : Entry) {t : State} (he : e ∈ s.book) (ho : e.isOpen = true)
      (hd : ∀ c, s.dialogue ≠ .standingOff c) (h : Ends e s t) : Op K Q L s t
  | drains (k : Nat) {t : State} (h : ReflTransGen Drains { s with reports := s.reports.drop k } t)
      (hroom : t.hasRoom = true → t.closing = []) : Op K Q L s t
  | folds (g : OpenGroup) (v : FoldView) (hg : s.group = some g)
      (hv : checkPass g g.gathered 1 (startView s) = .done v) (hroom : roomFor v s = true) :
      Op K Q L s { s with
        group := none, book := foldedBook g s v, dialogue := markTouched (touchedBy v) s.dialogue }
  -- the Roster, the tally list and the budget
  | roster (rs : List RosterRecord) (h : RosterIsKeyed s → RosterIsKeyed { s with roster := rs }) :
      Op K Q L s { s with roster := rs }
  | tallies (p : LabelAddr × Version) : Op K Q L s (joinTally p s)
  | counts : Op K Q L s { s with tallyCount := min (s.tallyCount + 1) 60 }
  | budgets (b : Nat) (h : b ≤ s.capacity) : Op K Q L s { s with budget := b }
  -- the exchange on the air
  | standsDown : Op K Q L s { s with dialogue := heardDialogue s.dialogue }
  | senses (n : Nat) (h : n ≤ s.carriers ∨ ∀ c, s.dialogue ≠ .standingOff c) : Op K Q L s { s with carriers := n }
  | meets {p : Phase} {c : TransferContext} {w : Wait} (w' : Wait) (hd : s.dialogue = .transferring p c)
      (hw : c.wait = some w) :
      Op K Q L s { s with dialogue := .transferring p { c with wait := some w' } }
  | standsOff (c : TransferContext) (e : Entry) (hd : s.dialogue = .listening) (ho : s.opState = .run)
      (hc : s.carriers = 0) (he : e ∈ s.book) (hw : e.state = .waiting) (hlabel : c.label = e.label)
      (htarget : c.target = e.target) (hface : c.face.length ≤ 27) (hf : c.fragment = 1) (hr : c.resends = 0)
      (hwait : c.wait = none) (hdelay : c.delayUs ≤ 7500) (hslot : c.slot = e.slot) :
      Op K Q L s { s with dialogue := .standingOff c }
  | commits (c : TransferContext) (e : Entry) (hd : s.dialogue = .standingOff c) (he : commitEntry c s = some e) :
      Op K Q L s (commitOffer c e s)
  | offers {c : TransferContext} {x : AirFrame} (hd : s.dialogue = .transferring .awaitReady c)
      (hx : s.transmitting = some x) :
      Op K Q L s { s with
        transmitting := none
        dialogue := .transferring .awaitReady
          { c with covered := c.covered + offerAirtime, wait := some (newWait 5000) } }
  | firstFragment {c : TransferContext} (hd : s.dialogue = .transferring .awaitReady c)
      (hx : s.transmitting = none) : Op K Q L s (sendFragment { c with fragment := 1 } false s)
  | nextFragment {c : TransferContext} (hd : s.dialogue = .transferring .awaitAck c)
      (h : c.fragment < fragmentCount c.face) :
      Op K Q L s (sendFragment { c with fragment := c.fragment + 1 } false s)
  | resends {c : TransferContext} (hd : s.dialogue = .transferring .awaitAck c) (h : c.resends < 2) :
      Op K Q L s (sendFragment { c with resends := c.resends + 1 } true (deduct c.fragmentTime s))
  | fragments {r : Bool} {c : TransferContext} (hd : s.dialogue = .transferring (.sending r) c) :
      Op K Q L s { s with
        transmitting := none
        dialogue := .transferring .awaitAck
          { c with
            covered := if r then c.covered else c.covered + c.fragmentTime
            resends := if r then c.resends else 0
            wait := some (newWait 4000) } }
  | awaitsDone {c : TransferContext} (hd : s.dialogue = .transferring .awaitAck c)
      (h : ¬ c.fragment < fragmentCount c.face) :
      Op K Q L s { s with dialogue := .transferring .awaitDone { c with wait := some (newWait 10000) } }
  | ends {p : Phase} {c : TransferContext} {u : State} (b : Nat) (hd : s.dialogue = .transferring p c)
      (hu : Outcome c.slot s u) (hb : b ≤ s.capacity) : Op K Q L s (toListening { u with budget := b })
  | beginsTally (n b : Nat) (x : AirFrame) (hq : s.quietWait ≠ none) (hQ : Q → s.dialogue = .listening)
      (hn : n ≤ 16) (hlen : n ≤ s.tally.length) (hb : b ≤ s.budget) :
      Op K Q L s { s with budget := b, dialogue := .tallying n, quietWait := none, transmitting := some x }
  | endsTally {n : Nat} (hd : s.dialogue = .tallying n) :
      Op K Q L s (toListening { s with tally := s.tally.drop n, tallyCount := 0 })
  -- the end of a command
  | quiet : Op K Q L s (settleQuiet s)
  | unhalts (h : s.opState = .halted ∨ s.opState = .starting) : Op K Q L s { s with halt := false }
  | halts (ho : s.opState = .idle ∨ s.opState = .run ∨ s.opState = .paused)
      (hd : ∀ p c, s.dialogue ≠ .transferring p c) :
      Op K Q L s { toListening s with opState := .halted, halt := false, quietWait := none }
  | cutsOff {p : Phase} {c : TransferContext} {u : State} (x : Option AirFrame) (n b : Nat)
      (ho : s.opState = .idle ∨ s.opState = .run ∨ s.opState = .paused) (hd : s.dialogue = .transferring p c)
      (hu : Outcome c.slot { s with opState := .halted, transmitting := x, choices := n } u) (hb : b ≤ s.capacity) :
      Op K Q L s { toListening { u with budget := b } with halt := false, quietWait := none }
  -- resets and the autoload
  | coldStart (hL : L) : Op K Q L s { State.reset with choices := s.choices, pending := s.pending }
  | lineReset {t : State} (hL : L) (h : execLineReset s = .next t) : Op K Q L s t
  | releases (hL : L) (h : s.lineReset = true) :
      Op K Q L s { s with lineReset := false, autoload := some freshAutoload }
  | loads (hL : L) (a a' : Autoload) (ha : s.autoload = some a)
      (hc : ConfigInRange a.pendingConfig → ConfigInRange a'.pendingConfig) : Op K Q L s { s with autoload := some a' }
  | loaded (hL : L) (a : Autoload) (c : StationConfig) (ha : s.autoload = some a)
      (hc : ConfigInRange a.pendingConfig → ConfigInRange c) : Op K Q L s (endAutoload c s)

end Sys2Proof.Machine
end


section
/-! Every command is a chain of operations. -/

namespace Sys2Proof.Machine

variable {K Q L : Prop}

/-- A chain of operations. -/
abbrev Ops (K Q L : Prop) : State → State → Prop := ReflTransGen (Op K Q L)

theorem Tells.ops {s t : State} (h : Tells s t) : Ops K Q L s t := h.lift id fun _ _ h => .news h

/-- A fault and the report that follows it. -/
theorem latch_report_ops (d : Detail) (l : LabelAddr) (b : Byte) (g : GroupNo) (r : ReportBody) (s : State) :
    Ops K Q L s (eventReport r (latch d l b g s)) :=
  Tells.ops (.trans (Tells.latch d l b g s) (eventReport_tells r _))

theorem Op.one {s t : State} (h : Op K Q L s t) : Ops K Q L s t := .single h

theorem Ops.foldl {α : Type} {f : State → α → State} (h : ∀ s a, Ops K Q L s (f s a)) :
    ∀ (as : List α) (s : State), Ops K Q L s (as.foldl f s)
  | [], _ => .refl
  | a :: as, s => (h s a).trans (Ops.foldl h as (f s a))

theorem eitherOrder_ops {s a b : State} (ha : Ops K Q L s a) (hb : Ops K Q L s b) : Ops K Q L s (eitherOrder a b) := by
  rcases eitherOrder_cases a b with h | h <;> rw [h]
  · exact ha.tail (.news (.choice _ a))
  · exact hb.tail (.news (.choice _ b))

/-! ### The book -/

theorem confirm_ops {s : State} (hd : ∀ c, s.dialogue ≠ .standingOff c) (l : LabelAddr) (v : Version)
    (o : ClosingOutcome) (d : Deliverer) : Ops K Q L s (confirm l v o d s) := by
  unfold confirm
  split
  next e he =>
    split
    next h =>
      have ho : e.isOpen = true := (Bool.and_eq_true_iff.mp h).1
      exact (Op.confirms e (entryOf_some he).1 ho hd (enterClosing_ends (.refl e) ..)).one
    next => exact .refl
  next => exact .refl

/-- A re-check for fit of an open entry that no untouched standoff would offer (R51). -/
theorem refit_ops {s : State} {e : Entry} (he : K → e ∈ s.book ∧ e.isOpen = true)
    (hd : ∀ c, s.dialogue = .standingOff c → c.touched = true ∨ c.label ≠ e.label) (m : BitVec 4)
    (hheld : e.isOpen = true) : Ops K Q L s (refit m e s) := by
  have hfits : ∀ (n : FitNotes) (st : EntryState), ({ e with state := st } : Entry).isOpen = true →
      Op K Q L s (s.setEntry { withFit n e with state := st }) := fun n st h =>
    .fits e _ he ⟨rfl, rfl, rfl, rfl, rfl, rfl, rfl, h⟩ hd
  unfold refit
  split
  next n _ => exact (hfits n .waiting rfl).one
  next =>
    split
    next h => exact (hfits {} e.state hheld).one
    next =>
      exact (hfits {} .held rfl).one.trans (latch_report_ops ..)

theorem enterHeld_ops {s : State} {e : Entry} (he : e ∈ s.book) (ho : e.isOpen = true)
    (hd : ∀ c, s.dialogue ≠ .standingOff c) : Ops K Q L s (enterHeld e s) :=
  (Op.fits e { withFit {} e with state := .held } (fun _ => ⟨he, ho⟩)
    ⟨rfl, rfl, rfl, rfl, rfl, rfl, rfl, rfl⟩ fun c hc => absurd hc (hd c)).one.trans
    (latch_report_ops ..)

theorem recheckModel_ops {s : State} (hd : ∀ c, s.dialogue ≠ .standingOff c) (l : LabelAddr) (m : BitVec 4) :
    Ops K Q L s (recheckModel l m s) := by
  unfold recheckModel
  split
  next e he =>
    split
    next hs =>
      have ho : e.isOpen = true := by rcases hs with hs | hs <;> simp [Entry.isOpen, hs]
      exact refit_ops (fun _ => ⟨(entryOf_some he).1, ho⟩) (fun c hc => absurd hc (hd c)) m ho
    next => exact .refl
  next => exact .refl

theorem yieldLabel_ops {s : State} (hd : ∀ c, s.dialogue ≠ .standingOff c) (l : LabelAddr) :
    Ops K Q L s (yieldLabel l s) := by
  unfold yieldLabel
  split
  next e he =>
    split
    next ho =>
      exact (Op.fits e { e with state := .yielded (s.clock + 32) } (fun _ => ⟨(entryOf_some he).1, ho⟩)
        ⟨rfl, rfl, rfl, rfl, rfl, rfl, rfl, rfl⟩ fun c hc => absurd hc (hd c)).one
    next => exact .refl
  next => exact .refl

theorem evaluateOpen_reckons (c : StationConfig) (clock : StoreTime) (e : Entry) :
    Reckons e (evaluateOpen c clock e) := by
  unfold evaluateOpen
  split
  next => exact ⟨rfl, rfl, rfl, rfl, rfl, rfl, rfl, .inl rfl, fun _ => rfl⟩
  next h => exact ⟨rfl, rfl, rfl, rfl, rfl, rfl, rfl, .inl rfl, fun hc => absurd hc h⟩

theorem endYield_reckons (clock : StoreTime) (e : Entry) : Reckons e (endYield clock e) := by
  unfold endYield
  split
  next h =>
    exact ⟨rfl, rfl, rfl, rfl, rfl, rfl, rfl, .inr ⟨by simp [Entry.isOpen, h], by simp [h], rfl⟩, fun _ => rfl⟩
  next => exact ⟨rfl, rfl, rfl, rfl, rfl, rfl, rfl, .inl rfl, fun _ => rfl⟩

theorem moveYield_reckons (d : StoreTime) (e : Entry) : Reckons e (moveYield d e) := by
  unfold moveYield
  split
  next u h =>
    exact ⟨rfl, rfl, rfl, rfl, rfl, rfl, rfl, .inr ⟨by simp [Entry.isOpen, h], by simp [h], rfl⟩, fun _ => rfl⟩
  next => exact ⟨rfl, rfl, rfl, rfl, rfl, rfl, rfl, .inl rfl, fun _ => rfl⟩

theorem evaluateAll_ops (s : State) : Ops K Q L s (evaluateAll s) :=
  (Op.reckons _ (evaluateOpen_reckons s.config s.clock)).one.trans
    (Tells.foldl (fun _ _ => noteLate_tells ..) s.book _).ops

theorem drainClosing_ops (k : Nat) (s : State) :
    Ops K Q L s (drainClosing { s with reports := s.reports.drop k }) :=
  (Op.drains k (drainClosing_drains _) (drainClosing_ends _)).one

/-! ### The fold -/

theorem supersededReport_tells (s t : State) (l : LabelAddr) : Tells t (supersededReport s t l) := by
  unfold supersededReport
  split
  · exact eventReport_tells ..
  · exact .refl

/-- What the SUPERSEDED reports do not touch may be changed before them. -/
theorem superseded_tells (s : State) (b : List Entry) (d : Dialogue) :
    ∀ (ls : List LabelAddr) (t : State), Tells { t with book := b, dialogue := d }
      { ls.foldl (supersededReport s) t with book := b, dialogue := d }
  | [], _ => .refl
  | l :: ls, t => by
    refine .trans ?_ (superseded_tells s b d ls (supersededReport s t l))
    have h : ({ supersededReport s t l with book := b, dialogue := d } : State) =
        supersededReport s { t with book := b, dialogue := d } l := by
      unfold supersededReport
      cases s.entryOf l with
      | none => rfl
      | some e =>
        unfold eventReport
        dsimp only
        split
        next hr => exact (if_pos hr).symm
        next hr => exact (if_neg hr).symm
    rw [h]
    exact supersededReport_tells ..

theorem noteLate_book (was : Bool) (e : Entry) (s : State) : (noteLate was e s).book = s.book := by
  unfold noteLate lateReport eventReport
  split
  · split <;> rfl
  · rfl

/-- What a re-check for fit leaves of the book: the entry alone is changed. -/
theorem refit_book (m : BitVec 4) (e : Entry) (s : State) :
    ∃ n, n.slot = e.slot ∧ (refit m e s).book = putEntry n s.book := by
  unfold refit
  split
  next n _ => exact ⟨{ withFit n e with state := .waiting }, rfl, rfl⟩
  next =>
    split
    · exact ⟨withFit {} e, rfl, rfl⟩
    · refine ⟨{ withFit {} e with state := .held }, rfl, ?_⟩
      unfold enterHeld eventReport
      dsimp only
      split <;> rfl

theorem afterTouch_book (s t : State) (e : Entry) :
    (afterTouch s t e).book = t.book ∨ ∃ n, n.slot = e.slot ∧ (afterTouch s t e).book = putEntry n t.book := by
  unfold afterTouch
  dsimp only
  split
  · split
    · obtain ⟨n, hn, hb⟩ := refit_book _ e (noteLate ((s.entryOf e.label).any (fun o => o.late)) e t)
      exact .inr ⟨n, hn, by rw [hb, noteLate_book]⟩
    · exact .inl (noteLate_book ..)
  · exact .inl (noteLate_book ..)

theorem afterTouch_ops {s t : State} {e : Entry} (he : K → e ∈ t.book) (ho : e.isOpen = true)
    (hd : ∀ c, t.dialogue = .standingOff c → c.touched = true ∨ c.label ≠ e.label) :
    Ops K Q L t (afterTouch s t e) := by
  unfold afterTouch
  dsimp only
  have hlate : Ops K Q L t (noteLate ((s.entryOf e.label).any (fun o => o.late)) e t) := (noteLate_tells ..).ops
  split
  · split
    · refine hlate.trans (refit_ops (fun hK => ⟨?_, ho⟩) ?_ _ ho)
      · rw [noteLate_book]
        exact he hK
      · rw [(noteLate_changes _ e t).keeps.2.2.1]
        exact hd
    · exact hlate
  · exact hlate

/-- The re-checks of a fold, in order of slot. -/
theorem afterTouches_ops {s : State} : ∀ {es : List Entry} {t : State},
    (K → es.Pairwise (fun x y => x.slot < y.slot)) → (K → ∀ e ∈ es, e ∈ t.book) → (∀ e ∈ es, e.isOpen = true) →
    (∀ c, t.dialogue = .standingOff c → ∀ e ∈ es, c.touched = true ∨ c.label ≠ e.label) →
    Ops K Q L t (es.foldl (afterTouch s) t)
  | [], _, _, _, _, _ => .refl
  | e :: es, t, hp, hm, ho, hd => by
    refine (afterTouch_ops (s := s) (fun hK => hm hK e List.mem_cons_self) (ho e List.mem_cons_self)
      (fun c hc => hd c hc e List.mem_cons_self)).trans
      (afterTouches_ops (fun hK => (List.pairwise_cons.mp (hp hK)).2) (fun hK x hx => ?_)
        (fun x hx => ho x (List.mem_cons_of_mem _ hx)) (fun c hc x hx => ?_))
    · have hxb := hm hK x (List.mem_cons_of_mem _ hx)
      have hlt := (List.pairwise_cons.mp (hp hK)).1 x hx
      rcases afterTouch_book s t e with h | ⟨n, hn, h⟩ <;> rw [h]
      · exact hxb
      · exact mem_putEntry_other hxb (by omega)
    · rw [(afterTouch_changes s t e).keeps.2.2.1] at hc
      exact hd c hc x (List.mem_cons_of_mem _ hx)

/-- A standoff that the fold has not touched would offer another label. -/
theorem markTouched_standingOff {touched : List LabelAddr} {d : Dialogue} {c : TransferContext}
    (h : markTouched touched d = .standingOff c) :
    c.touched = true ∨ (c.label ∉ touched ∧ d = .standingOff c) := by
  unfold markTouched at h
  split at h
  next c' =>
    split at h
    next hm =>
      cases h
      exact .inl rfl
    next hm =>
      cases h
      exact .inr ⟨hm, rfl⟩
  next => exact absurd h (by rename_i hn; exact hn c)

/-- No label that is new in the view has an entry in it (R36). -/
def FreshIsNew (v : FoldView) : Prop := ∀ n ∈ v.fresh, ∀ e ∈ v.book, e.label ≠ n.label

theorem FreshIsNew.put {v : FoldView} (h : FreshIsNew v) {e : Entry} (he : e ∈ v.book) {w : FoldView}
    (hb : ∃ n, w.book = putEntry n v.book ∧ n.label = e.label) (hf : w.fresh = v.fresh) : FreshIsNew w := by
  obtain ⟨n, hb, hl⟩ := hb
  intro m hm x hx
  rw [hf] at hm
  rw [hb] at hx
  rcases mem_putEntry hx with ⟨rfl, _⟩ | ⟨hx, _⟩
  · exact hl ▸ h m hm e he
  · exact h m hm x hx

theorem foldRecord_freshIsNew {g : OpenGroup} {r : GatheredRecord} {v w : FoldView} (h : FreshIsNew v)
    (hok : foldRecord g r v = .ok w) : FreshIsNew w := by
  unfold foldRecord at hok
  split at hok
  next e he =>
    have hm := List.mem_of_find?_eq_some he
    split at hok
    next =>
      obtain ⟨rfl, _⟩ := stopOr_ok hok
      exact h.put hm ⟨_, rfl, rfl⟩ rfl
    next =>
      unfold foldBusy at hok
      split at hok
      · split at hok
        · cases hok
          exact h.put hm ⟨_, rfl, rfl⟩ rfl
        · split at hok <;> cases hok
      · obtain ⟨rfl, _⟩ := stopOr_ok hok
        exact h.put hm ⟨_, rfl, rfl⟩ rfl
  next hnone =>
    have hbook : ∀ e ∈ v.book, e.label ≠ r.label := by simpa using hnone
    split at hok
    next n hn =>
      obtain ⟨rfl, _⟩ := stopOr_ok hok
      intro m hm
      obtain ⟨x, hx, rfl⟩ := List.mem_map.mp hm
      by_cases hxl : x.label = r.label
      · rw [if_pos hxl]
        exact hbook
      · rw [if_neg hxl]
        exact h x hx
    next =>
      cases hok
      intro m hm
      rcases List.mem_append.mp hm with hm | hm
      · exact h m hm
      · obtain rfl := List.mem_singleton.mp hm
        exact hbook

theorem checkPass_freshIsNew {g : OpenGroup} : ∀ {rs : List GatheredRecord} {k : Nat} {v w : FoldView},
    FreshIsNew v → checkPass g rs k v = .done w → FreshIsNew w
  | [], _, _, _, h, hok => by
    cases hok
    exact h
  | r :: rs, k, v, w, h, hok => by
    unfold checkPass at hok
    split at hok
    next u hu => exact checkPass_freshIsNew (foldRecord_freshIsNew h hu) hok
    next => cases hok

/-- A touched entry of the folded book is open (R41). -/
theorem isOpen_of_touched {g : OpenGroup} {s : State} {v : FoldView} {x : Entry} (h : FreshIsNew v)
    (hx : x ∈ foldedBook g s v) (ht : x.label ∈ touchedBy v) : x.isOpen = true := by
  rcases mem_placeFresh hx with hx | ⟨n, _, slot, rfl⟩
  · obtain ⟨y, hy, rfl⟩ := List.mem_map.mp hx
    by_cases hc : y.label ∈ v.changed
    · rw [if_pos hc]
      rfl
    · rw [if_neg hc] at ht
      rcases List.mem_append.mp ht with ht | ht
      · exact absurd ht hc
      · obtain ⟨n, hn, hl⟩ := List.mem_map.mp ht
        exact absurd hl.symm (h n hn y hy)
  · rfl

/-- A fold is applied (R40 to R43). -/
theorem applyFold_ops {g : OpenGroup} {v : FoldView} {s : State} (hK : K → BookIsKeyed s) (hg : s.group = some g)
    (hv : checkPass g g.gathered 1 (startView s) = .done v) (hroom : roomFor v s = true) :
    Ops K Q L s (applyFold g v (closeTheGroup s)) := by
  have hnew : FreshIsNew v := checkPass_freshIsNew (fun n hn => by simp [startView] at hn) hv
  rw [applyFold_eq]
  refine (Op.folds g v hg hv hroom).one.trans ((superseded_tells (closeTheGroup s) _ _ v.replaced
    (closeTheGroup s)).ops.trans (afterTouches_ops ?_ ?_ ?_ ?_))
  · intro k
    have hh := checkPass_holds (G := False) (hK k) (.start False s) (fun _ _ h => h.elim) hv
    exact (foldedBook_keyed (hK k) hh hroom).1.filter _
  · exact fun _ e he => (List.mem_filter.mp he).1
  · intro e he
    obtain ⟨hm, ht⟩ := List.mem_filter.mp he
    exact isOpen_of_touched hnew hm (by simpa using ht)
  · intro c hc e he
    obtain ⟨_, ht⟩ := List.mem_filter.mp he
    rcases markTouched_standingOff hc with h | ⟨h, _⟩
    · exact .inl h
    · refine .inr fun hl => h ?_
      rw [hl]
      simpa using ht

/-! ### The Roster -/

theorem mem_without {l : LabelAddr} {rs : List RosterRecord} {r : RosterRecord} :
    r ∈ without l rs ↔ r ∈ rs ∧ r.label ≠ l := by
  simp [without]

theorem clampSignal_range (rssi : Int) : -120 ≤ clampSignal rssi ∧ clampSignal rssi ≤ 0 := by
  unfold clampSignal
  omega

/-- A record and those of the other labels are the Roster. -/
theorem perm_without {rs : List RosterRecord} (h : rs.Pairwise (fun a b => a.label ≠ b.label)) {r : RosterRecord}
    (hr : r ∈ rs) : rs.Perm (r :: without r.label rs) := by
  induction rs with
  | nil => cases hr
  | cons x xs ih =>
    obtain ⟨hx, hxs⟩ := List.pairwise_cons.mp h
    rcases List.mem_cons.mp hr with rfl | hr
    · have : without r.label (r :: xs) = xs := by
        rw [without, List.filter_cons_of_neg (by simp)]
        exact List.filter_eq_self.mpr fun y hy => by simpa using (hx y hy).symm
      rw [this]
    · have : without r.label (x :: xs) = x :: without r.label xs :=
        List.filter_cons_of_pos (by simpa using hx r hr)
      rw [this]
      exact ((ih hxs hr).cons x).trans (.swap r x _)

/-- A record in place of one of the Roster keeps it keyed: in its slot, of a label that no other record has, and in
the ranges (R70, R75). -/
theorem rosterIsKeyed_replace {s : State} {r n : RosterRecord} (h : RosterIsKeyed s) (hr : r ∈ s.roster)
    (hslot : n.slot = r.slot) (hlabel : ∀ x ∈ s.roster, x.label = n.label → x = r)
    (hn : 1 ≤ n.calls ∧ n.calls ≤ 65535 ∧ -120 ≤ n.signal ∧ n.signal ≤ 0) :
    RosterIsKeyed { s with roster := n :: without r.label s.roster } := by
  obtain ⟨hs, hl, hlen, hrange⟩ := h
  have hperm := perm_without hl hr
  have hlength : (n :: without r.label s.roster).length = s.roster.length := hperm.length_eq.symm
  have hslots : (r :: without r.label s.roster).Pairwise (fun a b => a.slot ≠ b.slot) :=
    (hperm.pairwise_iff fun h => h.symm).mp hs
  obtain ⟨hsr, hsw⟩ := List.pairwise_cons.mp hslots
  have hlabels : (without r.label s.roster).Pairwise (fun a b => a.label ≠ b.label) := hl.filter _
  refine ⟨List.pairwise_cons.mpr ⟨fun x hx => hslot ▸ hsr x hx, hsw⟩,
    List.pairwise_cons.mpr ⟨fun x hx heq => ?_, hlabels⟩, ?_, fun x hx => ?_⟩
  · obtain ⟨hx, hne⟩ := mem_without.mp hx
    exact hne (congrArg RosterRecord.label (hlabel x hx heq.symm))
  · rw [hlength]
    exact hlen
  · rw [hlength]
    rcases List.mem_cons.mp hx with rfl | hx
    · exact ⟨hslot ▸ (hrange r hr).1, hn⟩
    · exact hrange x (mem_without.mp hx).1

theorem recordOf_some {s : State} {l : LabelAddr} {r : RosterRecord} (h : s.recordOf l = some r) :
    r ∈ s.roster ∧ r.label = l :=
  ⟨List.mem_of_find?_eq_some h, by simpa using List.find?_some h⟩

theorem recordOf_none {s : State} {l : LabelAddr} (h : s.recordOf l = none) : ∀ r ∈ s.roster, r.label ≠ l := by
  simpa [State.recordOf] using h

theorem rosterLabel_inj {s : State} (h : RosterIsKeyed s) {x y : RosterRecord} (hx : x ∈ s.roster)
    (hy : y ∈ s.roster) (hl : x.label = y.label) : x = y := by
  exact eq_of_key_eq hl h.2.1 hx hy

/-- The occupied slots are those below the occupied count (R69, R78). -/
theorem rosterSlots_perm {s : State} (h : RosterIsKeyed s) :
    (s.roster.map RosterRecord.slot).Perm (List.range s.roster.length) := by
  obtain ⟨hs, _, _, hrange⟩ := h
  have hnd : (s.roster.map RosterRecord.slot).Nodup := by
    rw [List.Nodup, List.pairwise_map]
    exact hs
  have hsub : s.roster.map RosterRecord.slot ⊆ List.range s.roster.length := by
    intro n hn
    obtain ⟨r, hr, rfl⟩ := List.mem_map.mp hn
    exact List.mem_range.mpr (hrange r hr).1
  refine (List.perm_ext_iff_of_nodup hnd List.nodup_range).mpr fun n => ⟨fun hn => hsub hn, fun hn => ?_⟩
  refine Classical.byContradiction fun hmiss => ?_
  have hmore := List.Nodup.length_le_of_subset (List.nodup_cons.mpr ⟨hmiss, hnd⟩) (List.cons_subset.mpr ⟨hn, hsub⟩)
  simp only [List.length_cons, List.length_map, List.length_range] at hmore
  omega

/-- With the slots below `n + fuel` occupied the search from `n` ends there. -/
theorem rosterFreeFrom_eq {rs : List RosterRecord} : ∀ {fuel n : Nat},
    (∀ k < n + fuel, ∃ r ∈ rs, r.slot = k) → rosterFreeFrom rs n fuel = n + fuel
  | 0, _, _ => rfl
  | fuel + 1, n, h => by
    obtain ⟨r, hr, hs⟩ := h n (by omega)
    have hany : rs.any (fun r => r.slot == n) = true := List.any_eq_true.mpr ⟨r, hr, by simp [hs]⟩
    rw [rosterFreeFrom, if_pos hany, rosterFreeFrom_eq fun k hk => h k (by omega)]
    omega

/-- The lowest free slot of a keyed Roster is the occupied count (R71). -/
theorem rosterFree_eq {s : State} (h : RosterIsKeyed s) : rosterFree s.roster = s.roster.length := by
  unfold rosterFree
  rw [rosterFreeFrom_eq fun k hk => ?_, Nat.zero_add]
  have hk : k ∈ s.roster.map RosterRecord.slot :=
    (rosterSlots_perm h).mem_iff.mpr (List.mem_range.mpr (by omega))
  simpa using hk

/-- A new record in the lowest free slot keeps the Roster keyed (R71). -/
theorem rosterIsKeyed_new {s : State} {n : RosterRecord} (h : RosterIsKeyed s) (hlen : s.roster.length < slotCount)
    (hslot : n.slot = rosterFree s.roster) (hlabel : ∀ r ∈ s.roster, r.label ≠ n.label)
    (hn : 1 ≤ n.calls ∧ n.calls ≤ 65535 ∧ -120 ≤ n.signal ∧ n.signal ≤ 0) :
    RosterIsKeyed { s with roster := n :: s.roster } := by
  rw [rosterFree_eq h] at hslot
  obtain ⟨hs, hl, _, hrange⟩ := h
  refine ⟨List.pairwise_cons.mpr ⟨fun x hx => ?_, hs⟩, List.pairwise_cons.mpr ⟨fun x hx => (hlabel x hx).symm, hl⟩,
    hlen, fun x hx => ?_⟩
  · have := (hrange x hx).1
    omega
  · simp only [List.length_cons]
    rcases List.mem_cons.mp hx with rfl | hx
    · exact ⟨by omega, hn⟩
    · obtain ⟨h1, h2⟩ := hrange x hx
      exact ⟨by omega, h2⟩

theorem rosterHeard_ops (l : LabelAddr) (v : Option Version) (rssi : Int) (s : State) :
    Ops K Q L s (rosterHeard l v rssi s) := by
  unfold rosterHeard
  split
  next r hr =>
    obtain ⟨hm, hl⟩ := recordOf_some hr
    refine (Op.roster _ fun h => ?_).one
    obtain ⟨_, hc1, hc2, _⟩ := h.2.2.2 r hm
    exact rosterIsKeyed_replace (r := r) h hm rfl (fun x hx hxl => rosterLabel_inj (y := r) h hx hm hxl)
      ⟨hc1, hc2, clampSignal_range rssi⟩
  next => exact .refl

theorem rosterTally_ops (l : LabelAddr) (v : Version) (s : State) : Ops K Q L s (rosterTally l v s) := by
  refine (Op.roster _ fun h => ?_).one
  let f : RosterRecord → RosterRecord := fun r => if r.label = l ∧ newer v r.held = true then { r with held := v } else r
  have hf : ∀ r, (f r).slot = r.slot ∧ (f r).label = r.label ∧ (f r).calls = r.calls ∧ (f r).signal = r.signal := by
    intro r
    simp only [f]
    split <;> exact ⟨rfl, rfl, rfl, rfl⟩
  obtain ⟨hs, hl, hlen, hrange⟩ := h
  refine ⟨List.pairwise_map.mpr (hs.imp fun {a b} h => ?_), List.pairwise_map.mpr (hl.imp fun {a b} h => ?_), ?_,
    fun x hx => ?_⟩
  · rw [(hf a).1, (hf b).1]
    exact h
  · rw [(hf a).2.1, (hf b).2.1]
    exact h
  · simpa using hlen
  · obtain ⟨y, hy, rfl⟩ := List.mem_map.mp hx
    obtain ⟨h1, h2, h3, h4⟩ := hf y
    change (f y).slot < _ ∧ _ ≤ (f y).calls ∧ (f y).calls ≤ _ ∧ _ ≤ (f y).signal ∧ (f y).signal ≤ _
    rw [h1, h3, h4, List.length_map]
    exact hrange y hy

theorem modelChange_ops {s : State} (hd : ∀ c, s.dialogue ≠ .standingOff c) (f : CallFrame) :
    Ops K Q L s (modelChange f s) := by
  unfold modelChange
  refine (latch_report_ops ..).trans (recheckModel_ops ?_ ..)
  rw [((latch_changes ..).book.trans (eventReport_changes ..).book).keeps.2.2.1]
  exact hd

theorem rosterCall_ops {s : State} (hd : ∀ c, s.dialogue ≠ .standingOff c) (f : CallFrame) (rssi : Int)
    (busy : Bool) : Ops K Q L s (rosterCall f rssi busy s) := by
  unfold rosterCall
  split
  next r hr =>
    obtain ⟨hm, hl⟩ := recordOf_some hr
    have hmove : Ops K Q L s (s.moveToHead { r with
        model := f.model, held := f.held, battery := f.battery, signal := clampSignal rssi
        lastHeard := s.clock, calls := min (r.calls + 1) 65535, busy := busy }) := by
      refine (Op.roster _ fun h => ?_).one
      exact rosterIsKeyed_replace (r := r) h hm rfl (fun x hx hxl => rosterLabel_inj (y := r) h hx hm hxl)
        ⟨Nat.le_min.mpr ⟨Nat.le_add_left 1 _, by decide⟩, Nat.min_le_right _ _, clampSignal_range rssi⟩
    split
    · exact hmove
    · exact hmove.trans (modelChange_ops (s := s.moveToHead _) hd f)
  next hnone =>
    have hnew := recordOf_none hnone
    split
    next hlen =>
      refine (Op.roster _ fun h => ?_).one
      exact rosterIsKeyed_new h hlen rfl hnew ⟨Nat.le_refl 1, (by decide : 1 ≤ 65535), clampSignal_range rssi⟩
    next =>
      split
      next v hv =>
        have hm : v ∈ s.roster := by simpa using List.mem_of_find?_eq_some hv
        refine (Op.roster _ fun h => ?_).one
        exact rosterIsKeyed_replace h hm rfl (fun x hx hxl => absurd hxl (hnew x hx))
          ⟨Nat.le_refl 1, (by decide : 1 ≤ 65535), clampSignal_range rssi⟩
      next => exact .refl

end Sys2Proof.Machine
end


section
/-! Every command is a chain of operations: the Engine, the requests and the commands. -/

namespace Sys2Proof.Machine

variable {K Q L : Prop}

/-! ### The Dialogue Engine -/

theorem endTransfer_ops {p : Phase} {c : TransferContext} {s : State} (hd : s.dialogue = .transferring p c)
    (o : TransferOutcome) (held : Version) : Ops K Q L s (endTransfer p c o held s) := by
  have hcap : (transferOutcome c.slot o held s).capacity = s.capacity := by
    have h := (transferOutcome_changes c.slot o held s).keeps
    unfold State.capacity
    rw [h.2.2.2.2.2.2.2.2.2.2.2.2.2.1]
  exact (Op.ends (u := transferOutcome c.slot o held s) _ hd (transferOutcome_outcome ..)
    (hcap ▸ Nat.min_le_right _ _)).one

theorem waitExpires_ops {p : Phase} {c : TransferContext} {s : State} (hd : s.dialogue = .transferring p c) :
    Ops K Q L s (waitExpires p c s) := by
  unfold waitExpires
  split
  · exact endTransfer_ops hd ..
  · exact .refl
  · split
    next h => exact (Op.resends hd h.1).one
    next => exact endTransfer_ops hd ..
  · exact endTransfer_ops hd ..

theorem deadline_ops {p : Phase} {c : TransferContext} {s : State} (hd : s.dialogue = .transferring p c) :
    Ops K Q L s (deadline p c s) := by
  unfold deadline
  split
  · exact .refl
  next w hw =>
    split
    · exact (Op.meets _ hd hw).one
    · exact waitExpires_ops hd

theorem unawaited_ops (s : State) : Ops K Q L s (unawaited s) := by
  unfold unawaited
  split
  next p c hd =>
    split
    next w hw =>
      split
      · split
        · exact waitExpires_ops hd
        · exact (Op.meets _ hd hw).one
      · exact .refl
    next => exact .refl
  next => exact .refl

theorem standDown_ops (s : State) : Ops K Q L s (standDown s) := by
  rw [standDown_eq]
  exact Op.standsDown.one

theorem carrierEnds_ops (s : State) : Ops K Q L s (carrierEnds s) := (Op.senses _ (.inl (Nat.sub_le ..))).one

theorem frameHeard_ops (s : State) : Ops K Q L s (frameHeard s) := (standDown_ops s).trans (carrierEnds_ops _)

theorem frameLost_ops (s : State) : Ops K Q L s (frameLost s) := by
  unfold frameLost
  split
  · exact .refl
  · exact carrierEnds_ops s

/-- The three operating states in which a halt is taken, and the two in which it is not (R141). -/
theorem opState_cases (o : OpState) : (o = .idle ∨ o = .run ∨ o = .paused) ∨ o = .halted ∨ o = .starting := by
  cases o <;> simp

theorem settleQuiet_halted {s : State} (h : s.opState = .halted) : settleQuiet s = { s with quietWait := none } := by
  rw [settleQuiet_eq, quietAfter_of_opState (by simp [h]) (by simp [h])]

theorem cutWork_transferring {s : State} {p : Phase} {c : TransferContext} (hd : s.dialogue = .transferring p c) :
    cutWork s = endTransfer p c .cutOff 0 (airAtCut p s) := by
  unfold cutWork
  simp only [hd]

theorem cutWork_other {s : State} (hd : ∀ p c, s.dialogue ≠ .transferring p c) : cutWork s = toListening s := by
  unfold cutWork
  split
  next p c h => exact absurd h (hd p c)
  all_goals rfl

/-- A halt taken in IDLE, RUN or PAUSED (R141). -/
theorem settle_halts {s : State} (h : s.halt = true)
    (ho : s.opState = .idle ∨ s.opState = .run ∨ s.opState = .paused) :
    settle s = settleQuiet { cutWork { s with opState := .halted } with halt := false } := by
  unfold settle takeHalt
  rw [if_pos h]
  rcases ho with ho | ho | ho <;> simp only [ho]

/-- A halt that cuts off a transfer (R98, R141). -/
theorem settle_cutsOff_ops {s : State} (h : s.halt = true)
    (ho : s.opState = .idle ∨ s.opState = .run ∨ s.opState = .paused) {p : Phase} {c : TransferContext}
    (hd : s.dialogue = .transferring p c) : Ops K Q L s (settle s) := by
  rw [settle_halts h ho, cutWork_transferring (s := { s with opState := .halted }) hd, airAtCut_eq]
  have hop := (transferOutcome_changes c.slot .cutOff 0
    { s with
      opState := .halted, transmitting := (airAtCut p { s with opState := .halted }).transmitting
      choices := (airAtCut p { s with opState := .halted }).choices }).keeps
  refine (settleQuiet_halted ?_).symm ▸ (Op.cutsOff _ _ _ ho hd (transferOutcome_outcome c.slot .cutOff 0 _) ?_).one
  · exact hop.1
  · refine Nat.le_trans (Nat.min_le_right _ _) (Nat.le_of_eq ?_)
    unfold State.capacity
    rw [hop.2.2.2.2.2.2.2.2.2.2.2.2.2.1]

/-- A halt taken, whose end makes no quiet wait (R119, R141). -/
theorem takeHalt_ops (s : State) (h : s.halt = true) : Ops K Q L s (settle s) := by
  rcases opState_cases s.opState with ho | ho
  · by_cases hd : ∃ p c, s.dialogue = .transferring p c
    · obtain ⟨p, c, hd⟩ := hd
      exact settle_cutsOff_ops h ho hd
    · have hd : ∀ p c, s.dialogue ≠ .transferring p c := fun p c h => hd ⟨p, c, h⟩
      rw [settle_halts h ho, cutWork_other (s := { s with opState := .halted }) hd, settleQuiet_halted rfl]
      exact (Op.halts ho hd).one
  · have hset : settle s = settleQuiet { s with halt := false } := by
      unfold settle takeHalt
      rw [if_pos h]
      rcases ho with ho | ho <;> simp only [ho]
    rw [hset]
    exact (Op.unhalts ho).one.tail .quiet

theorem settle_ops (s : State) : Ops K Q L s (settle s) := by
  cases h : s.halt with
  | true => exact takeHalt_ops s h
  | false =>
    have : settle s = settleQuiet s := by simp [settle, takeHalt, h]
    rw [this]
    exact Op.quiet.one

/-! ### Frames heard -/

theorem evaluateCall_ops {s : State} (hd : s.dialogue = .listening) (f : CallFrame) (rssi : Int) :
    Ops K Q L s (evaluateCall f rssi s) := by
  have hno : ∀ c, s.dialogue ≠ .standingOff c := by simp [hd]
  unfold evaluateCall
  split
  next e he =>
    obtain ⟨hm, hl⟩ := entryOf_some he
    split
    next h =>
      exact (Op.confirms e hm (Bool.and_eq_true_iff.mp h).1 hno (enterClosing_ends (.refl e) ..)).one
    next =>
      have hheld : BookChanges s (heldDecision f e s) ∧ Ops K Q L s (heldDecision f e s) := by
        unfold heldDecision
        split
        next hs =>
          have ho : e.isOpen = true := by simp [Entry.isOpen, hs]
          exact ⟨refit_changes .., refit_ops (fun _ => ⟨hm, ho⟩) (fun c hc => absurd hc (hno c)) _ ho⟩
        next => exact ⟨.refl s, .refl⟩
      refine hheld.2.trans ?_
      have hd' : (heldDecision f e s).dialogue = .listening := hheld.1.keeps.2.2.1.trans hd
      generalize heldDecision f e s = t at hd'
      have hno : ∀ c, t.dialogue ≠ .standingOff c := by simp [hd']
      unfold thirdDecision
      split
      next x hx =>
        obtain ⟨hxm, hxl⟩ := entryOf_some hx
        split
        next hasked =>
          obtain ⟨hrun, _, hwait⟩ := hasked
          have ho : x.isOpen = true := by simp [Entry.isOpen, hwait]
          unfold offerDecision
          split
          · split
            next d n hfit =>
              have hset : Op K Q L t (t.setEntry (withFit n x)) :=
                .fits x (withFit n x) (fun _ => ⟨hxm, ho⟩) ⟨rfl, rfl, rfl, rfl, rfl, rfl, rfl, ho⟩
                  fun c hc => absurd hc (hno c)
              refine hset.one.trans ?_
              unfold budgetTest enterStandoff
              split
              · split
                next hcar =>
                  refine (Op.standsOff (s := t.setEntry (withFit n x)) (contextFor (withFit n x) (encodeFace d) rssi (t.setEntry (withFit n x)))
                    (withFit n x) hd' hrun hcar ?_ hwait rfl rfl ?_ rfl rfl rfl ?_ rfl).one
                  · exact mem_putEntry_self hxm rfl
                  · exact encodeFace_length_le d
                  · exact Nat.min_le_right _ _
                next => exact .refl
              · exact .refl
            next => exact enterHeld_ops hxm ho hno
          · exact (Op.confirms x hxm ho hno (enterClosing_ends (.refl x) ..)).one
        next => exact .refl
      next => exact .refl
  next => exact .refl

theorem callReceived_ops {s : State} (hd : ∀ c, s.dialogue ≠ .standingOff c) (f : CallFrame) (rssi : Int) :
    Ops K Q L s (callReceived f rssi s) := by
  refine (rosterCall_ops hd f rssi s.isTransferring).trans ?_
  unfold callReceived
  dsimp only
  split
  next h => exact evaluateCall_ops (isListening_iff.mp h) f rssi
  next => exact unawaited_ops _

theorem readyOverheard_ops {s : State} (hd : ∀ c, s.dialogue ≠ .standingOff c) (f : ReadyFrame) :
    Ops K Q L s (readyOverheard f s) := by
  unfold readyOverheard
  split
  · exact (confirm_ops hd ..).trans (unawaited_ops _)
  · exact unawaited_ops s

theorem readyReceived_ops {s : State} (hd : ∀ c, s.dialogue ≠ .standingOff c) (hx : s.transmitting = none)
    (f : ReadyFrame) (rssi : Int) : Ops K Q L s (readyReceived f rssi s) := by
  refine (rosterHeard_ops f.label (some f.held) rssi s).trans ?_
  unfold readyReceived
  dsimp only
  rw [rosterHeard_eq]
  split
  next c hc =>
    split
    · unfold readyAwaited
      split
      · exact (Op.firstFragment hc hx).one
      all_goals exact endTransfer_ops hc ..
    · exact readyOverheard_ops (s := { s with roster := heardRoster s f.label (some f.held) rssi }) hd f
  next => exact readyOverheard_ops (s := { s with roster := heardRoster s f.label (some f.held) rssi }) hd f

theorem fragAckReceived_ops (f : FragAckFrame) (s : State) : Ops K Q L s (fragAckReceived f s) := by
  unfold fragAckReceived
  split
  next c hd =>
    split
    · unfold ackAwaited
      split
      next h => exact (Op.nextFragment hd h).one
      next h => exact (Op.awaitsDone hd h).one
    · exact unawaited_ops s
  next => exact unawaited_ops s

/-- The transfer that a DONE or REFUSE ends is the one in progress. -/
theorem endedBy_some {s : State} {l : LabelAddr} {n : StationNo} {p : Phase} {c : TransferContext}
    (h : s.endedBy l n = some (p, c)) : s.dialogue = .transferring p c := by
  unfold State.endedBy at h
  split at h
  next hd =>
    split at h
    · cases h
      exact hd
    · cases h
  next => cases h

theorem doneReceived_ops {s : State} (hd : ∀ c, s.dialogue ≠ .standingOff c) (f : DoneFrame) (rssi : Int) :
    Ops K Q L s (doneReceived f rssi s) := by
  refine (rosterHeard_ops f.label (some f.held) rssi s).trans ?_
  unfold doneReceived
  dsimp only
  rw [rosterHeard_eq]
  split
  next hend => exact (endTransfer_ops (endedBy_some hend) ..).tail (.tallies _)
  next =>
    unfold doneOverheard
    refine .trans ?_ (unawaited_ops _)
    split
    · exact .refl
    · split
      · exact (confirm_ops (s := { s with roster := heardRoster s f.label (some f.held) rssi }) hd ..).tail (.tallies _)
      · exact confirm_ops (s := { s with roster := heardRoster s f.label (some f.held) rssi }) hd ..

theorem refuseReceived_ops (f : RefuseFrame) (rssi : Int) (s : State) : Ops K Q L s (refuseReceived f rssi s) := by
  refine (rosterHeard_ops f.label none rssi s).trans ?_
  unfold refuseReceived
  dsimp only
  split
  next hend =>
    have hd := endedBy_some hend
    exact eitherOrder_ops ((Tells.latch ..).ops.trans (endTransfer_ops (s := latch _ _ _ _ _) hd ..))
      ((endTransfer_ops hd ..).trans (Tells.latch ..).ops)
  next => exact unawaited_ops _

theorem tallyPair_changesDialogue (n : StationNo) (p : LabelAddr × Version) (s : State) :
    (tallyPair n p s).dialogue = s.dialogue := by
  unfold tallyPair
  split
  · dsimp only
    split
    · rfl
    · exact (confirm_changes ..).keeps.2.2.1
  · rfl

theorem tallyPair_ops {s : State} (hd : ∀ c, s.dialogue ≠ .standingOff c) (n : StationNo)
    (p : LabelAddr × Version) : Ops K Q L s (tallyPair n p s) := by
  unfold tallyPair
  split
  · dsimp only
    refine (rosterTally_ops p.1 p.2 s).trans ?_
    split
    · exact .refl
    · exact confirm_ops (s := rosterTally p.1 p.2 s) hd ..
  · exact .refl

theorem tallyPairs_ops (n : StationNo) : ∀ (ps : List (LabelAddr × Version)) {s : State},
    (∀ c, s.dialogue ≠ .standingOff c) → Ops K Q L s (ps.foldl (fun t p => tallyPair n p t) s)
  | [], _, _ => .refl
  | p :: ps, s, hd => (tallyPair_ops hd n p).trans
      (tallyPairs_ops n ps (s := tallyPair n p s) (by rw [tallyPair_changesDialogue]; exact hd))

theorem handleFrame_ops {s : State} (hd : ∀ c, s.dialogue ≠ .standingOff c) (hx : s.transmitting = none)
    (f : AirFrame) (rssi : Int) : Ops K Q L s (handleFrame f rssi s) := by
  cases f with
  | call f => exact callReceived_ops hd f rssi
  | offer f => exact (yieldLabel_ops hd f.label).trans (unawaited_ops _)
  | ready f => exact readyReceived_ops hd hx f rssi
  | frag f => exact unawaited_ops s
  | fragAck f => exact fragAckReceived_ops f s
  | done f => exact doneReceived_ops hd f rssi
  | refuse f => exact refuseReceived_ops f rssi s
  | tally f => exact (tallyPairs_ops f.sender f.pairs hd).trans (unawaited_ops _)

theorem frameEnds_ops (f : AirFrame) (rssi : Int) (s : State) : Ops K Q L s (frameEnds f rssi s) := by
  unfold frameEnds
  split
  next h =>
    refine (frameHeard_ops s).trans (.trans ?_ (settle_ops _))
    split
    · refine handleFrame_ops ?_ ?_ f rssi
      · exact frameHeard_noStandoff s
      · rw [frameHeard_eq]
        simpa [State.canHear] using (Bool.and_eq_true_iff.mp h).2
    · exact unawaited_ops _
  next => exact frameLost_ops s

theorem bytesEnd_ops (bytes : List Byte) (rssi : Int) (s : State) : Ops K Q L s (bytesEnd bytes rssi s) := by
  unfold bytesEnd
  split
  · exact frameEnds_ops ..
  · split
    · exact (frameHeard_ops s).trans ((unawaited_ops _).trans (settle_ops _))
    · exact frameLost_ops s

/-! ### The requests -/

theorem gathererRefuses_ops (d : Detail) (l : LabelAddr) (b : Byte) (g : GroupNo) (s : State) :
    Ops K Q L s (gathererRefuses d l b g s).1 := (Tells.latch d l b g s).ops.trans (settle_ops _)

theorem restartIdle_ops (s : State) : Ops K Q L s (restartIdle s) := by
  cases hg : s.group with
  | none =>
    have : restartIdle s = s := by
      rw [restartIdle, hg, Option.map_none, ← hg]
    rw [this]
    exact .refl
  | some g =>
    rw [restartIdle_of_open hg]
    exact (Op.idles g 60 hg ⟨by decide, .inl (Nat.le_refl 60)⟩).one

theorem closeTheGroup_ops (s : State) : Ops K Q L s (closeTheGroup s) := Op.closesGroup.one

theorem refusesOpen_ops (d : Detail) (l : LabelAddr) (b : Byte) (g : GroupNo) (s : State) :
    Ops K Q L s (gathererRefuses d l b g (restartIdle s)).1 := (restartIdle_ops s).trans (gathererRefuses_ops ..)

theorem refusesClosed_ops (d : Detail) (l : LabelAddr) (b : Byte) (g : GroupNo) (s : State) :
    Ops K Q L s (gathererRefuses d l b g (closeTheGroup s)).1 := (closeTheGroup_ops s).trans (gathererRefuses_ops ..)

theorem openGroupAct_ops (n : GroupNo) (time : StoreTime) (cls : Byte) (s : State) :
    Ops K Q L s (openGroupAct n time cls s).1 := by
  unfold openGroupAct
  split
  · exact refusesOpen_ops ..
  · split
    · split
      · exact gathererRefuses_ops ..
      next hn => exact (Op.opensGroup _ _ _ hn).one
    · exact gathererRefuses_ops ..

/-- An accepted record keeps the version law (R25). -/
theorem checkRecord_law {masks : Vector ItemSet 8} {body : List Byte} {r : GatheredRecord}
    (h : checkRecord masks body = .accepted r) : VersionLaw r.base r.target := by
  unfold checkRecord at h
  split at h
  · cases h
  · dsimp only at h
    split at h
    · cases h
    split at h
    next hs =>
      split at h
      · cases h
      split at h
      · cases h
      split at h
      · cases h
      next ht =>
        split at h
        · cases h
        split at h
        · cases h
        · cases h
          simpa using ht
    next => cases h

theorem recordAct_ops (body : List Byte) (s : State) : Ops K Q L s (recordAct body s).1 := by
  unfold recordAct
  split
  · exact gathererRefuses_ops ..
  next g hg =>
    split
    · exact refusesOpen_ops ..
    next hlen =>
      split
      · exact refusesOpen_ops ..
      next r hr => exact (Op.gathers g r hg (by omega) (checkRecord_law hr)).one

theorem foldGroup_ops {g : OpenGroup} {s : State} (hK : K → BookIsKeyed s) (hg : s.group = some g) :
    Ops K Q L s (foldGroup g s).1 := by
  unfold foldGroup
  split
  · exact refusesClosed_ops ..
  · exact refusesClosed_ops ..
  · exact restartIdle_ops s
  next v hv =>
    split
    next hroom => exact (applyFold_ops hK hg hv hroom).trans (settle_ops _)
    next => exact refusesOpen_ops ..

theorem closeGroupAct_ops {s : State} (hK : K → BookIsKeyed s) (n : GroupNo) (count : BitVec 16) :
    Ops K Q L s (closeGroupAct n count s).1 := by
  unfold closeGroupAct
  split
  · exact gathererRefuses_ops ..
  next g hg =>
    split
    · exact refusesOpen_ops ..
    · split
      · exact refusesClosed_ops ..
      · exact foldGroup_ops hK hg

theorem startAct_ops (s : State) : Ops K Q L s (startAct s).1 := by
  unfold startAct
  split
  · exact .refl
  next hi =>
    split
    · exact .refl
    next hc =>
      split
      · exact .refl
      next hn =>
        exact (Op.turns .run (.inl (by simpa using hi))
          (.inr ⟨.inl rfl, fun _ => ⟨by simpa using hc, hn⟩⟩)).one.tail .quiet

theorem pauseAct_ops (s : State) : Ops K Q L s (pauseAct s).1 := by
  unfold pauseAct
  split
  next h =>
    exact (Op.turns .paused (.inr (.inl h)) (.inr ⟨.inr rfl, fun hi => by simp [h] at hi⟩)).one.tail .quiet
  next => exact .refl

theorem resumeAct_ops (s : State) : Ops K Q L s (resumeAct s).1 := by
  unfold resumeAct
  split
  next h =>
    exact (Op.turns .run (.inr (.inr h)) (.inr ⟨.inl rfl, fun hi => by simp [h] at hi⟩)).one.tail .quiet
  next => exact .refl

theorem stopAct_ops (s : State) : Ops K Q L s (stopAct s).1 := by
  unfold stopAct
  split
  next h => exact (Op.turns .idle (.inr h) (.inl rfl)).one.tail .quiet
  next => exact .refl

theorem setTimeAct_ops (v : StoreTime) (s : State) : Ops K Q L s (setTimeAct v s).1 :=
  ((Op.ticks v true fun _ => rfl).one.tail (.reckons _ (moveYield_reckons (v - s.clock)))).trans
    ((evaluateAll_ops _).trans (settle_ops _))

theorem takeReportsAct_ops (n : Byte) (s : State) : Ops K Q L s (takeReportsAct n s).1 := by
  have hroom : ∀ k, Ops K Q L s (takeRoom k s) := by
    intro k
    unfold takeRoom
    split
    · exact .refl
    · exact drainClosing_ops k s
  exact (hroom _).trans (settle_ops _)

theorem readEntryAct_fst (selector : Byte) (address : LabelAddr) (s : State) :
    (readEntryAct selector address s).1 = s := by
  unfold readEntryAct
  split <;> split <;> rfl

theorem withdrawAct_ops (l : LabelAddr) (s : State) : Ops K Q L s (withdrawAct l s).1 := by
  unfold withdrawAct
  split
  · exact .refl
  next e he =>
    have hopen : e.isOpen = true → Ops K Q L s
        ((if s.hasRoom then ((pushReport (ownReport .withdrawn e s) s).freeSlot e.slot, plain .ok)
          else (s, plain .full)).1) := by
      intro ho
      split
      next hroom =>
        exact (Op.news (.report _ hroom)).one.tail (.withdraws e (entryOf_some he).1 ho)
      next => exact .refl
    split
    case h_1 | h_2 => exact .refl
    case h_3 h => exact hopen (by simp [Entry.isOpen, h])
    case h_4 h => exact hopen (by simp [Entry.isOpen, h])
    case h_5 h => exact hopen (by simp [Entry.isOpen, h])

theorem resetPortAct_ops (s : State) : Ops K Q L s (resetPortAct s).1 :=
  (Op.link s.receiver (s.holding.take 1) s.response none s.enable .port).one.tail .closesGroup

/-- Every request's action. -/
theorem requestAct_ops {s : State} (hK : K → BookIsKeyed s) (i : Instr) : Ops K Q L s (requestAct i s).1 := by
  cases i with
  | setTime v => exact setTimeAct_ops v s
  | openGroup g t c => exact openGroupAct_ops g t c s
  | record body => exact recordAct_ops body s
  | closeGroup g n => exact closeGroupAct_ops hK g n
  | abortGroup =>
    change Ops K Q L s (abortGroupAct s).1
    unfold abortGroupAct
    split
    · exact closeTheGroup_ops s
    · exact .refl
  | start => exact startAct_ops s
  | pause => exact pauseAct_ops s
  | resume => exact resumeAct_ops s
  | stop => exact stopAct_ops s
  | clearFaults => exact Op.clears.one
  | takeReports n => exact takeReportsAct_ops n s
  | readEntry selector address =>
    change Ops K Q L s (readEntryAct selector address s).1
    rw [readEntryAct_fst]
    exact .refl
  | withdraw l => exact withdrawAct_ops l s
  | setAttention e =>
    exact (Op.link s.receiver s.holding s.response s.overrun (FlagSet.ofByte e) s.lastReset).one
  | resetPort => exact resetPortAct_ops s
  | _ => exact .refl

/-! ### The Batch Link -/

theorem link_ops (s : State) (r : Receiver) (h : List LinkFrame) (p : Option Response) (o : Option Overrun) :
    Ops K Q L s { s with receiver := r, holding := h, response := p, overrun := o } :=
  (Op.link r h p o s.enable s.lastReset).one

theorem beginResponse_ops (echo : Byte) (a : Answer) (s : State) : Ops K Q L s (beginResponse echo a s) :=
  link_ops s _ _ _ _

theorem serve_ops {s : State} (hK : K → BookIsKeyed s) (f : LinkFrame) (i : Instr) :
    Ops K Q L s (serve f (requestAct i) s) := by
  have hhold : Ops K Q L s { s with holding := f :: s.holding.tail } := link_ops s _ _ _ _
  by_cases hs : s.opState = .starting
  · rw [serve_starting hs]
    exact hhold.trans (beginResponse_ops ..)
  · rw [serve_acts hs]
    exact hhold.trans ((requestAct_ops (s := { s with holding := f :: s.holding.tail }) hK i).trans
      (beginResponse_ops ..))

theorem takeFrame_ops {s : State} (hK : K → BookIsKeyed s) (f : LinkFrame) : Ops K Q L s (takeFrame f s) := by
  unfold takeFrame
  split
  · exact beginResponse_ops ..
  · split
    · exact beginResponse_ops ..
    · split
      case h_1 | h_2 => exact beginResponse_ops ..
      case h_3 i _ => exact (requestAct_ops hK i).trans (beginResponse_ops ..)

theorem offerFrameToHolding_ops {s : State} (hK : K → BookIsKeyed s) (f : LinkFrame) :
    Ops K Q L s (offerFrameToHolding f s) := by
  unfold offerFrameToHolding
  split
  · split
    · exact .refl
    · exact link_ops s _ _ _ _
  · dsimp only
    have hhold : Ops K Q L s { s with holding := s.holding ++ [f] } := link_ops s _ _ _ _
    split
    · exact hhold.trans (takeFrame_ops (s := { s with holding := s.holding ++ [f] }) hK f)
    · exact hhold

theorem receiveByte_ops {s : State} (hK : K → BookIsKeyed s) (b : Byte) (stopBit : Bool) :
    Ops K Q L s (receiveByte b stopBit s) := by
  unfold receiveByte
  split
  · split
    · exact link_ops s _ _ _ _
    · exact .refl
  · dsimp only
    split
    · exact link_ops s _ _ _ _
    next f _ =>
      have hrec : Ops K Q L s { s with receiver := .hunting } := link_ops s _ _ _ _
      exact hrec.trans (offerFrameToHolding_ops (s := { s with receiver := .hunting }) hK f)

theorem responseEnds_ops (r : Response) (s : State) : Ops K Q L s (responseEnds r s) := by
  unfold responseEnds
  dsimp only
  split
  · exact link_ops s _ _ _ _
  · have hdown : Ops K Q L s (overrunCountsDown { s with response := none, holding := s.holding.tail }) :=
      link_ops s _ _ _ _
    refine hdown.trans ?_
    unfold overrunIfOwed
    split
    · split
      · exact beginResponse_ops ..
      · exact .refl
    · exact .refl

/-! ### Time -/

theorem expireGroup_ops (s : State) : Ops K Q L s (expireGroup s) := by
  unfold expireGroup
  split
  · exact (closeTheGroup_ops s).trans (Tells.latch ..).ops
  · exact .refl

theorem idleSecond_ops (s : State) : Ops K Q L s (idleSecond s) := by
  unfold idleSecond
  split
  next g hg =>
    split
    · exact expireGroup_ops s
    next h => exact (Op.idles g (g.idle - 1) hg ⟨by omega, .inr (Nat.sub_le ..)⟩).one
  · exact .refl

theorem bookSecond_ops (s : State) : Ops K Q L s (bookSecond s) :=
  (Op.reckons _ (endYield_reckons s.clock)).one.trans (evaluateAll_ops _)

theorem blocksSecond_ops (s : State) : Ops K Q L s (blocksSecond s) := by
  have hboth : Ops K Q L s (eitherOrder (idleSecond (bookSecond s)) (bookSecond (idleSecond s))) :=
    eitherOrder_ops ((bookSecond_ops s).trans (idleSecond_ops _)) ((idleSecond_ops s).trans (bookSecond_ops _))
  exact (hboth.tail (.budgets _ (Nat.min_le_right _ _))).tail .counts

/-! ### Every command -/

/-- A command's next state is reached by a chain of operations. -/
abbrev Completes (K Q L : Prop) (s : State) (o : Host.Outcome State Fault Refusal) : Prop :=
  ∃ t, o = .next t ∧ Ops K Q L s t

theorem Completes.next {s t : State} (h : Ops K Q L s t) : Completes K Q L s (.next t) := ⟨t, rfl, h⟩

theorem Completes.same (s : State) : Completes K Q L s (.next s) := ⟨s, rfl, .refl⟩

theorem execHeaderRead_completes (hL : L) (signature : BitVec 16) (count : Byte) (s : State) :
    Completes K Q L s (execHeaderRead signature count s) := by
  unfold execHeaderRead
  split
  next p ha =>
    split
    · exact .next (Op.loads hL _ ⟨.group 1 count.toNat, p⟩ ha id).one
    · exact .next ((Tells.latch ..).ops.tail (.loaded (s := latch _ _ _ _ s) hL _ _ ha fun _ => by decide))
  next => exact .same s

theorem afterGroup_ops (hL : L) {s : State} {a : Autoload} (ha : s.autoload = some a) (k count : Nat) {p : StationConfig}
    (hp : ConfigInRange a.pendingConfig → ConfigInRange p) : Ops K Q L s (afterGroup k count p s) := by
  unfold afterGroup
  split
  · exact (Op.loads hL a _ ha hp).one
  · exact (Op.loaded hL a p ha hp).one

theorem numAt_one (c : List Byte) (i : Nat) : numAt c i 1 = (c.getD i 0).toNat := by
  unfold numAt
  rcases hd : c.drop i with _ | ⟨b, bs⟩
  · have : c.length ≤ i := List.drop_eq_nil_iff.mp hd
    rw [List.getD_eq_getElem?_getD, List.getElem?_eq_none this]
    rfl
  · have : c.getD i 0 = b := by
      rw [List.getD_eq_getElem?_getD, ← List.head?_drop, hd]
      rfl
    rw [this]
    simp [natOfBytes]

/-- A group that is taken leaves the pending configuration in its ranges (R174). -/
theorem takeGroup_inRange {k : Nat} {contents : List Byte} {p q : StationConfig}
    (h : takeGroup k contents p = some q) (hp : ConfigInRange p) : ConfigInRange q := by
  obtain ⟨h1, h2, h3, h4, h5, h6, h7, h8, h9, h10, h11⟩ := hp
  unfold takeGroup at h
  split at h
  · obtain ⟨g, hg, rfl⟩ := Option.map_eq_some_iff.mp h
    unfold readIdentity at hg
    split at hg
    next hr =>
      cases hg
      refine ⟨?_, hr.2.2.1, h3, h4, h5, h6, h7, h8, h9, h10, h11⟩
      have := hr.2.1
      rwa [numAt_one] at this
    next => cases hg
  · obtain ⟨g, hg, rfl⟩ := Option.map_eq_some_iff.mp h
    exact ⟨h1, h2, h3, h4, h5, h6, h7, h8, h9, h10, h11⟩
  · obtain ⟨g, hg, rfl⟩ := Option.map_eq_some_iff.mp h
    unfold readModels at hg
    split at hg
    next hr =>
      cases hg
      refine ⟨h1, h2, fun i => ?_, h4, h5, h6, h7, h8, h9, h10, h11⟩
      have hi := List.all_eq_true.mp hr i (List.mem_range.mpr i.isLt)
      simp only [modelGood, Bool.and_eq_true, decide_eq_true_eq] at hi
      obtain ⟨⟨⟨hp1, hp2⟩, hu⟩, _⟩ := hi
      simpa using ⟨hp1, hp2, hu⟩
    next => cases hg
  · obtain ⟨g, hg, rfl⟩ := Option.map_eq_some_iff.mp h
    unfold readPolicy at hg
    dsimp only at hg
    split at hg
    next hr =>
      cases hg
      obtain ⟨_, r1, r2, r3, r4, r5, r6, r7, r8⟩ := hr
      exact ⟨h1, h2, h3, r1, r2, r3, r4, r5, r6, r7, r8⟩
    next => cases hg
  · cases h

theorem execGroupRead_completes (hL : L) (length : Byte) (contents : List Byte) (sumCheck : BitVec 16) (s : State) :
    Completes K Q L s (execGroupRead length contents sumCheck s) := by
  unfold execGroupRead
  split
  next k count p ha =>
    split
    · split
      next q hq => exact .next (afterGroup_ops hL ha k count (takeGroup_inRange hq))
      next =>
        exact .next ((Tells.latch ..).ops.trans (afterGroup_ops hL (s := latch _ _ _ _ s) ha k count id))
    · exact .next ((Tells.latch ..).ops.tail (.loaded (s := latch _ _ _ _ s) hL _ _ ha id))
  next => exact .same s

theorem execConfigReadTimeout_completes (hL : L) (s : State) : Completes K Q L s (execConfigReadTimeout s) := by
  unfold execConfigReadTimeout
  split
  next a ha =>
    exact .next ((Tells.latch ..).ops.tail (.loaded (s := latch _ _ _ _ s) hL _ _ ha fun _ => by decide))
  next => exact .same s

theorem execLineResetRelease_completes (hL : L) (s : State) : Completes K Q L s (execLineResetRelease s) := by
  unfold execLineResetRelease
  split
  next h => exact .next (Op.releases hL h).one
  next => exact .same s

theorem execClockSecond_completes (s : State) : Completes K Q L s (execClockSecond s) := by
  have htick : Op K Q L s { s with clock := s.clock + 1, timebase := 0 } := .ticks _ s.clockSet id
  unfold execClockSecond
  dsimp only
  split
  · exact .next htick.one
  · exact .next (htick.one.trans ((blocksSecond_ops _).trans (settle_ops _)))

theorem execGroupIdleTimeout_completes (s : State) : Completes K Q L s (execGroupIdleTimeout s) := by
  unfold execGroupIdleTimeout
  split
  · exact .next ((expireGroup_ops s).trans (settle_ops _))
  · exact .same s

theorem execResponseSent_completes (s : State) : Completes K Q L s (execResponseSent s) := by
  unfold execResponseSent
  split
  · exact .next (responseEnds_ops _ s)
  · exact .same s

theorem execHeldFrameTaken_completes {s : State} (hK : K → BookIsKeyed s) :
    Completes K Q L s (execHeldFrameTaken s) := by
  unfold execHeldFrameTaken
  split
  · exact .next (takeFrame_ops hK _)
  · exact .same s

theorem execFrameStart_completes (s : State) : Completes K Q L s (execFrameStart s) := by
  unfold execFrameStart
  split
  · refine .next ?_
    unfold meetWait
    split
    next p c hd =>
      cases hw : c.wait with
      | none =>
        have : ({ c with wait := (none : Option Wait).map (fun w => { w with met := true }) } : TransferContext) = c := by
          rw [Option.map_none, ← hw]
        rw [this, ← hd]
        exact .refl
      | some w => exact (Op.meets _ hd hw).one
    next => exact .refl
  · exact .same s

theorem execCarrierSensed_completes (s : State) : Completes K Q L s (execCarrierSensed s) := by
  unfold execCarrierSensed
  split
  · exact .same s
  · refine .next ((standDown_ops s).trans ((Op.senses _ (.inr ?_)).one.tail .quiet))
    rw [standDown_eq]
    exact heardDialogue_not_standingOff _

theorem execCarrierEnd_completes (s : State) : Completes K Q L s (execCarrierEnd s) := by
  unfold execCarrierEnd
  split
  · exact .same s
  · exact .next ((carrierEnds_ops s).tail .quiet)

theorem execStandoffEnd_completes (s : State) : Completes K Q L s (execStandoffEnd s) := by
  unfold execStandoffEnd
  split
  next c hd =>
    refine .next (.tail ?_ .quiet)
    unfold standoffEnds
    split
    next e he => exact (Op.commits c e hd he).one
    next =>
      have h : Op K Q L s { s with dialogue := heardDialogue s.dialogue } := .standsDown
      rw [hd] at h
      exact h.one
  next => exact .same s

theorem execOfferSent_completes (s : State) : Completes K Q L s (execOfferSent s) := by
  unfold execOfferSent
  split
  next c x hd hx => exact .next (Op.offers hd hx).one
  next => exact .same s

theorem execFragSent_completes (s : State) : Completes K Q L s (execFragSent s) := by
  unfold execFragSent
  split
  next r c hd => exact .next (Op.fragments hd).one
  next => exact .same s

theorem execReadyWaitExpiry_completes (s : State) : Completes K Q L s (execReadyWaitExpiry s) := by
  unfold execReadyWaitExpiry
  split
  next c hd => exact .next ((deadline_ops hd).trans (settle_ops _))
  next => exact .same s

theorem execAckWaitExpiry_completes (s : State) : Completes K Q L s (execAckWaitExpiry s) := by
  unfold execAckWaitExpiry
  split
  next c hd => exact .next ((deadline_ops hd).trans (settle_ops _))
  next => exact .same s

theorem execDoneWaitExpiry_completes (s : State) : Completes K Q L s (execDoneWaitExpiry s) := by
  unfold execDoneWaitExpiry
  split
  next c hd => exact .next ((deadline_ops hd).trans (settle_ops _))
  next => exact .same s

/-- A quiet wait runs in LISTENING alone (R117). -/
theorem listening_of_quietWait {s : State} (h : QuietWaitFollows s) (hq : s.quietWait ≠ none) :
    s.dialogue = .listening := by
  refine Classical.byContradiction fun hd => hq (h.trans ?_)
  exact quietAfter_of_not_listening hd

theorem execQuietWaitEnd_completes {s : State} (hQ : Q → QuietWaitFollows s) :
    Completes K Q L s (execQuietWaitEnd s) := by
  unfold execQuietWaitEnd
  split
  next n hq =>
    have hq : s.quietWait ≠ none := by simp [hq]
    unfold quietWaitEnds
    dsimp only
    split
    · exact .next (Op.beginsTally _ _ _ hq (fun h => listening_of_quietWait (hQ h) hq)
        (List.length_take_le ..) (List.length_take_le' ..) (Nat.sub_le ..)).one
    · exact .same s
  next => exact .same s

theorem execTallySent_completes (s : State) : Completes K Q L s (execTallySent s) := by
  unfold execTallySent
  split
  next n hd => exact .next ((Op.endsTally hd).one.tail .quiet)
  next => exact .same s

/-- The command is a reset or part of the autoload. -/
def isLoad : Instr → Bool
  | .coldStart | .lineReset | .lineResetRelease | .headerRead _ _ | .groupRead _ _ _ | .configReadTimeout => true
  | _ => false

/-- Every command answers a next state, and is a chain of operations. -/
theorem exec_ops {s : State} (hK : K → BookIsKeyed s) (hQ : Q → QuietWaitFollows s) (i : Instr)
    (hL : isLoad i = true → L) :
    Completes K Q L s (exec i s) := by
  cases hf : requestFrame i with
  | some f =>
    rw [exec_of_request hf]
    exact .next (serve_ops hK f i)
  | none =>
    cases i with
    | coldStart => exact .next (Op.coldStart (hL rfl)).one
    | lineReset => exact ⟨_, rfl, (Op.lineReset (hL rfl) rfl).one⟩
    | lineResetRelease => exact execLineResetRelease_completes (hL rfl) s
    | headerRead signature count => exact execHeaderRead_completes (hL rfl) signature count s
    | groupRead length contents sumCheck => exact execGroupRead_completes (hL rfl) length contents sumCheck s
    | configReadTimeout => exact execConfigReadTimeout_completes (hL rfl) s
    | clockSecond => exact execClockSecond_completes s
    | yieldEnd => exact .next (Op.reckons _ (endYield_reckons s.clock)).one
    | groupIdleTimeout => exact execGroupIdleTimeout_completes s
    | tallyPeriodEnd => exact .next Op.quiet.one
    | batchFrameEnd frame =>
      have hrec : Ops K Q L s { s with receiver := .hunting } := link_ops s _ _ _ _
      exact .next (hrec.trans (offerFrameToHolding_ops (s := { s with receiver := .hunting }) hK frame))
    | linkLoss => exact .next (link_ops s _ _ _ _)
    | responseSent => exact execResponseSent_completes s
    | heldFrameTaken => exact execHeldFrameTaken_completes hK
    | closingListDrain => exact .next ((drainClosing_ops 0 s).trans (settle_ops _))
    | batchByteReceived byte stopBit => exact .next (receiveByte_ops hK byte stopBit)
    | airFrameDiscarded bytes rssi => exact .next (bytesEnd_ops bytes rssi s)
    | frameStart => exact execFrameStart_completes s
    | carrierSensed => exact execCarrierSensed_completes s
    | carrierEnd => exact execCarrierEnd_completes s
    | call frame rssi => exact .next (frameEnds_ops (.call frame) rssi s)
    | standoffEnd => exact execStandoffEnd_completes s
    | offerSent => exact execOfferSent_completes s
    | ready frame rssi => exact .next (frameEnds_ops (.ready frame) rssi s)
    | readyWaitExpiry => exact execReadyWaitExpiry_completes s
    | fragSent => exact execFragSent_completes s
    | fragAck frame => exact .next (frameEnds_ops (.fragAck frame) 0 s)
    | ackWaitExpiry => exact execAckWaitExpiry_completes s
    | done frame rssi => exact .next (frameEnds_ops (.done frame) rssi s)
    | doneWaitExpiry => exact execDoneWaitExpiry_completes s
    | refuse frame rssi => exact .next (frameEnds_ops (.refuse frame) rssi s)
    | peerOffer frame => exact .next (frameEnds_ops (.offer frame) 0 s)
    | peerFrag frame => exact .next (frameEnds_ops (.frag frame) 0 s)
    | peerTally frame => exact .next (frameEnds_ops (.tally frame) 0 s)
    | quietWaitEnd => exact execQuietWaitEnd_completes hQ
    | tallySent => exact execTallySent_completes s
    | status | setTime | openGroup | record | closeGroup | abortGroup | start | pause | resume | stop
    | clearFaults | takeReports | readEntry | readRoster | withdraw | setAttention | resetPort => cases hf

end Sys2Proof.Machine
end


section
/-! What every operation leaves, and the invariants that one or two operations touch: the commands waiting behind,
the Roster, and the bounds of the queues. -/

namespace Sys2Proof.Machine

variable {K Q L : Prop}

/-! ### Chains -/

/-- What every operation keeps, a chain of them keeps. -/
theorem Ops.keeps {P : State → Prop} (hP : ∀ {s t}, Op K Q L s t → P s → P t) {s t : State} (h : Ops K Q L s t) :
    P s → P t := by
  induction h with
  | refl => exact id
  | tail _ hop ih => exact fun hs => hP hop (ih hs)

/-- A step is a chain of operations on the state with the rest of the queue. -/
theorem step_ops {s t : State} (hK : K → BookIsKeyed s) (hQ : Q → QuietWaitFollows s) (h : step s = .next t) :
    ∃ rest, Ops K Q True { s with pending := rest } t := by
  unfold step at h
  split at h
  next => cases h; exact ⟨s.pending, .refl⟩
  next i rest _ =>
    obtain ⟨u, hu, hops⟩ := exec_ops (K := K) (Q := Q) (L := True) (s := { s with pending := rest }) hK hQ i
      (fun _ => trivial)
    cases hu.symm.trans h
    exact ⟨rest, hops⟩

/-! ### What the book's operations leave -/

theorem Tells.changes {s t : State} (h : Tells s t) : BookChanges s t := by
  induction h with
  | refl => exact .refl s
  | tail _ hn ih =>
    refine ih.trans ?_
    cases hn with
    | fault => exact (latch_changes ..).book
    | report => exact (pushReport_changes ..).book
    | choice => exact ⟨_, _, _, _, _, _, _, _, rfl⟩

theorem Leaves.changes {e : Entry} {s t : State} (h : Leaves e s t) : BookChanges s t := by
  cases h with
  | freed => exact freeSlot_changes ..
  | waits => exact setEntry_changes ..

theorem Concludes.changes {e : Entry} {s t : State} (h : Concludes e s t) : BookChanges s t := by
  cases h with
  | leaves h => exact h.changes
  | joins => exact ⟨_, _, _, _, _, _, _, _, rfl⟩

theorem Ends.changes {e : Entry} {s t : State} (h : Ends e s t) : BookChanges s t := by
  obtain ⟨u, v, h1, h2, h3⟩ := h
  exact h1.changes.trans (h2.changes.trans h3.changes)

theorem Outcome.changes {n : Nat} {s t : State} (h : Outcome n s t) : BookChanges s t := by
  rcases h with ⟨_, rfl⟩ | ⟨e, _, h⟩
  · exact .refl _
  · exact h.changes

theorem Drains.changes {s t : State} (h : Drains s t) : BookChanges s t := by
  cases h with
  | news h => exact Tells.changes (.single h)
  | takes _ _ _ ht => exact .trans ⟨_, s.closing.tail, _, _, _, _, _, _, rfl⟩ (by simp_all; exact ht.changes)
  | skips => exact ⟨_, _, _, _, _, _, _, _, rfl⟩

theorem drains_changes {k : Nat} {s t : State} (h : ReflTransGen Drains { s with reports := s.reports.drop k } t) :
    BookChanges s t := by
  refine .trans (t := { s with reports := s.reports.drop k }) ⟨_, _, _, _, _, _, _, _, rfl⟩ ?_
  induction h with
  | refl => exact .refl _
  | tail _ hd ih => exact ih.trans hd.changes

/-- The exchange of a transfer that ended at the book. -/
theorem Outcome.listening_keeps {n b : Nat} {s t : State} (h : Outcome n s t) :
    (toListening { t with budget := b }).roster = s.roster ∧
    (toListening { t with budget := b }).tally = s.tally ∧
    (toListening { t with budget := b }).tallyCount = s.tallyCount ∧
    (toListening { t with budget := b }).group = s.group ∧
    (toListening { t with budget := b }).pending = s.pending ∧
    (toListening { t with budget := b }).opState = s.opState ∧
    SameSetup s (toListening { t with budget := b }) := by
  obtain ⟨_, _, _, _, _, _, _, _, rfl⟩ := h.changes
  exact ⟨rfl, rfl, rfl, rfl, rfl, rfl, rfl, rfl, rfl, rfl, rfl, rfl, rfl⟩

/-! ### The commands waiting behind -/

theorem Op.pending_eq {s t : State} (h : Op K Q L s t) : t.pending = s.pending := by
  cases h with
  | news h =>
    obtain ⟨_, _, _, _, _, _, _, _, rfl⟩ := Tells.changes (.single h)
    rfl
  | confirms e he ho hd h =>
    obtain ⟨_, _, _, _, _, _, _, _, rfl⟩ := h.changes
    rfl
  | drains k h _ =>
    obtain ⟨_, _, _, _, _, _, _, _, rfl⟩ := drains_changes h
    rfl
  | ends b hd hu hb => exact hu.listening_keeps.2.2.2.2.1
  | cutsOff x n b ho hd hu hb => exact (hu.listening_keeps (b := b)).2.2.2.2.1
  | lineReset hL h => cases h; rfl
  | tallies p => unfold joinTally; split <;> rfl
  | _ => rfl

/-- Settles O2: every command is a chain of operations, and none of them touches the queue. -/
theorem everyCommandCompletes : Obligations.EveryCommandCompletes := by
  unfold Obligations.EveryCommandCompletes
  intro i s
  obtain ⟨t, ht, hops⟩ := exec_ops (K := False) (Q := False) (L := True) (s := s) False.elim False.elim i
    (fun _ => trivial)
  exact ⟨t, ht, Ops.keeps (P := fun t => t.pending = s.pending) (fun h => h.pending_eq.trans) hops rfl⟩

/-! ### The Roster -/

theorem rosterIsKeyed_of_eq {s t : State} (h : t.roster = s.roster) (hs : RosterIsKeyed s) : RosterIsKeyed t := by
  unfold RosterIsKeyed at hs ⊢
  rwa [h]

theorem rosterIsKeyed_nil {s : State} (h : s.roster = []) : RosterIsKeyed s := by
  simp [RosterIsKeyed, h]

/-- Only a frame of a label and a reset touch the Roster. -/
theorem Op.rosterIsKeyed {s t : State} (h : Op K Q L s t) (hs : RosterIsKeyed s) : RosterIsKeyed t := by
  cases h with
  | roster rs h => exact h hs
  | coldStart => exact rosterIsKeyed_nil rfl
  | lineReset hL h => cases h; exact rosterIsKeyed_nil rfl
  | news h =>
    obtain ⟨_, _, _, _, _, _, _, _, rfl⟩ := Tells.changes (.single h)
    exact hs
  | confirms e he ho hd h =>
    obtain ⟨_, _, _, _, _, _, _, _, rfl⟩ := h.changes
    exact hs
  | drains k h _ =>
    obtain ⟨_, _, _, _, _, _, _, _, rfl⟩ := drains_changes h
    exact hs
  | ends b hd hu hb => exact rosterIsKeyed_of_eq hu.listening_keeps.1 hs
  | cutsOff x n b ho hd hu hb => exact rosterIsKeyed_of_eq (hu.listening_keeps (b := b)).1 hs
  | tallies p => exact rosterIsKeyed_of_eq (by unfold joinTally; split <;> rfl) hs
  | _ => exact hs

/-- Settles O59: only `roster` and the resets touch the Roster, and each keeps its law. -/
theorem stepKeepsRoster : Obligations.StepKeepsRoster := by
  unfold Obligations.StepKeepsRoster
  intro s t hs h
  obtain ⟨rest, hops⟩ := step_ops (K := False) (Q := False) False.elim False.elim h
  exact hops.keeps (P := RosterIsKeyed) Op.rosterIsKeyed hs

end Sys2Proof.Machine
end


section
/-! The bounds of the queues, the lists and the holding. -/

namespace Sys2Proof.Machine

variable {K Q L : Prop}

/-! ### The report queue -/

theorem Tells.reports_le {s t : State} (h : Tells s t) (hs : s.reports.length ≤ 256) : t.reports.length ≤ 256 := by
  induction h with
  | refl => exact hs
  | tail _ hn ih =>
    cases hn with
    | fault => exact ih
    | report r hroom =>
      have hlt := of_decide_eq_true hroom
      simp only [pushReport, List.length_append, List.length_singleton]
      omega
    | choice => exact ih

theorem Leaves.reports_eq {e : Entry} {s t : State} (h : Leaves e s t) : t.reports = s.reports := by
  cases h <;> rfl

theorem Concludes.reports_eq {e : Entry} {s t : State} (h : Concludes e s t) : t.reports = s.reports := by
  cases h with
  | leaves h => exact h.reports_eq
  | joins => rfl

theorem Ends.reports_le {e : Entry} {s t : State} (h : Ends e s t) (hs : s.reports.length ≤ 256) :
    t.reports.length ≤ 256 := by
  obtain ⟨u, v, h1, h2, h3⟩ := h
  exact h3.reports_le (h2.reports_eq ▸ h1.reports_le hs)

theorem Outcome.reports_le {n : Nat} {s t : State} (h : Outcome n s t) (hs : s.reports.length ≤ 256) :
    t.reports.length ≤ 256 := by
  rcases h with ⟨_, rfl⟩ | ⟨e, _, h⟩
  · exact hs
  · exact h.reports_le hs

theorem drains_reports_le {s t : State} (h : ReflTransGen Drains s t) (hs : s.reports.length ≤ 256) :
    t.reports.length ≤ 256 := by
  induction h with
  | refl => exact hs
  | tail _ hd ih =>
    cases hd with
    | news h => exact Tells.reports_le (.single h) ih
    | takes _ _ _ ht => exact ht.reports_eq ▸ ih
    | skips => exact ih

theorem Op.reports_le {s t : State} (h : Op K Q L s t) (hs : s.reports.length ≤ 256) : t.reports.length ≤ 256 := by
  cases h with
  | news h => exact Tells.reports_le (.single h) hs
  | confirms e he ho hd h => exact h.reports_le hs
  | drains k h _ =>
    refine drains_reports_le h ?_
    simp only [List.length_drop]
    omega
  | ends b hd hu hb => exact hu.reports_le hs
  | cutsOff x n b ho hd hu hb => exact hu.reports_le hs
  | coldStart => exact Nat.zero_le _
  | lineReset hL h => cases h; exact Nat.zero_le _
  | tallies p => unfold joinTally; split <;> exact hs
  | _ => exact hs

/-! ### The tally list, its counter and the open group -/

theorem Op.tally_le {s t : State} (h : Op K Q L s t) (hs : s.tally.length ≤ 64) : t.tally.length ≤ 64 := by
  cases h with
  | news h =>
    obtain ⟨_, _, _, _, _, _, _, _, rfl⟩ := Tells.changes (.single h)
    exact hs
  | confirms e he ho hd h =>
    obtain ⟨_, _, _, _, _, _, _, _, rfl⟩ := h.changes
    exact hs
  | drains k h _ =>
    obtain ⟨_, _, _, _, _, _, _, _, rfl⟩ := drains_changes h
    exact hs
  | ends b hd hu hb =>
    obtain ⟨_, htally, _⟩ := hu.listening_keeps (b := b)
    exact htally ▸ hs
  | cutsOff x n b ho hd hu hb =>
    obtain ⟨_, htally, _⟩ := hu.listening_keeps (b := b)
    exact htally.symm ▸ hs
  | coldStart => exact Nat.zero_le _
  | lineReset hL h => cases h; exact Nat.zero_le _
  | tallies p =>
    rw [joinTally_eq hs]
    simp only [tallyJoined]
    split
    · exact hs
    · simp only [List.length_append, List.length_drop, List.length_singleton]
      omega
  | endsTally hd =>
    simp only [toListening, List.length_drop]
    omega
  | _ => exact hs

theorem Op.tallyCount_le {s t : State} (h : Op K Q L s t) (hs : s.tallyCount ≤ 60) : t.tallyCount ≤ 60 := by
  cases h with
  | news h =>
    obtain ⟨_, _, _, _, _, _, _, _, rfl⟩ := Tells.changes (.single h)
    exact hs
  | confirms e he ho hd h =>
    obtain ⟨_, _, _, _, _, _, _, _, rfl⟩ := h.changes
    exact hs
  | drains k h _ =>
    obtain ⟨_, _, _, _, _, _, _, _, rfl⟩ := drains_changes h
    exact hs
  | ends b hd hu hb =>
    obtain ⟨_, _, hcount, _⟩ := hu.listening_keeps (b := b)
    exact hcount ▸ hs
  | cutsOff x n b ho hd hu hb =>
    obtain ⟨_, _, hcount, _⟩ := hu.listening_keeps (b := b)
    exact hcount.symm ▸ hs
  | coldStart => exact Nat.zero_le _
  | lineReset hL h => cases h; exact Nat.zero_le _
  | tallies p => unfold joinTally; split <;> exact hs
  | counts => exact Nat.min_le_right _ _
  | endsTally hd => exact Nat.zero_le _
  | _ => exact hs

/-- What R27 to R29 bound of an open group. -/
def GroupWithinBounds (s : State) : Prop :=
  ∀ g ∈ s.group, g.number ≠ 0 ∧ 1 ≤ g.idle ∧ g.idle ≤ 60 ∧ g.gathered.length ≤ 512

theorem GroupWithinBounds.of_none {s : State} (h : s.group = none) : GroupWithinBounds s := by
  simp [GroupWithinBounds, h]

theorem GroupWithinBounds.of_some {s : State} {g : OpenGroup} (h : s.group = some g)
    (hg : g.number ≠ 0 ∧ 1 ≤ g.idle ∧ g.idle ≤ 60 ∧ g.gathered.length ≤ 512) : GroupWithinBounds s := by
  intro x hx
  cases h.symm.trans hx
  exact hg

theorem Op.group_bounds {s t : State} (h : Op K Q L s t) (hs : GroupWithinBounds s) : GroupWithinBounds t := by
  cases h with
  | news h =>
    obtain ⟨_, _, _, _, _, _, _, _, rfl⟩ := Tells.changes (.single h)
    exact hs
  | confirms e he ho hd h =>
    obtain ⟨_, _, _, _, _, _, _, _, rfl⟩ := h.changes
    exact hs
  | drains k h _ =>
    obtain ⟨_, _, _, _, _, _, _, _, rfl⟩ := drains_changes h
    exact hs
  | ends b hd hu hb =>
    obtain ⟨_, _, _, hgroup, _⟩ := hu.listening_keeps (b := b)
    intro g hg
    exact hs g (hgroup ▸ hg)
  | cutsOff x n b ho hd hu hb =>
    obtain ⟨_, _, _, hgroup, _⟩ := hu.listening_keeps (b := b)
    intro g hg
    exact hs g (hgroup ▸ hg)
  | opensGroup n time cls hn => exact .of_some rfl ⟨hn, show 1 ≤ 60 by decide, show 60 ≤ 60 by decide, Nat.zero_le _⟩
  | idles g n hg hn =>
    obtain ⟨hnum, _, hidle, hlen⟩ := hs g hg
    exact .of_some rfl ⟨hnum, hn.1, hn.2.elim id (Nat.le_trans · hidle), hlen⟩
  | gathers g r hg hlen hr =>
    obtain ⟨hnum, _, _, _⟩ := hs g hg
    refine .of_some rfl ⟨hnum, show 1 ≤ 60 by decide, show 60 ≤ 60 by decide, ?_⟩
    simp only [List.length_append, List.length_singleton]
    omega
  | closesGroup => exact .of_none rfl
  | folds => exact .of_none rfl
  | coldStart => exact .of_none rfl
  | lineReset hL h => cases h; exact .of_none rfl
  | tallies p => unfold joinTally; split <;> exact hs
  | _ => exact hs

/-! ### The link -/

/-- The laws of the holding and of the overrun. -/
def LinkHolds (s : State) : Prop := s.holding.length ≤ 2 ∧ OverrunWaits s

theorem LinkHolds.of_same {s t : State} (h : LinkHolds s) (hh : t.holding = s.holding) (hr : t.response = s.response)
    (ho : t.overrun = s.overrun) : LinkHolds t := by
  unfold LinkHolds OverrunWaits at *
  rwa [hh, hr, ho]

theorem LinkHolds.of_link {s t : State} (h : LinkHolds s) (hl : SameLink s t) : LinkHolds t := by
  obtain ⟨_, _, hh, hr, ho⟩ := hl
  exact h.of_same hh hr ho

theorem LinkHolds.of_block {s t : State} (h : LinkHolds s) (ht : BlockChanges s t) : LinkHolds t :=
  h.of_link ht.keeps.1

theorem LinkHolds.of_empty {s : State} (hh : s.holding = []) (hr : s.response = none) (ho : s.overrun = none) :
    LinkHolds s := by
  simp [LinkHolds, OverrunWaits, hh, hr, ho]

/-- A frame is held to be answered, and a pending overrun waits for at most the frames held. -/
def HoldsFrame (s : State) : Prop :=
  s.holding ≠ [] ∧ s.holding.length ≤ 2 ∧ ∀ o ∈ s.overrun, o.before ≤ s.holding.length

theorem HoldsFrame.of_link {s t : State} (h : HoldsFrame s) (hl : SameLink s t) : HoldsFrame t := by
  obtain ⟨_, _, hh, _, ho⟩ := hl
  unfold HoldsFrame at *
  rwa [hh, ho]

theorem LinkHolds.holdsFrame {s : State} (h : LinkHolds s) (hne : s.holding ≠ []) : HoldsFrame s :=
  ⟨hne, h.1, h.2.1⟩

/-- A response to the frame at the head of the holding. -/
theorem beginResponse_linkHolds {s : State} (h : HoldsFrame s) {a : Answer} (ha : a.status ≠ .overrun)
    (echo : Byte) : LinkHolds (beginResponse echo a s) := by
  obtain ⟨hne, hlen, hbefore⟩ := h
  refine ⟨hlen, hbefore, fun r hr hs => ?_, fun _ _ _ => hne⟩
  cases hr
  exact absurd hs ha

/-! ### What the requests' actions leave of the link -/

theorem moveTo_changes (o : OpState) (s : State) : BlockChanges s (moveTo o s).1 :=
  EngineChanges.air ⟨s, o, s.dialogue, s.transmitting, s.carriers, _, s.budget, .refl s, rfl⟩ |>.block

theorem withdrawAct_changes (l : LabelAddr) (s : State) : BookChanges s (withdrawAct l s).1 := by
  unfold withdrawAct
  split
  · exact .refl s
  · split
    · exact .refl s
    · exact .refl s
    all_goals
      split
      · exact (pushReport_changes ..).book.trans (freeSlot_changes ..)
      · exact .refl s

/-- A request but RESET PORT leaves the link to its answer. -/
theorem requestAct_sameLink {i : Instr} (hi : i ≠ .resetPort) (s : State) : SameLink s (requestAct i s).1 := by
  have same : SameLink s s := ⟨rfl, rfl, rfl, rfl, rfl⟩
  have block : ∀ {t}, BlockChanges s t → SameLink s t := fun h => h.keeps.1
  cases i with
  | setTime v => exact block ((setClock_changes v s).trans (settle_changes _).air.block)
  | openGroup n time cls => exact block (openGroupAct_changes n time cls s)
  | record body => exact block (recordAct_changes body s)
  | closeGroup n count => exact block (closeGroupAct_changes n count s)
  | abortGroup =>
    change SameLink s (abortGroupAct s).1
    unfold abortGroupAct
    split
    · exact block (closeTheGroup_changes s)
    · exact same
  | start =>
    change SameLink s (startAct s).1
    unfold startAct
    repeat' split
    · exact same
    · exact same
    · exact same
    · exact block (moveTo_changes .run s)
  | pause =>
    change SameLink s (pauseAct s).1
    unfold pauseAct
    split
    · exact block (moveTo_changes .paused s)
    · exact same
  | resume =>
    change SameLink s (resumeAct s).1
    unfold resumeAct
    split
    · exact block (moveTo_changes .run s)
    · exact same
  | stop =>
    change SameLink s (stopAct s).1
    unfold stopAct
    split
    · exact block (moveTo_changes .idle s)
    · exact same
  | takeReports n => exact block ((takeRoom_changes ..).block.trans (settle_changes _).air.block)
  | readEntry selector address =>
    change SameLink s (readEntryAct selector address s).1
    rw [readEntryAct_fst]
    exact same
  | withdraw l => exact block (withdrawAct_changes l s).block
  | resetPort => exact absurd rfl hi
  | _ => exact same

/-- No request is answered OVERRUN (R163, R166). -/
theorem requestAct_status (i : Instr) (s : State) : (requestAct i s).2.status ≠ .overrun := by
  cases i with
  | openGroup n time cls =>
    change (openGroupAct n time cls s).2.status ≠ .overrun
    unfold openGroupAct
    repeat' split
    all_goals exact Status.noConfusion
  | record body =>
    change (recordAct body s).2.status ≠ .overrun
    unfold recordAct
    repeat' split
    all_goals exact Status.noConfusion
  | closeGroup n count =>
    change (closeGroupAct n count s).2.status ≠ .overrun
    unfold closeGroupAct foldGroup
    repeat' split
    all_goals exact Status.noConfusion
  | abortGroup =>
    change (abortGroupAct s).2.status ≠ .overrun
    unfold abortGroupAct
    repeat' split
    all_goals exact Status.noConfusion
  | start =>
    change (startAct s).2.status ≠ .overrun
    unfold startAct
    repeat' split
    all_goals exact Status.noConfusion
  | pause =>
    change (pauseAct s).2.status ≠ .overrun
    unfold pauseAct
    split <;> exact Status.noConfusion
  | resume =>
    change (resumeAct s).2.status ≠ .overrun
    unfold resumeAct
    split <;> exact Status.noConfusion
  | stop =>
    change (stopAct s).2.status ≠ .overrun
    unfold stopAct
    split <;> exact Status.noConfusion
  | readEntry selector address =>
    change (readEntryAct selector address s).2.status ≠ .overrun
    unfold readEntryAct
    repeat' split
    all_goals exact Status.noConfusion
  | withdraw l =>
    change (withdrawAct l s).2.status ≠ .overrun
    unfold withdrawAct
    repeat' split
    all_goals exact Status.noConfusion
  | _ => exact Status.noConfusion

theorem requestAct_holdsFrame {s : State} (h : HoldsFrame s) (i : Instr) : HoldsFrame (requestAct i s).1 := by
  by_cases hi : i = .resetPort
  · subst hi
    obtain ⟨hne, _, _⟩ := h
    obtain ⟨f, fs, hf⟩ := List.exists_cons_of_ne_nil hne
    have hone : (requestAct .resetPort s).1.holding = [f] := by
      change s.holding.take 1 = [f]
      simp [hf]
    refine ⟨by simp [hone], by simp [hone], fun o ho => ?_⟩
    cases ho
  · exact h.of_link (requestAct_sameLink hi s)

/-! ### The commands of the link -/

theorem takeFrame_linkHolds {s : State} (h : HoldsFrame s) (f : LinkFrame) : LinkHolds (takeFrame f s) := by
  unfold takeFrame
  split
  · exact beginResponse_linkHolds h Status.noConfusion _
  split
  · exact beginResponse_linkHolds h Status.noConfusion _
  split
  next => exact beginResponse_linkHolds h Status.noConfusion _
  next => exact beginResponse_linkHolds h Status.noConfusion _
  next i _ => exact beginResponse_linkHolds (requestAct_holdsFrame h i) (requestAct_status i s) _

/-- The request's frame put at the head of the holding. -/
theorem HoldsFrame.of_request {s : State} (h : LinkHolds s) (f : LinkFrame) :
    HoldsFrame { s with holding := f :: s.holding.tail } := by
  obtain ⟨hlen, hbefore, _⟩ := h
  refine ⟨by simp, ?_, fun o ho => ?_⟩
  · simp only [List.length_cons, List.length_tail]
    omega
  · have hle := hbefore o ho
    simp only [List.length_cons, List.length_tail]
    omega

theorem serve_linkHolds {s : State} (h : LinkHolds s) (f : LinkFrame) (i : Instr) :
    LinkHolds (serve f (requestAct i) s) := by
  have hf := HoldsFrame.of_request h f
  unfold serve
  dsimp only
  split
  · exact beginResponse_linkHolds hf Status.noConfusion _
  · exact beginResponse_linkHolds (requestAct_holdsFrame hf i) (requestAct_status i _) _

theorem offerFrameToHolding_linkHolds {s : State} (h : LinkHolds s) (f : LinkFrame) :
    LinkHolds (offerFrameToHolding f s) := by
  obtain ⟨hlen, hbefore, howed, hheld⟩ := h
  by_cases h2 : 2 ≤ s.holding.length
  · rw [offerFrameToHolding_of_two h2]
    refine ⟨hlen, fun o ho => ?_, fun r hr hs => ?_, hheld⟩
    · cases ho
      cases hov : s.overrun with
      | none => exact Nat.le_refl _
      | some o => exact hbefore o hov
    · simp [howed r hr hs]
  · by_cases hempty : s.holding = [] ∧ s.response = none
    · rw [offerFrameToHolding_taken hempty.1 hempty.2]
      refine takeFrame_linkHolds ⟨by simp, by simp, fun o ho => ?_⟩ f
      have hle := hbefore o ho
      rw [hempty.1] at hle
      exact Nat.le_succ_of_le hle
    · rw [offerFrameToHolding_waits (by omega) (Classical.not_and_iff_not_or_not.mp hempty)]
      refine ⟨?_, fun o ho => ?_, howed, fun _ _ _ => by simp⟩
      · simp only [List.length_append, List.length_singleton]
        omega
      · have hle := hbefore o ho
        simp only [List.length_append, List.length_singleton]
        omega

theorem receiveByte_linkHolds {s : State} (h : LinkHolds s) (b : Byte) (stopBit : Bool) :
    LinkHolds (receiveByte b stopBit s) := by
  unfold receiveByte
  split
  · split
    · exact h.of_same rfl rfl rfl
    · exact h
  · dsimp only
    split
    · exact h.of_same rfl rfl rfl
    · exact offerFrameToHolding_linkHolds (s := { s with receiver := .hunting }) (h.of_same rfl rfl rfl) _

/-- With no response in progress, an OVERRUN response that is owed begins. -/
theorem overrunIfOwed_linkHolds {s : State} (hr : s.response = none) (hlen : s.holding.length ≤ 2)
    (hbefore : ∀ o ∈ s.overrun, o.before ≤ s.holding.length) : LinkHolds (overrunIfOwed s) := by
  have hnone : LinkHolds s := by
    refine ⟨hlen, hbefore, fun r h => ?_, fun r h => ?_⟩ <;> cases hr.symm.trans h
  unfold overrunIfOwed
  split
  next o ho =>
    split
    next hzero =>
      refine ⟨hlen, hbefore, fun r h _ => ?_, fun r h hs => ?_⟩
      · cases h
        rw [← hzero]
        exact ho
      · cases h
        exact absurd rfl hs
    next => exact hnone
  next => exact hnone

theorem responseEnds_linkHolds {s : State} (h : LinkHolds s) (r : Response) : LinkHolds (responseEnds r s) := by
  obtain ⟨hlen, hbefore, _, _⟩ := h
  unfold responseEnds
  dsimp only
  split
  · refine ⟨hlen, fun o ho => ?_, fun r hr => ?_, fun r hr => ?_⟩
    · cases ho
    · cases hr
    · cases hr
  · refine overrunIfOwed_linkHolds rfl ?_ fun o ho => ?_
    · simp only [overrunCountsDown, List.length_tail]
      omega
    · obtain ⟨x, hx, rfl⟩ := Option.map_eq_some_iff.mp ho
      have hle := hbefore x hx
      simp only [overrunCountsDown, List.length_tail]
      omega

/-! ### The other commands -/

theorem refill_changes (s : State) : BlockChanges s (refill s) :=
  EngineChanges.air ⟨s, s.opState, s.dialogue, s.transmitting, s.carriers, s.quietWait, _, .refl s, rfl⟩ |>.block

theorem tallySecond_changes (s : State) : BlockChanges s (tallySecond s) :=
  AirChanges.block ⟨s, s.roster, s.tally, _, .refl s, rfl⟩

theorem blocksSecond_changes (s : State) : BlockChanges s (blocksSecond s) := by
  have h1 : BlockChanges s (idleSecond (bookSecond s)) := (bookSecond_changes s).block.trans (idleSecond_changes _)
  have h2 : BlockChanges s (bookSecond (idleSecond s)) := (idleSecond_changes s).trans (bookSecond_changes _).block
  have h : BlockChanges s (eitherOrder (idleSecond (bookSecond s)) (bookSecond (idleSecond s))) := by
    rcases eitherOrder_cases (idleSecond (bookSecond s)) (bookSecond (idleSecond s)) with h | h <;> rw [h]
    · exact h1.trans (BookChanges.block ⟨_, _, _, _, _, _, _, _, rfl⟩)
    · exact h2.trans (BookChanges.block ⟨_, _, _, _, _, _, _, _, rfl⟩)
  exact h.trans ((refill_changes _).trans (tallySecond_changes _))

/-- A command that is neither a request nor of the link's own leaves the holding, the response and the overrun, or
empties them. -/
theorem exec_linkHolds {s t : State} (h : LinkHolds s) (i : Instr) (ht : exec i s = .next t) : LinkHolds t := by
  have same : ∀ {u v : State}, (Host.Outcome.next u : Host.Outcome State Fault Refusal) = .next v →
      u.holding = s.holding → u.response = s.response → u.overrun = s.overrun → LinkHolds v := by
    intro u v huv hh hr ho
    cases huv
    exact h.of_same hh hr ho
  cases hf : requestFrame i with
  | some f =>
    rw [exec_of_request hf] at ht
    cases ht
    exact serve_linkHolds h f i
  | none =>
    cases hair : isOfAir i with
    | true => exact h.of_block (exec_airChanges hair ht).block
    | false =>
      cases i with
      | coldStart => cases ht; exact .of_empty rfl rfl rfl
      | lineReset => cases ht; exact .of_empty rfl rfl rfl
      | lineResetRelease =>
        change execLineResetRelease s = _ at ht
        unfold execLineResetRelease at ht
        split at ht <;> exact same ht rfl rfl rfl
      | headerRead signature count =>
        change execHeaderRead signature count s = _ at ht
        unfold execHeaderRead at ht
        repeat' split at ht
        all_goals exact same ht rfl rfl rfl
      | groupRead length contents sumCheck =>
        change execGroupRead length contents sumCheck s = _ at ht
        unfold execGroupRead afterGroup at ht
        repeat' split at ht
        all_goals exact same ht rfl rfl rfl
      | configReadTimeout =>
        change execConfigReadTimeout s = _ at ht
        unfold execConfigReadTimeout at ht
        split at ht <;> exact same ht rfl rfl rfl
      | clockSecond =>
        change execClockSecond s = _ at ht
        unfold execClockSecond at ht
        dsimp only at ht
        split at ht
        · exact same ht rfl rfl rfl
        · cases ht
          exact LinkHolds.of_block (s := { s with clock := s.clock + 1, timebase := 0 }) (h.of_same rfl rfl rfl)
            ((blocksSecond_changes _).trans (settle_changes _).air.block)
      | yieldEnd => exact same ht rfl rfl rfl
      | groupIdleTimeout =>
        change execGroupIdleTimeout s = _ at ht
        unfold execGroupIdleTimeout at ht
        split at ht
        · cases ht
          exact h.of_block ((expireGroup_changes s).trans (settle_changes _).air.block)
        · exact same ht rfl rfl rfl
      | tallyPeriodEnd => exact same ht rfl rfl rfl
      | batchFrameEnd frame =>
        cases ht
        exact offerFrameToHolding_linkHolds (s := { s with receiver := .hunting }) (h.of_same rfl rfl rfl) frame
      | linkLoss => exact same ht rfl rfl rfl
      | responseSent =>
        change execResponseSent s = _ at ht
        unfold execResponseSent at ht
        split at ht
        · cases ht
          exact responseEnds_linkHolds h _
        · exact same ht rfl rfl rfl
      | heldFrameTaken =>
        change execHeldFrameTaken s = _ at ht
        unfold execHeldFrameTaken at ht
        split at ht
        next hh =>
          cases ht
          exact takeFrame_linkHolds (h.holdsFrame (by simp [hh])) _
        next => exact same ht rfl rfl rfl
      | closingListDrain =>
        cases ht
        exact h.of_block ((drainClosing_changes s).block.trans (settle_changes _).air.block)
      | batchByteReceived byte stopBit =>
        cases ht
        exact receiveByte_linkHolds h byte stopBit
      | status | setTime | openGroup | record | closeGroup | abortGroup | start | pause | resume | stop
      | clearFaults | takeReports | readEntry | readRoster | withdraw | setAttention | resetPort => cases hf
      | airFrameDiscarded | frameStart | carrierSensed | carrierEnd | call | standoffEnd | offerSent | ready
      | readyWaitExpiry | fragSent | fragAck | ackWaitExpiry | done | doneWaitExpiry | refuse | peerOffer
      | peerFrag | peerTally | quietWaitEnd | tallySent => cases hair

theorem step_linkHolds {s t : State} (h : LinkHolds s) (ht : step s = .next t) : LinkHolds t := by
  unfold step at ht
  split at ht
  next => cases ht; exact h
  next i rest _ => exact exec_linkHolds (s := { s with pending := rest }) (h.of_same rfl rfl rfl) i ht

/-- Settles O55: each bound is kept by every operation; the holding and the overrun are kept by every command. -/
theorem stepKeepsBounds : Obligations.StepKeepsBounds := by
  unfold Obligations.StepKeepsBounds
  intro s t hs ho ht
  obtain ⟨hreports, htally, hcount, hholding, hgroup⟩ := hs
  obtain ⟨rest, hops⟩ := step_ops (K := False) (Q := False) False.elim False.elim ht
  obtain ⟨hholding', hoverrun⟩ := step_linkHolds ⟨hholding, ho⟩ ht
  exact ⟨⟨hops.keeps (P := fun s => s.reports.length ≤ 256) Op.reports_le hreports,
    hops.keeps (P := fun s => s.tally.length ≤ 64) Op.tally_le htally,
    hops.keeps (P := fun s => s.tallyCount ≤ 60) Op.tallyCount_le hcount, hholding',
    hops.keeps (P := GroupWithinBounds) Op.group_bounds hgroup⟩, hoverrun⟩

end Sys2Proof.Machine
end


section
/-! The book's keys and the law of its entries. -/

namespace Sys2Proof.Machine

variable {K Q L G : Prop}

theorem isClosing_of_isOpen {e : Entry} (h : e.isOpen = true) : e.isClosing = false := by
  unfold Entry.isOpen at h
  unfold Entry.isClosing
  split at h <;> simp_all

/-- A keyed book whose entries keep their law, where `G` asks for it. -/
def BookLaw (G : Prop) (b : List Entry) : Prop := KeyedBook b ∧ (G → ∀ e ∈ b, EntryLaw e)

theorem BookLaw.nil : BookLaw G [] := 
  ⟨⟨.nil, .nil, fun _ h => absurd h List.not_mem_nil⟩, fun _ _ h => absurd h List.not_mem_nil⟩

theorem BookLaw.put {b : List Entry} (h : BookLaw G b) {e n : Entry} (he : e ∈ b) (hslot : n.slot = e.slot)
    (hlabel : n.label = e.label) (hlaw : EntryLaw e → EntryLaw n) : BookLaw G (putEntry n b) := by
  refine ⟨h.1.put he hslot hlabel, fun hG x hx => ?_⟩
  rcases mem_putEntry hx with ⟨rfl, _⟩ | ⟨hx, _⟩
  · exact hlaw (h.2 hG e he)
  · exact h.2 hG x hx

theorem BookLaw.filter {b : List Entry} (h : BookLaw G b) (p : Entry → Bool) : BookLaw G (b.filter p) :=
  ⟨h.1.filter p, fun hG e he => h.2 hG e ((List.mem_filter.mp he).1)⟩

/-! ### The law of a changed entry -/

/-- An entry that is CLOSING with the change of one that keeps its law. -/
theorem SameChange.closing_law {e x : Entry} (hx : SameChange e x) (r : ClosingRecord) (h : EntryLaw e) :
    EntryLaw { x with state := .closing r, late := false } := by
  obtain ⟨hv, hsucc, hatt, _⟩ := h
  refine ⟨?_, fun p hp => ?_, hx.attempts hatt, fun _ => rfl⟩
  · change VersionLaw x.base x.target
    rw [hx.base, hx.target]
    exact hv
  · obtain ⟨_, hbase, hnew⟩ := hsucc p (hx.successor ▸ hp)
    exact ⟨rfl, hbase.trans hx.target.symm, show newer p.target x.target = true from hx.target.symm ▸ hnew⟩

/-- An open entry that keeps its law has no successor part. -/
theorem EntryLaw.no_successor {e : Entry} (h : EntryLaw e) (ho : e.isOpen = true) : e.successor = none := by
  cases hs : e.successor with
  | none => rfl
  | some p =>
    obtain ⟨hclosed, _⟩ := h.2.1 p hs
    exact absurd ho (by simp [hclosed])

/-- An entry in another state, with the change and the attempts of an open one. -/
theorem EntryLaw.of_open {e n : Entry} (h : EntryLaw e) (ho : e.isOpen = true) (hbase : n.base = e.base)
    (htarget : n.target = e.target) (hsucc : n.successor = e.successor) (hatt : n.attempts = e.attempts)
    (hlimit : n.limit = e.limit) (hc : n.isClosing = false) : EntryLaw n := by
  obtain ⟨hv, _, hle, _⟩ := id h
  refine ⟨?_, fun p hp => ?_, by omega, fun hcl => ?_⟩
  · rw [hbase, htarget]
    exact hv
  · rw [hsucc, h.no_successor ho] at hp
    cases hp
  · exact absurd hcl (by simp [hc])

theorem Reckons.law {e x : Entry} (h : Reckons e x) (hlaw : EntryLaw e) : EntryLaw x := by
  rcases h.state with hs | ⟨ho, _, hxo⟩
  · obtain ⟨hv, hsucc, hatt, hlate⟩ := hlaw
    refine ⟨?_, fun p hp => ?_, by rw [h.attempts, h.limit]; exact hatt, fun hc => ?_⟩
    · rw [h.base, h.target]
      exact hv
    · obtain ⟨ho, hbase, hnew⟩ := hsucc p (h.successor ▸ hp)
      exact ⟨isOpen_of_state hs ▸ ho, h.target ▸ hbase, h.target ▸ hnew⟩
    · rw [isClosing_of_state hs] at hc
      exact (h.late hc).trans (hlate hc)
  · exact hlaw.of_open ho h.base h.target h.successor h.attempts h.limit (isClosing_of_isOpen hxo)

theorem StaysOpen.law {e n : Entry} (h : StaysOpen e n) (ho : e.isOpen = true) (hlaw : EntryLaw e) : EntryLaw n :=
  hlaw.of_open ho h.base h.target h.successor h.attempts h.limit (isClosing_of_isOpen h.isOpen)

theorem freshEntry_law {g : OpenGroup} {s : State} {slot : Nat} {n : FreshEntry} (h : VersionLaw n.base n.target) :
    EntryLaw (freshEntry g s slot n) := by
  refine ⟨h, fun p hp => ?_, Nat.zero_le _, fun hc => ?_⟩
  · cases hp
  · cases hc

/-! ### The operations of the book -/

theorem Tells.book_eq {s t : State} (h : Tells s t) : t.book = s.book := by
  induction h with
  | refl => rfl
  | tail _ hn ih => cases hn <;> exact ih

theorem Leaves.bookLaw {e : Entry} {s t : State} (h : Leaves e s t) (he : e ∈ s.book) (hb : BookLaw G s.book) :
    BookLaw G t.book := by
  cases h with
  | freed => exact hb.filter _
  | waits n slot label state law => exact hb.put he slot label law

theorem Concludes.bookLaw {e : Entry} {s t : State} (h : Concludes e s t) (he : e ∈ s.book)
    (hb : BookLaw G s.book) : BookLaw G t.book := by
  cases h with
  | leaves h => exact h.bookLaw he hb
  | joins x r hx hw => exact hb.put he hx.slot hx.label (hx.closing_law r)

theorem Ends.bookLaw {e : Entry} {s t : State} (h : Ends e s t) (he : e ∈ s.book) (hb : BookLaw G s.book) :
    BookLaw G t.book := by
  obtain ⟨u, v, h1, h2, h3⟩ := h
  rw [h3.book_eq]
  exact h2.bookLaw (h1.book_eq ▸ he) (h1.book_eq ▸ hb)

theorem Outcome.bookLaw {n : Nat} {s t : State} (h : Outcome n s t) (hb : BookLaw G s.book) : BookLaw G t.book := by
  rcases h with ⟨_, rfl⟩ | ⟨e, he, h⟩
  · exact hb
  · exact h.bookLaw (entryAt_some he).1 hb

theorem drains_bookLaw {s t : State} (h : ReflTransGen Drains s t) (hb : BookLaw G s.book) : BookLaw G t.book := by
  induction h with
  | refl => exact hb
  | tail _ hd ih =>
    cases hd with
    | news h => exact Tells.book_eq (.single h) ▸ ih
    | takes _ he _ ht => exact ht.bookLaw (entryAt_some he).1 ih
    | skips => exact ih

/-- The entry that a standoff's end commits (R85). -/
theorem commitEntry_some {c : TransferContext} {s : State} {e : Entry} (h : commitEntry c s = some e) :
    e ∈ s.book ∧ e.slot = c.slot ∧ e.label = c.label ∧ e.state = .waiting ∧ c.touched = false ∧ s.opState = .run ∧
      covers (offerNeed c.lane (estimateOf c.face) s) s = true := by
  unfold commitEntry at h
  split at h
  next x hx =>
    split at h
    next hc =>
      cases h
      obtain ⟨hrun, hstate, hlabel, htouched, hcov⟩ := hc
      obtain ⟨hmem, hslot⟩ := entryAt_some hx
      exact ⟨hmem, hslot, hlabel, hstate, htouched, hrun, hcov⟩
    next => cases h
  next => cases h

/-! ### The invariant -/

/-- What a gathered record states is a change (R25). -/
def GatheredLaw (s : State) : Prop := ∀ g ∈ s.group, ∀ r ∈ g.gathered, VersionLaw r.base r.target

theorem GatheredLaw.of_some {s : State} {g : OpenGroup} (h : s.group = some g)
    (hg : ∀ r ∈ g.gathered, VersionLaw r.base r.target) : GatheredLaw s := by
  intro x hx
  cases h.symm.trans hx
  exact hg

theorem GatheredLaw.of_none {s : State} (h : s.group = none) : GatheredLaw s := by
  simp [GatheredLaw, h]

theorem Op.gatheredLaw {s t : State} (h : Op K Q L s t) (hs : GatheredLaw s) : GatheredLaw t := by
  cases h with
  | news h =>
    obtain ⟨_, _, _, _, _, _, _, _, rfl⟩ := Tells.changes (.single h)
    exact hs
  | confirms e he ho hd h =>
    obtain ⟨_, _, _, _, _, _, _, _, rfl⟩ := h.changes
    exact hs
  | drains k h _ =>
    obtain ⟨_, _, _, _, _, _, _, _, rfl⟩ := drains_changes h
    exact hs
  | ends b hd hu hb =>
    obtain ⟨_, _, _, hgroup, _⟩ := hu.listening_keeps (b := b)
    intro g hg
    exact hs g (hgroup ▸ hg)
  | cutsOff x n b ho hd hu hb =>
    obtain ⟨_, _, _, hgroup, _⟩ := hu.listening_keeps (b := b)
    intro g hg
    exact hs g (hgroup ▸ hg)
  | opensGroup n time cls hn => exact .of_some rfl (by simp)
  | idles g n hg hn => exact .of_some rfl (hs g hg)
  | gathers g r hg hlen hr =>
    refine .of_some rfl fun x hx => ?_
    rcases List.mem_append.mp hx with hx | hx
    · exact hs g hg x hx
    · cases List.mem_singleton.mp hx
      exact hr
  | closesGroup => exact .of_none rfl
  | folds => exact .of_none rfl
  | coldStart => exact .of_none rfl
  | lineReset hL h => cases h; exact .of_none rfl
  | tallies p => unfold joinTally; split <;> exact hs
  | _ => exact hs

/-- The fold's new book (R35 to R41). -/
theorem fold_bookLaw {s : State} {g : OpenGroup} {v : FoldView} (hg : s.group = some g)
    (hv : checkPass g g.gathered 1 (startView s) = .done v) (hroom : roomFor v s = true)
    (hb : BookLaw G s.book) (hgath : G → GatheredLaw s) : BookLaw G (foldedBook g s v) := by
  have hview : ViewHolds G s.book v :=
    checkPass_holds hb.1 (.start G s) (fun r hr hG => hgath hG g hg r hr) hv
  refine ⟨foldedBook_keyed hb.1 hview hroom, fun hG x hx => ?_⟩
  rcases mem_foldedBook hview hx with ⟨e, he, ha⟩ | ⟨n, hn, slot, rfl⟩
  · exact ha.law hG (hb.2 hG e he)
  · exact freshEntry_law (hview.law hG n hn)

theorem Op.bookLaw {s t : State} (h : Op True Q L s t) (hgath : G → GatheredLaw s) (hb : BookLaw G s.book) :
    BookLaw G t.book := by
  cases h with
  | news h => exact Tells.book_eq (.single h) ▸ hb
  | reckons f hf =>
    refine ⟨hb.1.map (fun e => (hf e).slot) (fun e => (hf e).label), fun hG x hx => ?_⟩
    obtain ⟨e, he, rfl⟩ := List.mem_map.mp hx
    exact (hf e).law (hb.2 hG e he)
  | fits e n he hn hd =>
    obtain ⟨hmem, ho⟩ := he trivial
    exact hb.put hmem hn.slot hn.label (hn.law ho)
  | withdraws e he ho => exact hb.filter _
  | confirms e he ho hd h => exact h.bookLaw he hb
  | drains k h _ => exact drains_bookLaw h hb
  | folds g v hg hv hroom => exact fold_bookLaw hg hv hroom hb hgath
  | commits c e hd he =>
    obtain ⟨hmem, _, _, hstate, _⟩ := commitEntry_some he
    exact hb.put (n := { e with state := .inTransfer }) hmem rfl rfl fun h =>
      h.of_open (by simp [Entry.isOpen, hstate]) rfl rfl rfl rfl rfl rfl
  | ends b hd hu hb' => exact hu.bookLaw hb
  | cutsOff x n b ho hd hu hb' => exact hu.bookLaw hb
  | coldStart => exact .nil
  | lineReset hL h => cases h; exact .nil
  | tallies p => unfold joinTally; split <;> exact hb
  | _ => exact hb

/-- Settles O57: the operations of the book keep its keys and the law of each entry they change. -/
theorem stepKeepsEntries : Obligations.StepKeepsEntries := by
  unfold Obligations.StepKeepsEntries
  intro s t hkey h
  obtain ⟨rest, hops⟩ := step_ops (K := True) (Q := False) (fun _ => hkey) False.elim h
  obtain ⟨⟨hkeyed, hlaw⟩, hgath⟩ := hops.keeps (P := fun u => BookLaw (EntriesKeepLaw s) u.book ∧ (EntriesKeepLaw s → GatheredLaw u))
    (fun hop h => ⟨hop.bookLaw h.2 h.1, fun hG => hop.gatheredLaw (h.2 hG)⟩)
    ⟨⟨hkey, fun h => h.1⟩, fun h => h.2⟩
  exact ⟨hkeyed, fun hs => ⟨hlaw hs, hgath hs⟩⟩

end Sys2Proof.Machine
end


section
/-! The closing order list and the entry in transfer. -/

namespace Sys2Proof.Machine

variable {K Q L G : Prop}

/-! ### The book seen by the list and by the Engine -/

/-- The closing order list holds the slot of each CLOSING entry once. -/
def Ordered (b : List Entry) (c : List Nat) : Prop :=
  c.Nodup ∧ (∀ n ∈ c, ∃ e ∈ b, e.slot = n ∧ e.isClosing = true) ∧ (∀ e ∈ b, e.isClosing = true → e.slot ∈ c)

/-- The list is empty while the report queue has room. -/
def RoomUsed (s : State) : Prop := s.hasRoom = true → s.closing = []

def NoTransfer (b : List Entry) : Prop := ∀ e ∈ b, e.state ≠ .inTransfer

/-- The book has the entry that the dialogue is about. -/
def Carries (d : Dialogue) (b : List Entry) : Prop := TransferHasEntry { State.reset with dialogue := d, book := b }

theorem carries_iff {s : State} : Carries s.dialogue s.book ↔ TransferHasEntry s := Iff.rfl

theorem carries_listening {b : List Entry} : Carries .listening b ↔ NoTransfer b := Iff.rfl

theorem carries_tallying {n : Nat} {b : List Entry} : Carries (.tallying n) b ↔ NoTransfer b := Iff.rfl

theorem carries_standingOff {c : TransferContext} {b : List Entry} : Carries (.standingOff c) b ↔
    NoTransfer b ∧ (c.touched = false → ∀ e ∈ b, e.slot = c.slot → e.label = c.label →
      e.state = .waiting ∧ e.target = c.target) := Iff.rfl

theorem carries_transferring {p : Phase} {c : TransferContext} {b : List Entry} : Carries (.transferring p c) b ↔
    (∃ e ∈ b, e.slot = c.slot ∧ e.label = c.label ∧ e.target = c.target ∧ e.state = .inTransfer) ∧
    (∀ e ∈ b, e.state = .inTransfer → e.slot = c.slot) := Iff.rfl

/-- Outside a transfer no entry is IN_TRANSFER. -/
theorem Carries.noTransfer {d : Dialogue} {b : List Entry} (h : Carries d b) (hd : ∀ p c, d ≠ .transferring p c) :
    NoTransfer b := by
  cases d with
  | listening => exact h
  | standingOff c => exact (carries_standingOff.mp h).1
  | transferring p c => exact absurd rfl (hd p c)
  | tallying n => exact h

/-- What the book must have for a transfer depends on its slot, label and target alone. -/
theorem Carries.phase {p q : Phase} {c x : TransferContext} {b : List Entry} (h : Carries (.transferring p c) b)
    (hslot : x.slot = c.slot) (hlabel : x.label = c.label) (htarget : x.target = c.target) :
    Carries (.transferring q x) b := by
  rw [carries_transferring, hslot, hlabel, htarget]
  exact h

/-! ### One entry changed or freed -/

/-- `b'` is `b` with the entry in the slot of `e` freed, or changed into one of its label with `P`. -/
structure Edits (P : Entry → Prop) (e : Entry) (b b' : List Entry) : Prop where
  mem : ∀ {x}, x ∈ b' → (x ∈ b ∧ x.slot ≠ e.slot) ∨ (x.slot = e.slot ∧ x.label = e.label ∧ P x)
  keep : ∀ {x}, x ∈ b → x.slot ≠ e.slot → x ∈ b'

theorem Edits.put {P : Entry → Prop} {e n : Entry} {b : List Entry} (hslot : n.slot = e.slot)
    (hlabel : n.label = e.label) (hP : P n) : Edits P e b (putEntry n b) := by
  constructor
  · intro x hx
    rcases mem_putEntry hx with ⟨rfl, _⟩ | ⟨hx, hs⟩
    · exact .inr ⟨hslot, hlabel, hP⟩
    · exact .inl ⟨hx, hslot ▸ hs⟩
  · exact fun hx hs => mem_putEntry_other hx (hslot.symm ▸ hs)

theorem Edits.free {P : Entry → Prop} {e : Entry} {b : List Entry} :
    Edits P e b (b.filter (fun x => x.slot != e.slot)) := by
  constructor
  · intro x hx
    obtain ⟨hx, hs⟩ := List.mem_filter.mp hx
    exact .inl ⟨hx, by simpa using hs⟩
  · exact fun hx hs => List.mem_filter.mpr ⟨hx, by simpa using hs⟩

/-- The list keeps its order while an entry that is not CLOSING changes into one that is not. -/
theorem Ordered.edits {P : Entry → Prop} {e : Entry} {b b' : List Entry} {c : List Nat} (h : Ordered b c)
    (hb : KeyedBook b) (he : e ∈ b) (hcl : e.isClosing = false) (hP : ∀ x, P x → x.isClosing = false)
    (hed : Edits P e b b') : Ordered b' c := by
  obtain ⟨hnd, hof, hto⟩ := h
  refine ⟨hnd, fun n hn => ?_, fun x hx hxc => ?_⟩
  · obtain ⟨y, hy, rfl, hyc⟩ := hof n hn
    refine ⟨y, hed.keep hy fun hs => ?_, rfl, hyc⟩
    rw [hb.slot_inj hy he hs, hcl] at hyc
    cases hyc
  · rcases hed.mem hx with ⟨hx, _⟩ | ⟨_, _, hp⟩
    · exact hto x hx hxc
    · rw [hP x hp] at hxc
      cases hxc

/-- An entry that is not CLOSING becomes so and joins the end of the list. -/
theorem Ordered.joins {e n : Entry} {b : List Entry} {c : List Nat} (h : Ordered b c) (hb : KeyedBook b)
    (he : e ∈ b) (hcl : e.isClosing = false) (hslot : n.slot = e.slot) (hn : n.isClosing = true) :
    Ordered (putEntry n b) (c ++ [n.slot]) := by
  obtain ⟨hnd, hof, hto⟩ := h
  have hnew : e.slot ∉ c := by
    intro hmem
    obtain ⟨y, hy, hs, hyc⟩ := hof _ hmem
    rw [hb.slot_inj hy he hs, hcl] at hyc
    cases hyc
  refine ⟨?_, fun m hm => ?_, fun x hx hxc => ?_⟩
  · rw [hslot]
    exact List.nodup_append.mpr ⟨hnd, List.pairwise_singleton _ _, fun a ha b hb hab => by simp_all⟩
  · rcases List.mem_append.mp hm with hm | hm
    · obtain ⟨y, hy, rfl, hyc⟩ := hof m hm
      exact ⟨y, mem_putEntry_other hy fun hs => hnew (hslot ▸ hs ▸ hm), rfl, hyc⟩
    · cases List.mem_singleton.mp hm
      exact ⟨n, mem_putEntry_self he hslot.symm, rfl, hn⟩
  · rcases mem_putEntry hx with ⟨rfl, _⟩ | ⟨hx, _⟩
    · simp
    · exact List.mem_append_left _ (hto x hx hxc)

/-- The list's first entry leaves it. -/
theorem Ordered.takes {P : Entry → Prop} {e : Entry} {b b' : List Entry} {rest : List Nat}
    (h : Ordered b (e.slot :: rest)) (hP : ∀ x, P x → x.isClosing = false) (hed : Edits P e b b') :
    Ordered b' rest := by
  obtain ⟨hnd, hof, hto⟩ := h
  obtain ⟨hnot, hnd⟩ := List.nodup_cons.mp hnd
  refine ⟨hnd, fun n hn => ?_, fun x hx hxc => ?_⟩
  · obtain ⟨y, hy, rfl, hyc⟩ := hof n (List.mem_cons_of_mem _ hn)
    exact ⟨y, hed.keep hy fun hs => hnot (hs ▸ hn), rfl, hyc⟩
  · rcases hed.mem hx with ⟨hx, hs⟩ | ⟨_, _, hp⟩
    · exact (List.mem_cons.mp (hto x hx hxc)).resolve_left hs
    · rw [hP x hp] at hxc
      cases hxc

/-- The Engine's entry stands while another entry changes into one that is not IN_TRANSFER. -/
theorem Carries.edits {P : Entry → Prop} {d : Dialogue} {e : Entry} {b b' : List Entry} (h : Carries d b)
    (hb : KeyedBook b) (he : e ∈ b) (hst : e.state ≠ .inTransfer) (hP : ∀ x, P x → x.state ≠ .inTransfer)
    (hs : ∀ c, d = .standingOff c → c.touched = false → e.slot = c.slot → e.label = c.label → ∀ x, ¬ P x)
    (hed : Edits P e b b') : Carries d b' := by
  have hnone : NoTransfer b → NoTransfer b' := by
    intro hno x hx
    rcases hed.mem hx with ⟨hx, _⟩ | ⟨_, _, hp⟩
    · exact hno x hx
    · exact hP x hp
  cases d with
  | listening => exact hnone h
  | tallying n => exact hnone h
  | standingOff c =>
    obtain ⟨hno, huntouched⟩ := carries_standingOff.mp h
    refine carries_standingOff.mpr ⟨hnone hno, fun ht x hx hslot hlabel => ?_⟩
    rcases hed.mem hx with ⟨hx, _⟩ | ⟨hxs, hxl, hp⟩
    · exact huntouched ht x hx hslot hlabel
    · exact absurd hp (hs c rfl ht (hxs ▸ hslot) (hxl ▸ hlabel) x)
  | transferring p c =>
    obtain ⟨⟨y, hy, hys, hyl, hyt, hyi⟩, huniq⟩ := carries_transferring.mp h
    refine carries_transferring.mpr ⟨⟨y, hed.keep hy fun hslot => ?_, hys, hyl, hyt, hyi⟩, fun x hx hxi => ?_⟩
    · exact hst (hb.slot_inj hy he hslot ▸ hyi)
    · rcases hed.mem hx with ⟨hx, _⟩ | ⟨_, _, hp⟩
      · exact huniq x hx hxi
      · exact absurd hxi (hP x hp)

/-- The entry in transfer leaves its state: no entry is IN_TRANSFER. -/
theorem Carries.ended {P : Entry → Prop} {p : Phase} {c : TransferContext} {e : Entry} {b b' : List Entry}
    (h : Carries (.transferring p c) b) (hslot : e.slot = c.slot) (hP : ∀ x, P x → x.state ≠ .inTransfer)
    (hed : Edits P e b b') : NoTransfer b' := by
  intro x hx hxi
  rcases hed.mem hx with ⟨hx, hs⟩ | ⟨_, _, hp⟩
  · exact hs (((carries_transferring.mp h).2 x hx hxi).trans hslot.symm)
  · exact hP x hp hxi

/-! ### The ends of entries -/

theorem Tells.closing_eq {s t : State} (h : Tells s t) : t.closing = s.closing := by
  induction h with
  | refl => rfl
  | tail _ hn ih => cases hn <;> exact ih

theorem Tells.roomUsed {s t : State} (h : Tells s t) (hs : RoomUsed s) : RoomUsed t := by
  intro ht
  obtain ⟨hroom, hc⟩ := hasRoom_of_tells h ht
  exact hc.trans (hs hroom)

theorem Leaves.edits {e : Entry} {s t : State} (h : Leaves e s t) :
    Edits (fun x => x.state = .waiting) e s.book t.book ∧ t.closing = s.closing := by
  cases h with
  | freed => exact ⟨.free, rfl⟩
  | waits n slot label state law => exact ⟨.put slot label state, rfl⟩

theorem isClosing_of_waiting (x : Entry) (h : x.state = .waiting) : x.isClosing = false := by
  simp [Entry.isClosing, h]

theorem notInTransfer_of_waiting (x : Entry) (h : x.state = .waiting) : x.state ≠ .inTransfer := by simp [h]

/-- The book and the list after an entry's end: the entry has left its state, and the list its order. -/
theorem Concludes.keeps {e : Entry} {s t : State} (h : Concludes e s t) (hb : KeyedBook s.book) (he : e ∈ s.book)
    (hcl : e.isClosing = false) (ho : Ordered s.book s.closing) (hr : RoomUsed s) :
    Edits (fun x => x.state ≠ .inTransfer) e s.book t.book ∧ Ordered t.book t.closing ∧ RoomUsed t := by
  cases h with
  | leaves h =>
    obtain ⟨hed, hc⟩ := h.edits
    refine ⟨⟨fun hx => ?_, hed.keep⟩, hc ▸ ho.edits hb he hcl isClosing_of_waiting hed, ?_⟩
    · rcases hed.mem hx with hx | ⟨hs, hl, hw⟩
      · exact .inl hx
      · exact .inr ⟨hs, hl, notInTransfer_of_waiting _ hw⟩
    · intro ht
      rw [hc]
      exact hr (by simpa [State.hasRoom, h.reports_eq] using ht)
  | joins x r hx hw =>
    have hed := Edits.put (P := fun x => x.state ≠ .inTransfer) (e := e) (b := s.book)
      (n := { x with state := .closing r, late := false }) hx.slot hx.label (by simp)
    refine ⟨hed, ho.joins hb he hcl hx.slot rfl, fun ht => ?_⟩
    have hlen : s.reports.length < 256 := of_decide_eq_true ht
    exact absurd (hr ht) (hw.resolve_right (by omega))

theorem Ends.keeps {e : Entry} {s t : State} (h : Ends e s t) (hb : KeyedBook s.book) (he : e ∈ s.book)
    (hcl : e.isClosing = false) (ho : Ordered s.book s.closing) (hr : RoomUsed s) :
    Edits (fun x => x.state ≠ .inTransfer) e s.book t.book ∧ Ordered t.book t.closing ∧ RoomUsed t := by
  obtain ⟨u, v, h1, h2, h3⟩ := h
  have hbook := h1.book_eq
  have hclosing := h1.closing_eq
  obtain ⟨hed, hord, hroom⟩ := h2.keeps (hbook ▸ hb) (hbook ▸ he) hcl (hbook ▸ hclosing ▸ ho) (h1.roomUsed hr)
  rw [h3.book_eq, h3.closing_eq]
  exact ⟨hbook ▸ hed, hord, h3.roomUsed hroom⟩

/-- The outcome of a transfer at the book leaves no entry IN_TRANSFER. -/
theorem Outcome.keeps {p : Phase} {c : TransferContext} {s t : State} (h : Outcome c.slot s t)
    (hb : KeyedBook s.book) (ho : Ordered s.book s.closing) (hr : RoomUsed s)
    (hc : Carries (.transferring p c) s.book) :
    NoTransfer t.book ∧ Ordered t.book t.closing ∧ RoomUsed t := by
  obtain ⟨⟨y, hy, hys, _, _, hyi⟩, _⟩ := carries_transferring.mp hc
  rcases h with ⟨hnone, _⟩ | ⟨e, he, h⟩
  · exact absurd hys (entryAt_none hnone y hy)
  · obtain ⟨hmem, hslot⟩ := entryAt_some he
    have hcl : e.isClosing = false := by
      rw [hb.slot_inj hmem hy (hslot.trans hys.symm)]
      simp [Entry.isClosing, hyi]
    obtain ⟨hed, hord, hroom⟩ := h.keeps hb hmem hcl ho hr
    exact ⟨hc.ended hslot (fun _ => id) hed, hord, hroom⟩

/-- The list used from its head (R61). -/
theorem drains_keep {d : Dialogue} {s t : State} (h : ReflTransGen Drains s t) (hb : KeyedBook s.book)
    (ho : Ordered s.book s.closing) (hc : Carries d s.book) :
    KeyedBook t.book ∧ Ordered t.book t.closing ∧ Carries d t.book := by
  induction h with
  | refl => exact ⟨hb, ho, hc⟩
  | tail _ hd ih =>
    obtain ⟨hb, ho, hc⟩ := ih
    cases hd with
    | news h =>
      have h : Tells _ _ := .single h
      rw [h.book_eq, h.closing_eq]
      exact ⟨hb, ho, hc⟩
    | @takes _ n rest e hcons he hcl ht =>
      obtain ⟨hmem, rfl⟩ := entryAt_some he
      obtain ⟨hed, hclosing⟩ := ht.edits
      have hkey : KeyedBook _ := (ht.bookLaw (G := False) hmem ⟨hb, False.elim⟩).1
      rw [hcons] at ho
      refine ⟨hkey, hclosing ▸ ho.takes isClosing_of_waiting hed,
        hc.edits hb hmem ?_ notInTransfer_of_waiting ?_ hed⟩
      · intro hst
        simp [Entry.isClosing, hst] at hcl
      · rintro c rfl hunt hslot hlabel
        obtain ⟨hw, _⟩ := (carries_standingOff.mp hc).2 hunt e hmem hslot hlabel
        simp [Entry.isClosing, hw] at hcl
    | @skips n rest hcons hn =>
      obtain ⟨_, hof, _⟩ := id ho
      obtain ⟨y, hy, hys, hyc⟩ := hof n (hcons ▸ List.mem_cons_self)
      have hat := entryAt_of_mem hb hy
      rw [hn y (hys ▸ hat)] at hyc
      cases hyc

/-! ### The fold -/

/-- A fold leaves a closing entry closing, and touches no entry that the Engine is about but a standoff's, which
it marks (R40, R83). -/
theorem fold_keeps {s : State} {g : OpenGroup} {v : FoldView} (hv : ViewHolds False s.book v)
    (ho : Ordered s.book s.closing) (hc : Carries s.dialogue s.book) :
    Ordered (foldedBook g s v) s.closing ∧
    Carries (markTouched (touchedBy v) s.dialogue) (foldedBook g s v) := by
  obtain ⟨hnd, hof, hto⟩ := ho
  have closes : ∀ {e x}, Applies False (touchedBy v) e x → x.isClosing = e.isClosing := by
    intro e x ha
    by_cases ht : e.label ∈ touchedBy v
    · rw [isClosing_of_isOpen (ha.isOpen ht), isClosing_of_waiting x (by rw [ha.state, if_pos ht])]
    · exact isClosing_of_state (by rw [ha.state, if_neg ht])
  have state_other : ∀ {e x}, Applies False (touchedBy v) e x → e.label ∉ touchedBy v → x.state = e.state :=
    fun ha ht => by rw [ha.state, if_neg ht]
  have transfers : ∀ {e x}, Applies False (touchedBy v) e x → (x.state = .inTransfer ↔ e.state = .inTransfer) := by
    intro e x ha
    by_cases ht : e.label ∈ touchedBy v
    · have hopen := ha.isOpen ht
      rw [ha.state, if_pos ht]
      constructor
      · intro h
        cases h
      · intro h
        simp [Entry.isOpen, h] at hopen
    · rw [state_other ha ht]
  have notransfer : NoTransfer s.book → NoTransfer (foldedBook g s v) := by
    intro hno x hx hxi
    rcases mem_foldedBook hv hx with ⟨e, he, ha⟩ | ⟨n, _, slot, rfl⟩
    · exact hno e he ((transfers ha).mp hxi)
    · cases hxi
  refine ⟨⟨hnd, fun n hn => ?_, fun x hx hxc => ?_⟩, ?_⟩
  · obtain ⟨e, he, rfl, hec⟩ := hof n hn
    obtain ⟨x, hx, ha⟩ := exists_mem_foldedBook (g := g) hv he
    exact ⟨x, hx, ha.slot, (closes ha).trans hec⟩
  · rcases mem_foldedBook hv hx with ⟨e, he, ha⟩ | ⟨n, _, slot, rfl⟩
    · exact ha.slot ▸ hto e he ((closes ha).symm.trans hxc)
    · cases hxc
  · cases hd : s.dialogue with
    | listening => exact notransfer (hc.noTransfer (by simp [hd]))
    | tallying n => exact notransfer (hc.noTransfer (by simp [hd]))
    | transferring p c =>
      rw [hd] at hc
      obtain ⟨⟨y, hy, hys, hyl, hyt, hyi⟩, huniq⟩ := carries_transferring.mp hc
      obtain ⟨x, hx, ha⟩ := exists_mem_foldedBook (g := g) hv hy
      have hunt : y.label ∉ touchedBy v := fun ht => by
        have hopen := ha.isOpen ht
        simp [Entry.isOpen, hyi] at hopen
      refine carries_transferring.mpr ⟨⟨x, hx, ha.slot.trans hys, ha.label.trans hyl, (ha.target hunt).trans hyt,
        (transfers ha).mpr hyi⟩, fun z hz hzi => ?_⟩
      rcases mem_foldedBook hv hz with ⟨e, he, ha⟩ | ⟨n, _, slot, rfl⟩
      · exact ha.slot.trans (huniq e he ((transfers ha).mp hzi))
      · cases hzi
    | standingOff c =>
      rw [hd] at hc
      obtain ⟨hno, huntouched⟩ := carries_standingOff.mp hc
      have hmark : markTouched (touchedBy v) (.standingOff c) =
          .standingOff { c with touched := if c.label ∈ touchedBy v then true else c.touched } := by
        unfold markTouched
        dsimp only
        split <;> rfl
      rw [hmark]
      refine carries_standingOff.mpr ⟨notransfer hno, fun ht x hx hslot hlabel => ?_⟩
      dsimp only at ht hslot hlabel ⊢
      have hunt : c.label ∉ touchedBy v := fun h => by simp [h] at ht
      rw [if_neg hunt] at ht
      rcases mem_foldedBook hv hx with ⟨e, he, ha⟩ | ⟨n, hn, slot, rfl⟩
      · have helabel : e.label = c.label := ha.label.symm.trans hlabel
        have heunt : e.label ∉ touchedBy v := helabel ▸ hunt
        obtain ⟨hstate, htarget⟩ := huntouched ht e he (ha.slot.symm.trans hslot) helabel
        exact ⟨(state_other ha heunt).trans hstate, (ha.target heunt).trans htarget⟩
      · exact absurd (List.mem_append_right _ (List.mem_map.mpr ⟨n, hn, hlabel⟩)) hunt

/-! ### The invariant -/

/-- The book is keyed, the closing order list holds its CLOSING entries, and the Engine has its entry. -/
structure BookHolds (s : State) : Prop where
  keyed : KeyedBook s.book
  ordered : Ordered s.book s.closing
  room : RoomUsed s
  carries : Carries s.dialogue s.book

theorem BookHolds.empty {s : State} (hb : s.book = []) (hc : s.closing = []) (hd : s.dialogue = .listening) :
    BookHolds s := by
  refine ⟨?_, ?_, fun _ => hc, ?_⟩
  · rw [hb]
    exact (BookLaw.nil (G := False)).1
  · rw [hb, hc]
    exact ⟨.nil, fun _ h => absurd h List.not_mem_nil, fun _ h => absurd h List.not_mem_nil⟩
  · rw [hb, hd]
    exact fun _ h => absurd h List.not_mem_nil

/-- What the book's laws are about stands, but for the dialogue. -/
theorem BookHolds.talks {s t : State} (h : BookHolds s) (hb : t.book = s.book) (hc : t.closing = s.closing)
    (hr : t.reports = s.reports) (hd : Carries t.dialogue s.book) : BookHolds t := by
  refine ⟨hb ▸ h.keyed, hb ▸ hc ▸ h.ordered, fun ht => hc ▸ h.room ?_, hb ▸ hd⟩
  simpa [State.hasRoom, hr] using ht

/-- A change of one entry that is neither CLOSING nor IN_TRANSFER. -/
theorem BookHolds.edits {P : Entry → Prop} {s t : State} {e : Entry} (h : BookHolds s) (he : e ∈ s.book)
    (ho : e.isOpen = true) (hP : ∀ x, P x → x.isOpen = true) (hkey : KeyedBook t.book)
    (hs : ∀ c, s.dialogue = .standingOff c → c.touched = false → e.slot = c.slot → e.label = c.label → ∀ x, ¬ P x)
    (hed : Edits P e s.book t.book) (hc : t.closing = s.closing) (hd : t.dialogue = s.dialogue)
    (hr : t.hasRoom = true → s.hasRoom = true) : BookHolds t := by
  have notTransfer : ∀ x : Entry, x.isOpen = true → x.state ≠ .inTransfer := by
    intro x hx hst
    simp [Entry.isOpen, hst] at hx
  refine ⟨hkey, hc ▸ h.ordered.edits h.keyed he (isClosing_of_isOpen ho) (fun x hx => isClosing_of_isOpen (hP x hx)) hed,
    fun ht => hc ▸ h.room (hr ht), hd ▸ ?_⟩
  exact h.carries.edits h.keyed he (notTransfer e ho) (fun x hx => notTransfer x (hP x hx)) hs hed

theorem Reckons.isClosing {e x : Entry} (h : Reckons e x) : x.isClosing = e.isClosing := by
  rcases h.state with hs | ⟨ho, _, hxo⟩
  · exact isClosing_of_state hs
  · rw [isClosing_of_isOpen ho, isClosing_of_isOpen hxo]

theorem Reckons.inTransfer {e x : Entry} (h : Reckons e x) : x.state = .inTransfer ↔ e.state = .inTransfer := by
  rcases h.state with hs | ⟨ho, _, hxo⟩
  · rw [hs]
  · constructor <;> intro hst
    · simp [Entry.isOpen, hst] at hxo
    · simp [Entry.isOpen, hst] at ho

/-- An evaluation of every entry keeps what the list and the Engine see. -/
theorem BookHolds.reckons {s : State} (h : BookHolds s) {f : Entry → Entry} (hf : ∀ e, Reckons e (f e)) :
    BookHolds { s with book := s.book.map f } := by
  obtain ⟨hkey, ⟨hnd, hof, hto⟩, hroom, hc⟩ := h
  have notransfer : NoTransfer s.book → NoTransfer (s.book.map f) := by
    intro hno x hx hxi
    obtain ⟨e, he, rfl⟩ := List.mem_map.mp hx
    exact hno e he ((hf e).inTransfer.mp hxi)
  refine ⟨hkey.map (fun e => (hf e).slot) (fun e => (hf e).label), ⟨hnd, fun n hn => ?_, fun x hx hxc => ?_⟩, hroom, ?_⟩
  · obtain ⟨e, he, rfl, hec⟩ := hof n hn
    exact ⟨f e, List.mem_map_of_mem he, (hf e).slot, (hf e).isClosing.trans hec⟩
  · obtain ⟨e, he, rfl⟩ := List.mem_map.mp hx
    exact (hf e).slot ▸ hto e he ((hf e).isClosing.symm.trans hxc)
  · change Carries s.dialogue (s.book.map f)
    cases hd : s.dialogue with
    | listening => exact notransfer (hc.noTransfer (by simp [hd]))
    | tallying n => exact notransfer (hc.noTransfer (by simp [hd]))
    | standingOff c =>
      rw [hd] at hc
      obtain ⟨hno, huntouched⟩ := carries_standingOff.mp hc
      refine carries_standingOff.mpr ⟨notransfer hno, fun ht x hx hslot hlabel => ?_⟩
      obtain ⟨e, he, rfl⟩ := List.mem_map.mp hx
      obtain ⟨hw, htarget⟩ := huntouched ht e he ((hf e).slot.symm.trans hslot) ((hf e).label.symm.trans hlabel)
      refine ⟨?_, (hf e).target.trans htarget⟩
      rcases (hf e).state with hs | ⟨_, hne, _⟩
      · exact hs.trans hw
      · exact absurd hw hne
    | transferring p c =>
      rw [hd] at hc
      obtain ⟨⟨y, hy, hys, hyl, hyt, hyi⟩, huniq⟩ := carries_transferring.mp hc
      refine carries_transferring.mpr ⟨⟨f y, List.mem_map_of_mem hy, (hf y).slot.trans hys, (hf y).label.trans hyl,
        (hf y).target.trans hyt, (hf y).inTransfer.mpr hyi⟩, fun x hx hxi => ?_⟩
      obtain ⟨e, he, rfl⟩ := List.mem_map.mp hx
      exact (hf e).slot.trans (huniq e he ((hf e).inTransfer.mp hxi))

/-- The offer commits the standoff's entry to a transfer (R86). -/
theorem BookHolds.commits {s : State} (h : BookHolds s) {c : TransferContext} {e : Entry}
    (hd : s.dialogue = .standingOff c) (he : commitEntry c s = some e) : BookHolds (commitOffer c e s) := by
  obtain ⟨hmem, hslot, hlabel, hstate, htouched, _⟩ := commitEntry_some he
  obtain ⟨hno, huntouched⟩ := carries_standingOff.mp (hd ▸ h.carries)
  obtain ⟨_, htarget⟩ := huntouched htouched e hmem hslot hlabel
  have hed := Edits.put (P := fun x => x.isClosing = false) (e := e) (b := s.book)
    (n := { e with state := .inTransfer }) rfl rfl rfl
  refine ⟨h.keyed.put hmem rfl rfl, h.ordered.edits h.keyed hmem (isClosing_of_waiting e hstate) (fun _ => id) hed,
    h.room, carries_transferring.mpr ⟨⟨_, mem_putEntry_self hmem rfl, hslot, hlabel, htarget, rfl⟩, fun x hx hxi => ?_⟩⟩
  rcases mem_putEntry hx with ⟨rfl, _⟩ | ⟨hx, _⟩
  · exact hslot
  · exact absurd hxi (hno x hx)

/-- A transfer that has ended at the book, with the Engine in LISTENING. -/
theorem BookHolds.outcome {s u : State} (h : BookHolds s) {p : Phase} {c : TransferContext}
    (hd : s.dialogue = .transferring p c) (hu : Outcome c.slot s u) (b : Nat) :
    BookHolds (toListening { u with budget := b }) := by
  obtain ⟨hno, hord, hroom⟩ := hu.keeps h.keyed h.ordered h.room (hd ▸ h.carries)
  exact ⟨(hu.bookLaw (G := False) ⟨h.keyed, False.elim⟩).1, hord, hroom, hno⟩

theorem Op.bookHolds {s t : State} (h : Op True True L s t) (hs : BookHolds s) : BookHolds t := by
  have hkey : KeyedBook t.book := (h.bookLaw (G := False) False.elim ⟨hs.keyed, False.elim⟩).1
  cases h with
  | news h =>
    have h : Tells _ _ := .single h
    obtain ⟨_, _, _, _, _, _, _, _, rfl⟩ := id h.changes
    exact ⟨hkey, h.book_eq.symm ▸ h.closing_eq.symm ▸ hs.ordered, h.roomUsed hs.room, h.book_eq.symm ▸ hs.carries⟩
  | reckons f hf => exact hs.reckons hf
  | fits e n he hn hd =>
    obtain ⟨hmem, ho⟩ := he trivial
    refine hs.edits (P := fun x => x.isOpen = true) hmem ho (fun _ => id) hkey (fun c hc ht _ hlabel => ?_)
      (.put hn.slot hn.label hn.isOpen) rfl rfl id
    rcases hd c hc with h | h
    · exact absurd (h.symm.trans ht) (by simp)
    · exact absurd hlabel.symm h
  | withdraws e he ho =>
    exact hs.edits (P := fun _ => False) he ho (fun _ => False.elim) hkey (fun _ _ _ _ _ _ => id) .free rfl rfl id
  | confirms e he ho hd h =>
    obtain ⟨hed, hord, hroom⟩ := h.keeps hs.keyed he (isClosing_of_isOpen ho) hs.ordered hs.room
    have hdial : t.dialogue = s.dialogue := by
      obtain ⟨_, _, _, _, _, _, _, _, rfl⟩ := h.changes
      rfl
    refine ⟨hkey, hord, hroom, hdial ▸ hs.carries.edits hs.keyed he ?_ (fun _ => id)
      (fun c hc => absurd hc (hd c)) hed⟩
    intro hst
    simp [Entry.isOpen, hst] at ho
  | drains k h hroom =>
    have hdial : t.dialogue = s.dialogue := by
      obtain ⟨_, _, _, _, _, _, _, _, rfl⟩ := drains_changes h
      rfl
    obtain ⟨_, hord, hc⟩ := drains_keep (d := s.dialogue) h hs.keyed hs.ordered hs.carries
    exact ⟨hkey, hord, hroom, hdial ▸ hc⟩
  | folds g v hg hv hroom =>
    have hview : ViewHolds False s.book v := checkPass_holds hs.keyed (.start False s) (fun _ _ => False.elim) hv
    obtain ⟨hord, hc⟩ := fold_keeps (g := g) hview hs.ordered hs.carries
    exact ⟨hkey, hord, hs.room, hc⟩
  | standsDown =>
    refine hs.talks rfl rfl rfl ?_
    have hc := hs.carries
    change Carries (heardDialogue s.dialogue) s.book
    revert hc
    cases s.dialogue with
    | standingOff c => exact fun hc => (carries_standingOff.mp hc).1
    | listening | transferring | tallying => exact id
  | meets w' hd hw => exact hs.talks rfl rfl rfl ((hd ▸ hs.carries).phase rfl rfl rfl)
  | standsOff c e hd ho hc he hw hlabel htarget hface hf hr hwait hdelay hslot =>
    refine hs.talks rfl rfl rfl (carries_standingOff.mpr ⟨hs.carries.noTransfer (by simp [hd]), fun _ x hx hxs _ => ?_⟩)
    rw [hs.keyed.slot_inj hx he (hxs.trans hslot)]
    exact ⟨hw, htarget.symm⟩
  | commits c e hd he => exact hs.commits hd he
  | offers hd hx => exact hs.talks rfl rfl rfl ((hd ▸ hs.carries).phase rfl rfl rfl)
  | firstFragment hd hx => exact hs.talks rfl rfl rfl ((hd ▸ hs.carries).phase rfl rfl rfl)
  | nextFragment hd h => exact hs.talks rfl rfl rfl ((hd ▸ hs.carries).phase rfl rfl rfl)
  | resends hd h => exact hs.talks rfl rfl rfl ((hd ▸ hs.carries).phase rfl rfl rfl)
  | fragments hd => exact hs.talks rfl rfl rfl ((hd ▸ hs.carries).phase rfl rfl rfl)
  | awaitsDone hd h => exact hs.talks rfl rfl rfl ((hd ▸ hs.carries).phase rfl rfl rfl)
  | ends b hd hu hb => exact hs.outcome hd hu b
  | beginsTally n b x hq hQ hn hlen hb => exact hs.talks rfl rfl rfl (hs.carries.noTransfer (by simp [hQ trivial]))
  | endsTally hd => exact hs.talks rfl rfl rfl (hd ▸ hs.carries)
  | halts ho hd => exact hs.talks rfl rfl rfl (hs.carries.noTransfer hd)
  | cutsOff x n b ho hd hu hb =>
    have hu := BookHolds.outcome (s := { s with opState := .halted, transmitting := x, choices := n })
      (hs.talks rfl rfl rfl hs.carries) hd hu b
    exact hu.talks rfl rfl rfl hu.carries
  | coldStart => exact .empty rfl rfl rfl
  | lineReset hL h => cases h; exact .empty rfl rfl rfl
  | tallies p =>
    unfold joinTally
    split <;> exact hs.talks rfl rfl rfl hs.carries
  | _ => exact hs.talks rfl rfl rfl hs.carries

/-- Settles O58: each operation keeps the order of the list and the Engine's entry; that no quiet wait runs outside
LISTENING keeps a TALLY from beginning in a transfer. -/
theorem stepKeepsClosingAndTransfer : Obligations.StepKeepsClosingAndTransfer := by
  unfold Obligations.StepKeepsClosingAndTransfer
  intro s t hkey hclosing htransfer hquiet h
  obtain ⟨hnd, hof, hto, hroom⟩ := hclosing
  obtain ⟨rest, hops⟩ := step_ops (K := True) (Q := True) (fun _ => hkey) (fun _ => hquiet) h
  obtain ⟨_, ⟨hnd', hof', hto'⟩, hroom', hcarries⟩ :=
    hops.keeps (P := BookHolds) Op.bookHolds ⟨hkey, ⟨hnd, hof, hto⟩, hroom, carries_iff.mpr htransfer⟩
  exact ⟨⟨hnd', hof', hto', hroom'⟩, carries_iff.mp hcarries⟩

end Sys2Proof.Machine
end


section
/-! The Engine's state, its context and what is on the air. -/

namespace Sys2Proof.Machine

variable {K Q L : Prop}

/-- The law of the Engine, of what it is about: the dialogue, what is on the air, the carriers and the tally list. -/
def Engaged (d : Dialogue) (x : Option AirFrame) (carriers : Nat) (tally : List (LabelAddr × Version)) : Prop :=
  EngineAgrees { State.reset with dialogue := d, transmitting := x, carriers := carriers, tally := tally }

theorem engaged_iff {s : State} : Engaged s.dialogue s.transmitting s.carriers s.tally ↔ EngineAgrees s := Iff.rfl

section
variable {x : Option AirFrame} {n : Nat} {tally : List (LabelAddr × Version)}

theorem engaged_listening : Engaged .listening x n tally ↔ x = none := Iff.rfl

theorem engaged_standingOff {c : TransferContext} : Engaged (.standingOff c) x n tally ↔
    x = none ∧ n = 0 ∧ c.face.length ≤ 27 ∧ c.fragment = 1 ∧ c.resends = 0 ∧ c.wait = none ∧ c.delayUs ≤ 7500 :=
  Iff.rfl

theorem engaged_transferring {p : Phase} {c : TransferContext} :
    Engaged (.transferring p c) x n tally ↔ ContextFits p c x.isSome := Iff.rfl

theorem engaged_tallying {k : Nat} :
    Engaged (.tallying k) x n tally ↔ x.isSome = true ∧ k ≤ 16 ∧ k ≤ tally.length := Iff.rfl
end

/-! ### The law of a context, phase by phase -/

theorem fits_awaitReady {c : TransferContext} {b : Bool} : ContextFits .awaitReady c b ↔
    c.face.length ≤ 27 ∧ 1 ≤ c.fragment ∧ c.fragment ≤ fragmentCount c.face ∧ c.resends ≤ 2 ∧
      c.wait.isNone = b ∧ c.covered = (if b then 0 else offerAirtime) := Iff.rfl

/-- The fragments before the one being sent, which is counted with them in a re-send (R89). -/
theorem fits_sending {r b : Bool} {c : TransferContext} : ContextFits (.sending r) c b ↔
    c.face.length ≤ 27 ∧ 1 ≤ c.fragment ∧ c.fragment ≤ fragmentCount c.face ∧ c.resends ≤ 2 ∧
      b = true ∧ c.wait = none ∧
      c.covered = offerAirtime + fragmentsBefore c.face (if r then c.fragment + 1 else c.fragment) := by
  cases r <;> exact Iff.rfl

theorem fits_awaitAck {c : TransferContext} {b : Bool} : ContextFits .awaitAck c b ↔
    c.face.length ≤ 27 ∧ 1 ≤ c.fragment ∧ c.fragment ≤ fragmentCount c.face ∧ c.resends ≤ 2 ∧
      b = false ∧ c.wait.isSome = true ∧ c.covered = offerAirtime + fragmentsBefore c.face (c.fragment + 1) := Iff.rfl

theorem fits_awaitDone {c : TransferContext} {b : Bool} : ContextFits .awaitDone c b ↔
    c.face.length ≤ 27 ∧ 1 ≤ c.fragment ∧ c.fragment ≤ fragmentCount c.face ∧ c.resends ≤ 2 ∧
      b = false ∧ c.wait.isSome = true ∧ c.fragment = fragmentCount c.face ∧
      c.covered = offerAirtime + fragmentsBefore c.face (c.fragment + 1) := Iff.rfl

theorem fragmentCount_pos (face : List Byte) : 1 ≤ fragmentCount face := Nat.le_max_left _ _

theorem fragmentsBefore_one (face : List Byte) : fragmentsBefore face 1 = 0 := rfl

/-- A fragment sent whole is one more before the next. -/
theorem fragmentsBefore_succ {c : TransferContext} (h : 1 ≤ c.fragment) :
    fragmentsBefore c.face (c.fragment + 1) = fragmentsBefore c.face c.fragment + c.fragmentTime := by
  obtain ⟨k, hk⟩ : ∃ k, c.fragment = k + 1 := ⟨c.fragment - 1, by omega⟩
  simp [fragmentsBefore, TransferContext.fragmentTime, hk, List.range_succ]

/-! ### The invariant -/

/-- Nothing that the Engine's law is about has changed. -/
theorem EngineAgrees.same {s t : State} (h : EngineAgrees s) (hd : t.dialogue = s.dialogue)
    (hx : t.transmitting = s.transmitting) (hc : t.carriers = s.carriers) (ht : t.tally = s.tally) :
    EngineAgrees t := by
  rw [← engaged_iff] at h ⊢
  rwa [hd, hx, hc, ht]

theorem EngineAgrees.book {s t : State} (h : EngineAgrees s) (ht : BookChanges s t) : EngineAgrees t := by
  obtain ⟨_, _, _, _, _, _, _, _, rfl⟩ := ht
  exact h.same rfl rfl rfl rfl

/-- A carrier's count does not matter outside a standoff. -/
theorem EngineAgrees.carried {s : State} (h : EngineAgrees s) {n : Nat}
    (hn : n ≤ s.carriers ∨ ∀ c, s.dialogue ≠ .standingOff c) : EngineAgrees { s with carriers := n } := by
  rw [← engaged_iff] at h ⊢
  cases hd : s.dialogue with
  | listening | transferring | tallying => rw [hd] at h; exact h
  | standingOff c =>
    rw [hd] at h
    obtain ⟨hx, hc, hrest⟩ := engaged_standingOff.mp h
    rcases hn with hn | hn
    · exact engaged_standingOff.mpr ⟨hx, Nat.le_zero.mp (hc ▸ hn), hrest⟩
    · exact absurd hd (hn c)

/-- A longer tally list, or one of at least 16 pairs, still holds the pairs on the air. -/
theorem EngineAgrees.tallied {s : State} (h : EngineAgrees s) {l : List (LabelAddr × Version)}
    (hl : s.tally.length ≤ l.length ∨ 16 ≤ l.length) : EngineAgrees { s with tally := l } := by
  rw [← engaged_iff] at h ⊢
  cases hd : s.dialogue with
  | listening | standingOff | transferring => rw [hd] at h; exact h
  | tallying n =>
    rw [hd] at h
    obtain ⟨hx, hn, hlen⟩ := engaged_tallying.mp h
    exact engaged_tallying.mpr ⟨hx, hn, show n ≤ l.length by omega⟩

theorem joinTally_agrees {s : State} (h : EngineAgrees s) (p : LabelAddr × Version) :
    EngineAgrees (joinTally p s) := by
  unfold joinTally
  split
  · exact h
  · refine h.tallied ?_
    split
    · exact .inl (by simp)
    · refine .inr ?_
      simp only [List.length_append, List.length_drop, List.length_singleton]
      omega

theorem EngineAgrees.standsDown {s : State} (h : EngineAgrees s) :
    EngineAgrees { s with dialogue := heardDialogue s.dialogue } := by
  rw [← engaged_iff] at h ⊢
  change Engaged (heardDialogue s.dialogue) s.transmitting s.carriers s.tally
  revert h
  cases s.dialogue with
  | listening | transferring | tallying => exact id
  | standingOff c => exact fun h => (engaged_standingOff.mp h).1

theorem EngineAgrees.marked {s : State} (h : EngineAgrees s) (ls : List LabelAddr) :
    EngineAgrees { s with dialogue := markTouched ls s.dialogue } := by
  rw [← engaged_iff] at h ⊢
  change Engaged (markTouched ls s.dialogue) s.transmitting s.carriers s.tally
  revert h
  cases s.dialogue with
  | listening | transferring | tallying => exact id
  | standingOff c =>
    intro h
    unfold markTouched
    dsimp only
    split <;> exact h

theorem EngineAgrees.of_listening {s : State} (hd : s.dialogue = .listening) (hx : s.transmitting = none) :
    EngineAgrees s := by
  rw [← engaged_iff, hd]
  exact engaged_listening.mpr hx

theorem toListening_agrees (s : State) : EngineAgrees (toListening s) := .of_listening rfl rfl

theorem EngineAgrees.of_transferring {s : State} {p : Phase} {c : TransferContext} (h : EngineAgrees s)
    (hd : s.dialogue = .transferring p c) : ContextFits p c s.transmitting.isSome := by
  rw [← engaged_iff, hd] at h
  exact h

theorem Op.engineAgrees {s t : State} (h : Op K True L s t) (hs : EngineAgrees s) : EngineAgrees t := by
  cases h with
  | news h => exact hs.book (Tells.changes (.single h))
  | confirms e he ho hd h => exact hs.book h.changes
  | drains k h _ => exact hs.book (drains_changes h)
  | folds g v hg hv hroom => exact (hs.marked (touchedBy v)).same rfl rfl rfl rfl
  | tallies p => exact joinTally_agrees hs p
  | standsDown => exact hs.standsDown
  | senses n h => exact hs.carried h
  | @meets p c w w' hd hw =>
    have hfits := hs.of_transferring hd
    refine engaged_iff.mp (engaged_transferring.mpr ?_)
    cases p with
    | awaitReady =>
      obtain ⟨h1, h2, h3, h4, h5, h6⟩ := fits_awaitReady.mp hfits
      exact fits_awaitReady.mpr ⟨h1, h2, h3, h4, by simpa [hw] using h5, h6⟩
    | sending r =>
      obtain ⟨_, _, _, _, _, hnone, _⟩ := fits_sending.mp hfits
      cases hw.symm.trans hnone
    | awaitAck =>
      obtain ⟨h1, h2, h3, h4, h5, _, h7⟩ := fits_awaitAck.mp hfits
      exact fits_awaitAck.mpr ⟨h1, h2, h3, h4, h5, rfl, h7⟩
    | awaitDone =>
      obtain ⟨h1, h2, h3, h4, h5, _, h7⟩ := fits_awaitDone.mp hfits
      exact fits_awaitDone.mpr ⟨h1, h2, h3, h4, h5, rfl, h7⟩
  | standsOff c e hd ho hc he hw hlabel htarget hface hf hr hwait hdelay hslot =>
    rw [← engaged_iff, hd] at hs
    exact engaged_iff.mp (engaged_standingOff.mpr ⟨engaged_listening.mp hs, hc, hface, hf, hr, hwait, hdelay⟩)
  | commits c e hd he =>
    rw [← engaged_iff, hd] at hs
    obtain ⟨_, _, hface, hf, hr, hwait, _⟩ := engaged_standingOff.mp hs
    refine engaged_iff.mp (engaged_transferring.mpr (fits_awaitReady.mpr
      ⟨hface, Nat.le_of_eq hf.symm, hf ▸ fragmentCount_pos _, hr ▸ Nat.zero_le 2, ?_, rfl⟩))
    simp [hwait, commitOffer, beginSending]
  | offers hd hx =>
    obtain ⟨h1, h2, h3, h4, _, h6⟩ := fits_awaitReady.mp (hs.of_transferring hd)
    refine engaged_iff.mp (engaged_transferring.mpr (fits_awaitReady.mpr ⟨h1, h2, h3, h4, rfl, ?_⟩))
    simp [h6, hx]
  | firstFragment hd hx =>
    obtain ⟨h1, _, _, h4, _, h6⟩ := fits_awaitReady.mp (hs.of_transferring hd)
    refine engaged_iff.mp (engaged_transferring.mpr (fits_sending.mpr
      ⟨h1, Nat.le_refl 1, fragmentCount_pos _, h4, rfl, rfl, ?_⟩))
    simpa [hx, fragmentsBefore_one] using h6
  | nextFragment hd h =>
    obtain ⟨h1, _, _, h4, _, _, h7⟩ := fits_awaitAck.mp (hs.of_transferring hd)
    exact engaged_iff.mp (engaged_transferring.mpr (fits_sending.mpr
      ⟨h1, Nat.le_add_left 1 _, h, h4, rfl, rfl, h7⟩))
  | resends hd h =>
    obtain ⟨h1, h2, h3, _, _, _, h7⟩ := fits_awaitAck.mp (hs.of_transferring hd)
    exact engaged_iff.mp (engaged_transferring.mpr (fits_sending.mpr ⟨h1, h2, h3, h, rfl, rfl, h7⟩))
  | @fragments r c hd =>
    obtain ⟨h1, h2, h3, h4, _, _, h7⟩ := fits_sending.mp (hs.of_transferring hd)
    refine engaged_iff.mp (engaged_transferring.mpr (fits_awaitAck.mpr ⟨h1, h2, h3, ?_, rfl, rfl, ?_⟩))
    · cases r
      · exact Nat.zero_le 2
      · exact h4
    · cases r
      · simp only [Bool.false_eq_true, if_false] at h7 ⊢
        rw [h7, fragmentsBefore_succ h2, Nat.add_assoc]
      · simpa using h7
  | awaitsDone hd h =>
    obtain ⟨h1, h2, h3, h4, h5, _, h7⟩ := fits_awaitAck.mp (hs.of_transferring hd)
    exact engaged_iff.mp (engaged_transferring.mpr (fits_awaitDone.mpr
      ⟨h1, h2, h3, h4, h5, rfl, Nat.le_antisymm h3 (Nat.le_of_not_lt h), h7⟩))
  | ends b hd hu hb => exact toListening_agrees _
  | beginsTally n b x hq hQ hn hlen hb => exact engaged_iff.mp (engaged_tallying.mpr ⟨rfl, hn, hlen⟩)
  | endsTally hd => exact toListening_agrees _
  | halts ho hd => exact (toListening_agrees s).same rfl rfl rfl rfl
  | @cutsOff p c u x n b ho hd hu hb => exact (toListening_agrees { u with budget := b }).same rfl rfl rfl rfl
  | coldStart => exact .of_listening rfl rfl
  | lineReset hL h => cases h; exact .of_listening rfl rfl
  | _ => exact hs.same rfl rfl rfl rfl

end Sys2Proof.Machine
end


section
/-! The end of every command: no halt is left over, and the quiet wait follows R117. -/

namespace Sys2Proof.Machine

/-- `t` leaves over no halt, and its quiet wait follows, where these hold of `s`. -/
structure Rests (s t : State) : Prop where
  halt : s.halt = false → t.halt = false
  quiet : EngineAgrees s → QuietWaitFollows s → QuietWaitFollows t

theorem settleQuiet_follows (s : State) : QuietWaitFollows (settleQuiet s) := rfl

/-- A command that ends by taking its halt rests. -/
theorem Rests.settle {s : State} (u : State) : Rests s (settle u) :=
  ⟨fun _ => settle_halt u, fun _ _ => settleQuiet_follows (takeHalt u)⟩

/-- A command that raises no halt and lets the quiet wait follow rests. -/
theorem Rests.settleQuiet {s u : State} (h : u.halt = s.halt) : Rests s (settleQuiet u) :=
  ⟨h.trans, fun _ _ => settleQuiet_follows u⟩

/-- A command rests that touches nothing the halt and the quiet wait are about. -/
theorem Rests.of_same {s t : State} (hh : t.halt = s.halt) (hq : t.quietWait = s.quietWait)
    (ha : quietAfter t = quietAfter s) : Rests s t :=
  ⟨hh.trans, fun _ h => hq.trans (h.trans ha.symm)⟩

theorem Rests.refl (s : State) : Rests s s := .of_same rfl rfl rfl

/-- A command that leaves the Engine in no state for a quiet wait, as it was before it, rests. -/
theorem Rests.of_quiet {s t : State} (hh : s.halt = false → t.halt = false) (hq : t.quietWait = s.quietWait)
    (hs : EngineAgrees s → quietAfter s = none) (ht : EngineAgrees s → quietAfter t = none) : Rests s t :=
  ⟨hh, fun he h => (hq.trans (h.trans (hs he))).trans (ht he).symm⟩

/-! ### Requests -/

theorem gathererRefuses_rests {s : State} (d : Detail) (l : LabelAddr) (b : Byte) (g : GroupNo) (u : State) :
    Rests s (gathererRefuses d l b g u).1 := .settle _

theorem openGroupAct_rests (n : GroupNo) (time : StoreTime) (cls : Byte) (s : State) :
    Rests s (openGroupAct n time cls s).1 := by
  unfold openGroupAct
  split
  · exact gathererRefuses_rests ..
  · split
    · split
      · exact gathererRefuses_rests ..
      · exact .of_same rfl rfl rfl
    · exact gathererRefuses_rests ..

theorem recordAct_rests (body : List Byte) (s : State) : Rests s (recordAct body s).1 := by
  unfold recordAct
  split
  · exact gathererRefuses_rests ..
  · split
    · exact gathererRefuses_rests ..
    · split
      · exact gathererRefuses_rests ..
      · exact .of_same rfl rfl rfl

theorem foldGroup_rests (g : OpenGroup) (s : State) : Rests s (foldGroup g s).1 := by
  unfold foldGroup
  split
  · exact gathererRefuses_rests ..
  · exact gathererRefuses_rests ..
  · exact .of_same rfl rfl rfl
  · split
    · exact .settle _
    · exact gathererRefuses_rests ..

theorem closeGroupAct_rests (n : GroupNo) (count : BitVec 16) (s : State) :
    Rests s (closeGroupAct n count s).1 := by
  unfold closeGroupAct
  split
  · exact gathererRefuses_rests ..
  · split
    · exact gathererRefuses_rests ..
    · split
      · exact gathererRefuses_rests ..
      · exact foldGroup_rests ..

theorem abortGroupAct_rests (s : State) : Rests s (abortGroupAct s).1 := by
  unfold abortGroupAct
  split
  · exact .of_same rfl rfl rfl
  · exact .refl s

theorem moveTo_rests (o : OpState) (s : State) : Rests s (moveTo o s).1 := .settleQuiet rfl

theorem startAct_rests (s : State) : Rests s (startAct s).1 := by
  unfold startAct
  split
  · exact .refl s
  split
  · exact .refl s
  split
  · exact .refl s
  · exact moveTo_rests .run s

theorem pauseAct_rests (s : State) : Rests s (pauseAct s).1 := by
  unfold pauseAct
  split
  · exact moveTo_rests .paused s
  · exact .refl s

theorem resumeAct_rests (s : State) : Rests s (resumeAct s).1 := by
  unfold resumeAct
  split
  · exact moveTo_rests .run s
  · exact .refl s

theorem stopAct_rests (s : State) : Rests s (stopAct s).1 := by
  unfold stopAct
  split
  · exact moveTo_rests .idle s
  · exact .refl s

/-- HALTED becomes IDLE, and no quiet wait runs in either. -/
theorem clearFaultsAct_rests (s : State) : Rests s (clearFaultsAct s).1 := by
  by_cases h : s.opState = .halted
  · have hnone : quietAfter s = none := quietAfter_of_opState (by simp [h]) (by simp [h])
    have hidle : (clearFaultsAct s).1.opState = .idle := if_pos h
    exact .of_quiet id rfl (fun _ => hnone) fun _ => quietAfter_of_opState (by simp [hidle]) (by simp [hidle])
  · have hsame : (clearFaultsAct s).1 = { s with latched := noKinds, firstFault := none } := by
      simp [clearFaultsAct, h]
    rw [hsame]
    exact .of_same rfl rfl rfl

theorem withdrawAct_rests (l : LabelAddr) (s : State) : Rests s (withdrawAct l s).1 := by
  unfold withdrawAct
  split
  · exact .refl s
  · split
    · exact .refl s
    · exact .refl s
    all_goals
      split
      · exact .of_same rfl rfl rfl
      · exact .refl s

theorem requestAct_rests (i : Instr) (s : State) : Rests s (requestAct i s).1 := by
  cases i with
  | setTime v => exact .settle _
  | openGroup n time cls => exact openGroupAct_rests n time cls s
  | record body => exact recordAct_rests body s
  | closeGroup n count => exact closeGroupAct_rests n count s
  | abortGroup => exact abortGroupAct_rests s
  | start => exact startAct_rests s
  | pause => exact pauseAct_rests s
  | resume => exact resumeAct_rests s
  | stop => exact stopAct_rests s
  | clearFaults => exact clearFaultsAct_rests s
  | takeReports n => exact .settle _
  | readEntry selector address =>
    change Rests s (readEntryAct selector address s).1
    rw [readEntryAct_fst]
    exact .refl s
  | withdraw l => exact withdrawAct_rests l s
  | setAttention | resetPort => exact .of_same rfl rfl rfl
  | _ => exact .refl s

/-- The link does not matter to the halt and the quiet wait. -/
theorem Rests.linked {s t u : State} (h : Rests s t) (hh : u.halt = t.halt) (hq : u.quietWait = t.quietWait)
    (ha : quietAfter u = quietAfter t) : Rests s u :=
  ⟨fun hs => hh.trans (h.halt hs), fun he hs => hq.trans ((h.quiet he hs).trans ha.symm)⟩

/-- What a request does from a state that differs in the link alone. -/
theorem Rests.from {s t u : State} (h : Rests t u) (hh : t.halt = s.halt) (hq : t.quietWait = s.quietWait)
    (ha : quietAfter t = quietAfter s) (he : EngineAgrees s → EngineAgrees t) : Rests s u :=
  ⟨fun hs => h.halt (hh.trans hs), fun hes hs => h.quiet (he hes) (hq.trans (hs.trans ha.symm))⟩

theorem serve_rests (f : LinkFrame) (i : Instr) (s : State) : Rests s (serve f (requestAct i) s) := by
  unfold serve
  dsimp only
  split
  · exact .of_same rfl rfl rfl
  · have h : Rests s (requestAct i { s with holding := f :: s.holding.tail }).1 :=
      (requestAct_rests i { s with holding := f :: s.holding.tail }).from rfl rfl rfl id
    exact h.linked rfl rfl rfl

theorem takeFrame_rests (f : LinkFrame) (s : State) : Rests s (takeFrame f s) := by
  unfold takeFrame
  split
  · exact .of_same rfl rfl rfl
  split
  · exact .of_same rfl rfl rfl
  split
  next => exact .of_same rfl rfl rfl
  next => exact .of_same rfl rfl rfl
  next i _ => exact (requestAct_rests i s).linked rfl rfl rfl

theorem offerFrameToHolding_rests (f : LinkFrame) (s : State) : Rests s (offerFrameToHolding f s) := by
  unfold offerFrameToHolding
  split
  · split
    · exact .refl s
    · exact .of_same rfl rfl rfl
  · dsimp only
    split
    · exact (takeFrame_rests f { s with holding := s.holding ++ [f] }).from rfl rfl rfl id
    · exact .of_same rfl rfl rfl

theorem receiveByte_rests (b : Byte) (stopBit : Bool) (s : State) : Rests s (receiveByte b stopBit s) := by
  unfold receiveByte
  split
  · split
    · exact .of_same rfl rfl rfl
    · exact .refl s
  · dsimp only
    split
    · exact .of_same rfl rfl rfl
    · exact (offerFrameToHolding_rests _ { s with receiver := .hunting }).from rfl rfl rfl id

theorem responseEnds_rests (r : Response) (s : State) : Rests s (responseEnds r s) := by
  unfold responseEnds
  dsimp only
  split
  · exact .of_same rfl rfl rfl
  · unfold overrunIfOwed
    split
    · split <;> exact .of_same rfl rfl rfl
    · exact .of_same rfl rfl rfl

/-! ### The autoload -/

/-- In STARTING and at an autoload's end no quiet wait runs. -/
theorem endAutoload_rests {s u : State} (hs : s.opState = .starting) (hh : u.halt = s.halt)
    (hq : u.quietWait = s.quietWait) (c : StationConfig) : Rests s (endAutoload c u) := by
  have hend : (endAutoload c u).opState = .idle ∨ (endAutoload c u).opState = .halted :=
    (endAutoload_fields c u).2.2.2.2.2.2
  refine .of_quiet hh.trans hq (fun _ => quietAfter_of_opState (by simp [hs]) (by simp [hs])) fun _ => ?_
  rcases hend with h | h <;> exact quietAfter_of_opState (by simp [h]) (by simp [h])

/-- In STARTING a fault hands on no halt (R141). -/
theorem latchConfig_halt {s : State} (hs : s.opState = .starting) (d : Detail) (k : Nat) :
    (latchConfig d k s).halt = s.halt := by simp [latchConfig, latch, hs]

theorem afterGroup_rests {s u : State} (hs : s.opState = .starting) (hu : u.opState = .starting)
    (hh : u.halt = s.halt) (hq : u.quietWait = s.quietWait) (k count : Nat) (p : StationConfig) :
    Rests s (afterGroup k count p u) := by
  unfold afterGroup
  split
  · exact .of_quiet hh.trans hq (fun _ => quietAfter_of_opState (by simp [hs]) (by simp [hs]))
      fun _ => quietAfter_of_opState (by simp [hu]) (by simp [hu])
  · exact endAutoload_rests hs hh hq p

/-! ### The air -/

/-- A frame is lost while the station sends, when no quiet wait runs, or in STARTING. -/
theorem frameLost_rests {s : State} (h : s.canHear = false) : Rests s (frameLost s) := by
  unfold frameLost
  split
  · exact .refl s
  next hs =>
    have hx : s.transmitting ≠ none := by
      intro hx
      simp [State.canHear, hs, hx] at h
    have hbusy : EngineAgrees s → s.dialogue ≠ .listening := by
      intro he hd
      rw [← engaged_iff, hd] at he
      exact hx (engaged_listening.mp he)
    exact .of_quiet id rfl (fun he => quietAfter_of_not_listening (hbusy he))
      fun he => quietAfter_of_not_listening (hbusy he)

theorem frameEnds_rests (f : AirFrame) (rssi : Int) (s : State) : Rests s (frameEnds f rssi s) := by
  unfold frameEnds
  split
  · exact .settle _
  next h => exact frameLost_rests (by simpa using h)

theorem bytesEnd_rests (bytes : List Byte) (rssi : Int) (s : State) : Rests s (bytesEnd bytes rssi s) := by
  unfold bytesEnd
  split
  · exact frameEnds_rests ..
  · split
    · exact .settle _
    next h => exact frameLost_rests (by simpa using h)

/-- Outside LISTENING before and after, no quiet wait runs. -/
theorem Rests.busy {s t : State} (hh : t.halt = s.halt) (hq : t.quietWait = s.quietWait)
    (hs : s.dialogue ≠ .listening) (ht : t.dialogue ≠ .listening) : Rests s t :=
  .of_quiet hh.trans hq (fun _ => quietAfter_of_not_listening hs) fun _ => quietAfter_of_not_listening ht

theorem execFrameStart_rests {s t : State} (h : execFrameStart s = .next t) : Rests s t := by
  unfold execFrameStart at h
  split at h
  · cases h
    unfold meetWait
    split
    next hd => exact .busy rfl rfl (by simp [hd]) (by simp)
    next => exact .of_same rfl rfl rfl
  · cases h
    exact .refl s

theorem standDown_halt (s : State) : (standDown s).halt = s.halt := by
  unfold standDown
  split <;> rfl

theorem standoffEnds_halt (c : TransferContext) (s : State) : (standoffEnds c s).halt = s.halt := by
  unfold standoffEnds
  split <;> rfl

theorem quietWaitEnds_rests (s : State) : Rests s (quietWaitEnds s) := by
  unfold quietWaitEnds
  dsimp only
  split
  · exact ⟨id, fun _ _ => (quietAfter_of_not_listening (s := beginSending _ _) (by simp [beginSending])).symm⟩
  · exact .refl s

/-! ### Every command -/

/-- Every command leaves over no halt and lets the quiet wait follow. -/
theorem exec_rests {s t : State} (ha : AutoloadInStarting s) (i : Instr) (h : exec i s = .next t) : Rests s t := by
  have starting : ∀ {a : Autoload}, s.autoload = some a → s.opState = .starting := fun h => ha.1 (by simp [h])
  have same : ∀ {u v : State}, (Host.Outcome.next u : Host.Outcome State Fault Refusal) = .next v →
      u.halt = s.halt → u.quietWait = s.quietWait → quietAfter u = quietAfter s → Rests s v := by
    intro u v huv hh hq hqa
    cases huv
    exact .of_same hh hq hqa
  cases hf : requestFrame i with
  | some f =>
    rw [exec_of_request hf] at h
    cases h
    exact serve_rests f i s
  | none =>
    cases i with
    | coldStart => cases h; exact ⟨fun _ => rfl, fun _ _ => rfl⟩
    | lineReset => cases h; exact ⟨fun _ => rfl, fun _ _ => (quietAfter_of_opState (by simp) (by simp)).symm⟩
    | lineResetRelease =>
      change execLineResetRelease s = _ at h
      unfold execLineResetRelease at h
      split at h <;> exact same h rfl rfl rfl
    | headerRead signature count =>
      change execHeaderRead signature count s = _ at h
      unfold execHeaderRead at h
      split at h
      next hauto =>
        have hs := starting hauto
        split at h
        · exact same h rfl rfl rfl
        · cases h
          exact endAutoload_rests hs (latchConfig_halt hs ..) rfl _
      next => exact same h rfl rfl rfl
    | groupRead length contents sumCheck =>
      change execGroupRead length contents sumCheck s = _ at h
      unfold execGroupRead at h
      split at h
      next hauto =>
        have hs := starting hauto
        split at h
        · split at h
          · cases h
            exact afterGroup_rests hs hs rfl rfl ..
          · cases h
            exact afterGroup_rests (u := latchConfig _ _ s) hs hs (latchConfig_halt hs ..) rfl ..
        · cases h
          exact endAutoload_rests hs (latchConfig_halt hs ..) rfl _
      next => exact same h rfl rfl rfl
    | configReadTimeout =>
      change execConfigReadTimeout s = _ at h
      unfold execConfigReadTimeout at h
      split at h
      next hauto =>
        have hs := starting hauto
        cases h
        exact endAutoload_rests hs (latchConfig_halt hs ..) rfl _
      next => exact same h rfl rfl rfl
    | clockSecond =>
      change execClockSecond s = _ at h
      unfold execClockSecond at h
      dsimp only at h
      split at h
      · exact same h rfl rfl rfl
      · cases h
        exact .settle _
    | yieldEnd => exact same h rfl rfl rfl
    | groupIdleTimeout =>
      change execGroupIdleTimeout s = _ at h
      unfold execGroupIdleTimeout at h
      split at h
      · cases h
        exact .settle _
      · exact same h rfl rfl rfl
    | tallyPeriodEnd => cases h; exact .settleQuiet rfl
    | batchFrameEnd frame =>
      cases h
      exact (offerFrameToHolding_rests frame { s with receiver := .hunting }).from rfl rfl rfl id
    | linkLoss => exact same h rfl rfl rfl
    | responseSent =>
      change execResponseSent s = _ at h
      unfold execResponseSent at h
      split at h
      · cases h
        exact responseEnds_rests _ s
      · exact same h rfl rfl rfl
    | heldFrameTaken =>
      change execHeldFrameTaken s = _ at h
      unfold execHeldFrameTaken at h
      split at h
      · cases h
        exact takeFrame_rests _ s
      · exact same h rfl rfl rfl
    | closingListDrain => cases h; exact .settle _
    | batchByteReceived byte stopBit => cases h; exact receiveByte_rests byte stopBit s
    | airFrameDiscarded bytes rssi => cases h; exact bytesEnd_rests bytes rssi s
    | frameStart => exact execFrameStart_rests h
    | carrierSensed =>
      change execCarrierSensed s = _ at h
      unfold execCarrierSensed at h
      split at h
      · exact same h rfl rfl rfl
      · cases h
        exact .settleQuiet (standDown_halt s)
    | carrierEnd =>
      change execCarrierEnd s = _ at h
      unfold execCarrierEnd at h
      split at h
      · exact same h rfl rfl rfl
      · cases h
        exact .settleQuiet rfl
    | standoffEnd =>
      change execStandoffEnd s = _ at h
      unfold execStandoffEnd at h
      split at h
      · cases h
        exact .settleQuiet (standoffEnds_halt _ s)
      · exact same h rfl rfl rfl
    | offerSent =>
      change execOfferSent s = _ at h
      unfold execOfferSent at h
      split at h
      next hd _ =>
        cases h
        exact .busy rfl rfl (by simp [hd]) (by simp)
      next => exact same h rfl rfl rfl
    | fragSent =>
      change execFragSent s = _ at h
      unfold execFragSent at h
      split at h
      next hd =>
        cases h
        exact .busy rfl rfl (by simp [hd]) (by simp)
      next => exact same h rfl rfl rfl
    | readyWaitExpiry =>
      change execReadyWaitExpiry s = _ at h
      unfold execReadyWaitExpiry at h
      split at h
      · cases h
        exact .settle _
      · exact same h rfl rfl rfl
    | ackWaitExpiry =>
      change execAckWaitExpiry s = _ at h
      unfold execAckWaitExpiry at h
      split at h
      · cases h
        exact .settle _
      · exact same h rfl rfl rfl
    | doneWaitExpiry =>
      change execDoneWaitExpiry s = _ at h
      unfold execDoneWaitExpiry at h
      split at h
      · cases h
        exact .settle _
      · exact same h rfl rfl rfl
    | call frame rssi => cases h; exact frameEnds_rests ..
    | ready frame rssi => cases h; exact frameEnds_rests ..
    | fragAck frame => cases h; exact frameEnds_rests ..
    | done frame rssi => cases h; exact frameEnds_rests ..
    | refuse frame rssi => cases h; exact frameEnds_rests ..
    | peerOffer frame => cases h; exact frameEnds_rests ..
    | peerFrag frame => cases h; exact frameEnds_rests ..
    | peerTally frame => cases h; exact frameEnds_rests ..
    | quietWaitEnd =>
      change execQuietWaitEnd s = _ at h
      unfold execQuietWaitEnd at h
      split at h
      · cases h
        exact quietWaitEnds_rests s
      · exact same h rfl rfl rfl
    | tallySent =>
      change execTallySent s = _ at h
      unfold execTallySent at h
      split at h
      · cases h
        exact .settleQuiet rfl
      · exact same h rfl rfl rfl
    | status | setTime | openGroup | record | closeGroup | abortGroup | start | pause | resume | stop
    | clearFaults | takeReports | readEntry | readRoster | withdraw | setAttention | resetPort => cases hf

theorem step_rests {s t : State} (ha : AutoloadInStarting s) (h : step s = .next t) : Rests s t := by
  unfold step at h
  split at h
  next => cases h; exact .refl s
  next i rest _ =>
    exact (exec_rests (s := { s with pending := rest }) ha i h).from rfl rfl rfl id

/-- Settles O60: every operation keeps the Engine's law, and every command ends with the quiet wait settled or
untouched. -/
theorem stepKeepsEngine : Obligations.StepKeepsEngine := by
  unfold Obligations.StepKeepsEngine
  intro s t ha he hq h
  obtain ⟨rest, hops⟩ := step_ops (K := False) (Q := True) False.elim (fun _ => hq) h
  exact ⟨hops.keeps (P := EngineAgrees) Op.engineAgrees he, (step_rests ha h).quiet he hq⟩

end Sys2Proof.Machine
end


section
/-! Station Control: what holds the station in HALTED, what RUN needs, and the ranges of the configurations. -/

namespace Sys2Proof.Machine

variable {K Q L : Prop}

/-! ### The autoload -/

theorem autoload_of_working {s : State} (h : AutoloadInStarting s) (hs : s.opState ≠ .starting) :
    s.autoload = none ∧ s.lineReset = false := by
  obtain ⟨hauto, hline⟩ := h
  constructor
  · cases ha : s.autoload with
    | none => rfl
    | some a => exact absurd (hauto (by simp [ha])) hs
  · cases hl : s.lineReset with
    | false => rfl
    | true => exact absurd (hline hl).1 hs

/-- Nothing that STARTING and its autoload are about has changed. -/
theorem AutoloadInStarting.same {s t : State} (h : AutoloadInStarting s) (ho : t.opState = s.opState)
    (ha : t.autoload = s.autoload) (hl : t.lineReset = s.lineReset) : AutoloadInStarting t := by
  unfold AutoloadInStarting at *
  rwa [ho, ha, hl]

theorem AutoloadInStarting.book {s t : State} (h : AutoloadInStarting s) (ht : BookChanges s t) :
    AutoloadInStarting t := by
  obtain ⟨_, _, _, _, _, _, _, _, rfl⟩ := ht
  exact h

/-- Outside STARTING there is no autoload to mind. -/
theorem AutoloadInStarting.of_none {s : State} (ha : s.autoload = none) (hl : s.lineReset = false) :
    AutoloadInStarting s := by
  simp [AutoloadInStarting, ha, hl]

theorem notStarting_of_working {o : OpState} (h : o = .idle ∨ o = .run ∨ o = .paused) : o ≠ .starting := by
  rcases h with rfl | rfl | rfl <;> simp

theorem Op.autoloadInStarting {s t : State} (h : Op K Q L s t) (hs : AutoloadInStarting s) :
    AutoloadInStarting t := by
  cases h with
  | news h => exact hs.book (Tells.changes (.single h))
  | confirms e he ho hd h => exact hs.book h.changes
  | drains k h _ => exact hs.book (drains_changes h)
  | ends b hd hu hb =>
    obtain ⟨_, _, _, _, _, ho, _, ha, hl, _⟩ := hu.listening_keeps (b := b)
    exact hs.same ho ha hl
  | cutsOff x n b ho hd hu hb =>
    obtain ⟨hnone, hline⟩ := autoload_of_working hs (notStarting_of_working ho)
    obtain ⟨_, _, _, _, _, _, _, ha, hl, _⟩ := hu.listening_keeps (b := b)
    exact .of_none (ha.trans hnone) (hl.trans hline)
  | turns o hw ho =>
    obtain ⟨hnone, hline⟩ := autoload_of_working hs (notStarting_of_working hw)
    exact .of_none hnone hline
  | clears =>
    by_cases h : s.opState = .starting
    · exact hs.same (show (if s.opState = .halted then OpState.idle else s.opState) = s.opState by simp [h]) rfl rfl
    · obtain ⟨hnone, hline⟩ := autoload_of_working hs h
      exact .of_none hnone hline
  | halts ho hd =>
    obtain ⟨hnone, hline⟩ := autoload_of_working hs (notStarting_of_working ho)
    exact .of_none hnone hline
  | coldStart => exact ⟨fun _ => rfl, fun h => by cases h⟩
  | lineReset hL h => cases h; exact ⟨fun _ => rfl, fun _ => ⟨rfl, rfl⟩⟩
  | releases hL h => exact ⟨fun _ => (hs.2 h).1, fun h => by cases h⟩
  | loads hL a a' ha hc =>
    refine ⟨fun _ => hs.1 (by simp [ha]), fun h => ?_⟩
    obtain ⟨_, hnone⟩ := hs.2 h
    cases ha.symm.trans hnone
  | loaded hL a c ha hc =>
    refine .of_none rfl ?_
    cases hl : s.lineReset with
    | false => exact hl
    | true =>
      obtain ⟨_, hnone⟩ := hs.2 hl
      cases ha.symm.trans hnone
  | tallies p => unfold joinTally; split <;> exact hs
  | _ => exact hs

/-! ### Faults of severity STOP -/

/-- A latched kind of severity STOP has its halt waiting, or taken; in STARTING it has none. -/
def StopHeld (s : State) : Prop :=
  s.stopLatched = true → s.halt = true ∨ s.opState = .halted ∨ s.opState = .starting

/-- A kind is latched with severity STOP. -/
theorem stopLatched_iff {s : State} :
    s.stopLatched = true ↔ ∃ k, s.latched.get k = true ∧ s.config.policy.severity.get k = .stop := by
  simp [State.stopLatched, PerKind.anyWith_iff]

theorem StopHeld.same {s t : State} (h : StopHeld s) (hl : t.latched = s.latched) (hc : t.config = s.config)
    (hh : t.halt = s.halt) (ho : t.opState = s.opState) : StopHeld t := by
  unfold StopHeld State.stopLatched at *
  rwa [hl, hc, hh, ho]

theorem StopHeld.of_opState {s : State} (h : s.opState = .halted ∨ s.opState = .starting) : StopHeld s :=
  fun _ => .inr h

theorem StopHeld.of_empty {s : State} (h : s.latched = noKinds) : StopHeld s := by
  intro hs
  obtain ⟨k, hk, _⟩ := stopLatched_iff.mp hs
  simp [h] at hk

theorem latch_stopHeld {s : State} (h : StopHeld s) (d : Detail) (l : LabelAddr) (b : Byte) (g : GroupNo) :
    StopHeld (latch d l b g s) := by
  intro hs
  obtain ⟨k, hk, hsev⟩ := stopLatched_iff.mp hs
  change (s.latched.insert d.kind).get k = true at hk
  change s.config.policy.severity.get k = .stop at hsev
  change (s.halt || (s.config.policy.severity.get d.kind == .stop && s.opState != .starting)) = true ∨ _
  by_cases hnew : k = d.kind
  · by_cases ho : s.opState = .starting
    · exact .inr (.inr ho)
    · refine .inl ?_
      simp [← hnew, hsev, ho]
  · have hk : s.latched.get k = true := by simpa [hnew] using hk
    rcases h (stopLatched_iff.mpr ⟨k, hk, hsev⟩) with hh | ho
    · exact .inl (by simp [hh])
    · exact .inr ho

theorem Tells.stopHeld {s t : State} (h : Tells s t) (hs : StopHeld s) : StopHeld t := by
  induction h with
  | refl => exact hs
  | tail _ hn ih =>
    cases hn with
    | fault => exact latch_stopHeld ih _ _ _ _
    | report | choice => exact ih.same rfl rfl rfl rfl

theorem Leaves.stopHeld {e : Entry} {s t : State} (h : Leaves e s t) (hs : StopHeld s) : StopHeld t := by
  cases h <;> exact hs.same rfl rfl rfl rfl

theorem Ends.stopHeld {e : Entry} {s t : State} (h : Ends e s t) (hs : StopHeld s) : StopHeld t := by
  obtain ⟨u, v, h1, h2, h3⟩ := h
  refine h3.stopHeld ?_
  cases h2 with
  | leaves h => exact h.stopHeld (h1.stopHeld hs)
  | joins => exact (h1.stopHeld hs).same rfl rfl rfl rfl

theorem Outcome.stopHeld {n : Nat} {s t : State} (h : Outcome n s t) (hs : StopHeld s) : StopHeld t := by
  rcases h with ⟨_, rfl⟩ | ⟨e, _, h⟩
  · exact hs
  · exact h.stopHeld hs

theorem drains_stopHeld {s t : State} (h : ReflTransGen Drains s t) (hs : StopHeld s) : StopHeld t := by
  induction h with
  | refl => exact hs
  | tail _ hd ih =>
    cases hd with
    | news h => exact Tells.stopHeld (.single h) ih
    | takes _ _ _ ht => exact ht.stopHeld (ih.same rfl rfl rfl rfl)
    | skips => exact ih.same rfl rfl rfl rfl

/-- At an autoload's end the severities now in force decide (R175). -/
theorem endAutoload_stopHeld (c : StationConfig) (s : State) : StopHeld (endAutoload c s) := by
  intro hs
  refine .inr (.inl ?_)
  change (if _ then OpState.halted else .idle) = .halted
  exact if_pos hs

theorem Op.stopHeld {s t : State} (h : Op K Q L s t) (hs : StopHeld s) :
    StopHeld t := by
  cases h with
  | news h => exact Tells.stopHeld (.single h) hs
  | confirms e he ho hd h => exact h.stopHeld hs
  | drains k h _ => exact drains_stopHeld h (hs.same rfl rfl rfl rfl)
  | ends b hd hu hb => exact (hu.stopHeld hs).same rfl rfl rfl rfl
  | cutsOff x n b ho hd hu hb =>
    obtain ⟨_, _, _, _, _, hhalted, _⟩ := hu.listening_keeps (b := b)
    exact .of_opState (.inl hhalted)
  | turns o hw ho =>
    intro hl
    rcases hs hl with h | h | h
    · exact .inl h
    · rcases hw with hw | hw | hw <;> cases h.symm.trans hw
    · exact absurd h (notStarting_of_working hw)
  | clears => exact .of_empty rfl
  | unhalts h => exact .of_opState h
  | halts ho hd => exact .of_opState (.inl rfl)
  | coldStart => exact .of_empty rfl
  | lineReset hL h => cases h; exact .of_empty rfl
  | loaded hL a c ha hc => exact endAutoload_stopHeld c s
  | tallies p => unfold joinTally; split <;> exact hs.same rfl rfl rfl rfl
  | _ => exact hs.same rfl rfl rfl rfl

/-! ### RUN and PAUSED -/

/-- RUN and PAUSED have a set clock and a number. -/
def Numbered (s : State) : Prop :=
  s.opState = .run ∨ s.opState = .paused → s.clockSet = true ∧ s.config.identity.station ≠ 0

theorem Numbered.same {s t : State} (h : Numbered s) (ho : t.opState = s.opState) (hc : t.clockSet = s.clockSet)
    (hn : t.config = s.config) : Numbered t := by
  unfold Numbered at *
  rwa [ho, hc, hn]

theorem Numbered.of_other {s : State} {o : OpState} (h : s.opState = o) (h1 : o ≠ .run) (h2 : o ≠ .paused) :
    Numbered s := fun hs => ((h ▸ hs).elim h1 h2).elim

theorem Op.numbered {s t : State} (h : Op K Q L s t) (hs : Numbered s) : Numbered t := by
  have book : ∀ {t}, BookChanges s t → Numbered t := by
    rintro _ ⟨_, _, _, _, _, _, _, _, rfl⟩
    exact hs.same rfl rfl rfl
  cases h with
  | news h => exact book (Tells.changes (.single h))
  | confirms e he ho hd h => exact book h.changes
  | drains k h _ => exact book (drains_changes h)
  | ends b hd hu hb =>
    obtain ⟨_, _, _, _, _, ho, hc, _, _, _, _, hset, _⟩ := hu.listening_keeps (b := b)
    exact hs.same ho hset hc
  | cutsOff x n b ho hd hu hb =>
    obtain ⟨_, _, _, _, _, hhalted, _⟩ := hu.listening_keeps (b := b)
    exact .of_other hhalted (by simp) (by simp)
  | turns o hw ho =>
    intro ht
    rcases ho with rfl | ⟨_, hidle⟩
    · simp at ht
    · rcases hw with hw | hw
      · exact hidle hw
      · exact hs hw
  | clears =>
    by_cases h : s.opState = .halted
    · have : (if s.opState = .halted then OpState.idle else s.opState) = .idle := if_pos h
      exact .of_other this (by simp) (by simp)
    · exact hs.same (if_neg h) rfl rfl
  | ticks clock set hset => exact fun ht => ⟨hset (hs ht).1, (hs ht).2⟩
  | halts ho hd => exact .of_other rfl (by simp) (by simp)
  | coldStart => exact .of_other (o := .starting) rfl (by simp) (by simp)
  | lineReset hL h => cases h; exact .of_other rfl (by simp) (by simp)
  | loaded hL a c ha hc =>
    obtain ⟨_, _, _, _, _, _, h⟩ := endAutoload_fields c s
    rcases h with h | h <;> exact .of_other h (by simp) (by simp)
  | tallies p => unfold joinTally; split <;> exact hs.same rfl rfl rfl
  | _ => exact hs.same rfl rfl rfl

/-! ### The configurations -/

theorem configsInRange_same {s t : State} (h : ConfigsInRange s) (hc : t.config = s.config)
    (ha : t.autoload = s.autoload) : ConfigsInRange t := by
  unfold ConfigsInRange at *
  rwa [hc, ha]

theorem defaultConfig_inRange : ConfigInRange defaultConfig := by decide

theorem Op.configsInRange {s t : State} (h : Op K Q L s t) (hs : ConfigsInRange s) : ConfigsInRange t := by
  have book : ∀ {t}, BookChanges s t → ConfigsInRange t := by
    rintro _ ⟨_, _, _, _, _, _, _, _, rfl⟩
    exact hs
  have pending : ∀ {a : Autoload}, ConfigInRange a.pendingConfig → ∀ x ∈ some a, ConfigInRange x.pendingConfig := by
    intro a ha x hx
    cases hx
    exact ha
  cases h with
  | news h => exact book (Tells.changes (.single h))
  | confirms e he ho hd h => exact book h.changes
  | drains k h _ => exact book (drains_changes h)
  | ends b hd hu hb =>
    obtain ⟨_, _, _, _, _, _, hc, ha, _⟩ := hu.listening_keeps (b := b)
    exact configsInRange_same hs hc ha
  | cutsOff x n b ho hd hu hb =>
    obtain ⟨_, _, _, _, _, _, hc, ha, _⟩ := hu.listening_keeps (b := b)
    exact configsInRange_same hs hc ha
  | coldStart => exact ⟨defaultConfig_inRange, pending defaultConfig_inRange⟩
  | lineReset hL h =>
    cases h
    exact ⟨hs.1, fun a ha => by cases ha⟩
  | releases hL h => exact ⟨hs.1, pending defaultConfig_inRange⟩
  | loads hL a a' ha hc => exact ⟨hs.1, pending (hc (hs.2 a ha))⟩
  | loaded hL a c ha hc => exact ⟨hc (hs.2 a ha), fun a ha => by cases ha⟩
  | tallies p => unfold joinTally; split <;> exact hs
  | _ => exact hs

/-- Settles O54: each of the three is kept by every operation, and no command leaves a halt over. -/
theorem stepKeepsControl : Obligations.StepKeepsControl := by
  unfold Obligations.StepKeepsControl
  intro s t h
  obtain ⟨rest, hops⟩ := step_ops (K := False) (Q := False) False.elim False.elim h
  have auto : AutoloadInStarting s → AutoloadInStarting t :=
    hops.keeps (P := AutoloadInStarting) Op.autoloadInStarting
  refine ⟨fun ⟨hhalt, hstop, ha⟩ => ?_, fun ⟨hrun, ha⟩ => ⟨hops.keeps (P := Numbered) Op.numbered hrun, auto ha⟩,
    hops.keeps (P := ConfigsInRange) Op.configsInRange⟩
  have hheld : StopHeld t := hops.keeps (P := StopHeld) Op.stopHeld fun h => .inr (hstop h)
  have hhalt' := (step_rests ha h).halt hhalt
  refine ⟨hhalt', fun hs => ?_, auto ha⟩
  exact (hheld hs).resolve_left (by simp [hhalt'])

end Sys2Proof.Machine
end


section
/-! STARTING is empty, HALTED is silent, and the budget stays within its capacity. -/

namespace Sys2Proof.Machine

variable {K Q L : Prop}

/-! ### STARTING -/

/-- Nothing but the link, the clock and a left-over halt has changed. -/
abbrev Dormant (s t : State) : Prop :=
  ∃ clock timebase halt receiver holding response overrun, t = { s with
    clock := clock, timebase := timebase, halt := halt, receiver := receiver, holding := holding
    response := response, overrun := overrun }

theorem Dormant.refl (s : State) : Dormant s s := ⟨_, _, _, _, _, _, _, rfl⟩

theorem takeFrame_dormant {s : State} (hs : s.opState = .starting) (f : LinkFrame) : Dormant s (takeFrame f s) := by
  cases hg : f.good with
  | false =>
    rw [takeFrame_bad hg]
    exact ⟨_, _, _, _, _, _, _, rfl⟩
  | true =>
    rw [takeFrame_starting hg hs]
    exact ⟨_, _, _, _, _, _, _, rfl⟩

theorem Dormant.linked {s t : State} {r : Receiver} {f : List LinkFrame} (h : Dormant { s with
    receiver := r, holding := f } t) : Dormant s t := by
  obtain ⟨_, _, _, _, _, _, _, rfl⟩ := h
  exact ⟨_, _, _, _, _, _, _, rfl⟩

theorem offerFrameToHolding_dormant {s : State} (hs : s.opState = .starting) (f : LinkFrame) :
    Dormant s (offerFrameToHolding f s) := by
  unfold offerFrameToHolding
  split
  · split
    · exact .refl s
    · exact ⟨_, _, _, _, _, _, _, rfl⟩
  · dsimp only
    split
    · exact (takeFrame_dormant (s := { s with holding := s.holding ++ [f] }) hs f).linked
    · exact ⟨_, _, _, _, _, _, _, rfl⟩

theorem receiveByte_dormant {s : State} (hs : s.opState = .starting) (b : Byte) (stopBit : Bool) :
    Dormant s (receiveByte b stopBit s) := by
  unfold receiveByte
  split
  · split
    · exact ⟨_, _, _, _, _, _, _, rfl⟩
    · exact .refl s
  · dsimp only
    split
    · exact ⟨_, _, _, _, _, _, _, rfl⟩
    · exact (offerFrameToHolding_dormant (s := { s with receiver := .hunting }) hs _).linked

theorem responseEnds_dormant (r : Response) (s : State) : Dormant s (responseEnds r s) := by
  unfold responseEnds
  dsimp only
  split
  · exact ⟨_, _, _, _, _, _, _, rfl⟩
  · unfold overrunIfOwed
    split
    · split <;> exact ⟨_, _, _, _, _, _, _, rfl⟩
    · exact ⟨_, _, _, _, _, _, _, rfl⟩

/-- In STARTING the end of a command drops a halt, and no quiet wait runs. -/
theorem settle_dormant {s : State} (hs : s.opState = .starting) (hq : s.quietWait = none) : Dormant s (settle s) := by
  have htake : takeHalt s = { s with halt := false } := by
    unfold takeHalt
    split
    · simp [hs]
    next h =>
      have hh : s.halt = false := by simpa using h
      rw [← hh]
  have hquiet : quietAfter { s with halt := false } = none := quietAfter_of_opState (by simp [hs]) (by simp [hs])
  change Dormant s (settleQuiet (takeHalt s))
  rw [htake, settleQuiet_eq, hquiet, ← hq]
  exact ⟨_, _, _, _, _, _, _, rfl⟩

theorem frameEnds_starting {s : State} (hs : s.opState = .starting) (f : AirFrame) (rssi : Int) :
    frameEnds f rssi s = s := by
  simp [frameEnds, frameLost, State.canHear, hs]

theorem bytesEnd_starting {s : State} (hs : s.opState = .starting) (bytes : List Byte) (rssi : Int) :
    bytesEnd bytes rssi s = s := by
  unfold bytesEnd
  split
  · exact frameEnds_starting hs ..
  · simp [frameLost, State.canHear, hs]

/-- In STARTING no command but a reset and the autoload's reaches a block (R136). -/
theorem exec_dormant {s t : State} (he : StartingIsEmpty s) (hs : s.opState = .starting) {i : Instr}
    (hi : isLoad i = false) (h : exec i s = .next t) : Dormant s t := by
  obtain ⟨hgroup, hbook, hclosing, hroster, hdial, hx, hcar, htally, hcount, hquiet, hbudget, hreports⟩ := he.1 hs
  have same : ∀ {v : State}, (Host.Outcome.next s : Host.Outcome State Fault Refusal) = .next v → Dormant s v := by
    intro v huv
    cases huv
    exact .refl s
  have frame : ∀ f rssi, (Host.Outcome.next (frameEnds f rssi s) : Host.Outcome State Fault Refusal) = .next t →
      Dormant s t := by
    intro f rssi huv
    rw [frameEnds_starting hs] at huv
    exact same huv
  cases hf : requestFrame i with
  | some f =>
    rw [exec_of_request hf, serve_starting hs] at h
    cases h
    exact ⟨_, _, _, _, _, _, _, rfl⟩
  | none =>
    cases i with
    | coldStart | lineReset | lineResetRelease | headerRead | groupRead | configReadTimeout => cases hi
    | clockSecond =>
      change execClockSecond s = _ at h
      unfold execClockSecond at h
      dsimp only at h
      rw [if_pos hs] at h
      cases h
      exact ⟨_, _, _, _, _, _, _, rfl⟩
    | yieldEnd =>
      cases h
      have hsame : endYields s = s := by
        unfold endYields
        rw [hbook, List.map_nil, ← hbook]
      rw [hsame]
      exact .refl s
    | groupIdleTimeout =>
      change execGroupIdleTimeout s = _ at h
      rw [execGroupIdleTimeout, hgroup] at h
      exact same h
    | tallyPeriodEnd =>
      cases h
      have hnone : quietAfter s = none := quietAfter_of_opState (by simp [hs]) (by simp [hs])
      rw [settleQuiet_eq, hnone, ← hquiet]
      exact .refl s
    | batchFrameEnd f =>
      cases h
      exact (offerFrameToHolding_dormant (s := { s with receiver := .hunting }) hs f).linked
    | linkLoss => cases h; exact ⟨_, _, _, _, _, _, _, rfl⟩
    | responseSent =>
      change execResponseSent s = _ at h
      unfold execResponseSent at h
      split at h
      · cases h
        exact responseEnds_dormant _ s
      · exact same h
    | heldFrameTaken =>
      change execHeldFrameTaken s = _ at h
      unfold execHeldFrameTaken at h
      split at h
      · cases h
        exact takeFrame_dormant hs _
      · exact same h
    | closingListDrain =>
      cases h
      have hsame : drainClosing s = s := by
        unfold drainClosing
        rw [hclosing]
        unfold drainList
        rw [← hclosing]
        rfl
      rw [hsame]
      exact settle_dormant hs hquiet
    | batchByteReceived byte stopBit => cases h; exact receiveByte_dormant hs byte stopBit
    | airFrameDiscarded bytes rssi =>
      change (Host.Outcome.next (bytesEnd bytes rssi s) : Host.Outcome State Fault Refusal) = _ at h
      rw [bytesEnd_starting hs] at h
      exact same h
    | frameStart =>
      change execFrameStart s = _ at h
      rw [execFrameStart, if_neg (by simp [State.canHear, hs])] at h
      exact same h
    | carrierSensed =>
      change execCarrierSensed s = _ at h
      rw [execCarrierSensed, if_pos hs] at h
      exact same h
    | carrierEnd =>
      change execCarrierEnd s = _ at h
      rw [execCarrierEnd, if_pos hs] at h
      exact same h
    | call frame' rssi => exact frame _ _ h
    | ready frame' rssi => exact frame _ _ h
    | fragAck frame' => exact frame _ _ h
    | done frame' rssi => exact frame _ _ h
    | refuse frame' rssi => exact frame _ _ h
    | peerOffer frame' => exact frame _ _ h
    | peerFrag frame' => exact frame _ _ h
    | peerTally frame' => exact frame _ _ h
    | standoffEnd =>
      change execStandoffEnd s = _ at h
      rw [execStandoffEnd, hdial] at h
      exact same h
    | offerSent =>
      change execOfferSent s = _ at h
      rw [execOfferSent, hdial] at h
      exact same h
    | fragSent =>
      change execFragSent s = _ at h
      rw [execFragSent, hdial] at h
      exact same h
    | readyWaitExpiry =>
      change execReadyWaitExpiry s = _ at h
      rw [execReadyWaitExpiry, hdial] at h
      exact same h
    | ackWaitExpiry =>
      change execAckWaitExpiry s = _ at h
      rw [execAckWaitExpiry, hdial] at h
      exact same h
    | doneWaitExpiry =>
      change execDoneWaitExpiry s = _ at h
      rw [execDoneWaitExpiry, hdial] at h
      exact same h
    | quietWaitEnd =>
      change execQuietWaitEnd s = _ at h
      rw [execQuietWaitEnd, hquiet] at h
      exact same h
    | tallySent =>
      change execTallySent s = _ at h
      rw [execTallySent, hdial] at h
      exact same h
    | status | setTime | openGroup | record | closeGroup | abortGroup | start | pause | resume | stop
    | clearFaults | takeReports | readEntry | readRoster | withdraw | setAttention | resetPort => cases hf

/-! ### Outside STARTING -/

/-- Outside STARTING a command but a reset keeps out of it. -/
theorem Op.notStarting {s t : State} (h : Op K Q False s t) (hs : s.opState ≠ .starting) : t.opState ≠ .starting := by
  have book : ∀ {t}, BookChanges s t → t.opState ≠ .starting := by
    rintro _ ⟨_, _, _, _, _, _, _, _, rfl⟩
    exact hs
  cases h with
  | news h => exact book (Tells.changes (.single h))
  | confirms e he ho hd h => exact book h.changes
  | drains k h _ => exact book (drains_changes h)
  | ends b hd hu hb =>
    obtain ⟨_, _, _, _, _, ho, _⟩ := hu.listening_keeps (b := b)
    rwa [ho]
  | cutsOff x n b ho hd hu hb =>
    obtain ⟨_, _, _, _, _, hhalted, _⟩ := hu.listening_keeps (b := b)
    exact hhalted.symm ▸ nofun
  | turns o hw ho =>
    rcases ho with rfl | ⟨rfl | rfl, _⟩ <;> simp
  | clears =>
    change (if s.opState = .halted then OpState.idle else s.opState) ≠ .starting
    split
    · simp
    · exact hs
  | halts ho hd => simp
  | coldStart hL => exact hL.elim
  | lineReset hL h => exact hL.elim
  | loaded hL a c ha hc => exact hL.elim
  | tallies p => unfold joinTally; split <;> exact hs
  | _ => exact hs

/-- In HALTED the Engine is silent: nothing of it is begun, and what halts the station ends its work. -/
theorem Op.haltedIsSilent {s t : State} (h : Op K Q False s t) (hs : HaltedIsSilent s) : HaltedIsSilent t := by
  have book : ∀ {t}, BookChanges s t → HaltedIsSilent t := by
    rintro _ ⟨_, _, _, _, _, _, _, _, rfl⟩
    exact hs
  have busy : ∀ {t}, s.dialogue ≠ .listening → t.opState = s.opState → HaltedIsSilent t := by
    intro t hd ho ht
    exact absurd (hs (ho.symm.trans ht)).1 hd
  cases h with
  | news h => exact book (Tells.changes (.single h))
  | confirms e he ho hd h => exact book h.changes
  | drains k h _ => exact book (drains_changes h)
  | tallies p => unfold joinTally; split <;> exact hs
  | turns o hw ho =>
    intro ht
    rcases ho with rfl | ⟨rfl | rfl, _⟩ <;> cases ht
  | clears =>
    intro ht
    change (if s.opState = .halted then OpState.idle else s.opState) = .halted at ht
    split at ht
    next => cases ht
    next hne => exact absurd ht hne
  | folds g v hg hv hroom =>
    intro ht
    obtain ⟨hd, hx, hq⟩ := hs ht
    exact ⟨show markTouched _ s.dialogue = _ by rw [hd]; rfl, hx, hq⟩
  | standsDown =>
    intro ht
    obtain ⟨hd, hx, hq⟩ := hs ht
    exact ⟨show heardDialogue s.dialogue = _ by rw [hd]; rfl, hx, hq⟩
  | standsOff c e hd ho => exact fun ht => absurd (ho.symm.trans ht) (by simp)
  | meets w' hd hw => exact busy (by simp [hd]) rfl
  | commits c e hd he => exact busy (by simp [hd]) rfl
  | offers hd hx => exact busy (by simp [hd]) rfl
  | firstFragment hd hx => exact busy (by simp [hd]) rfl
  | nextFragment hd h => exact busy (by simp [hd]) rfl
  | resends hd h => exact busy (by simp [hd]) rfl
  | fragments hd => exact busy (by simp [hd]) rfl
  | awaitsDone hd h => exact busy (by simp [hd]) rfl
  | ends b hd hu hb =>
    obtain ⟨_, _, _, _, _, ho, _⟩ := hu.listening_keeps (b := b)
    exact busy (by simp [hd]) ho
  | beginsTally n b x hq hQ hn hlen hb => exact fun ht => absurd (hs ht).2.2 hq
  | endsTally hd => exact busy (by simp [hd]) rfl
  | quiet =>
    intro ht
    obtain ⟨hd, hx, _⟩ := hs ht
    have hhalted : s.opState = .halted := ht
    exact ⟨hd, hx, quietAfter_of_opState (by simp [hhalted]) (by simp [hhalted])⟩
  | halts ho hd => exact fun _ => ⟨rfl, rfl, rfl⟩
  | cutsOff x n b ho hd hu hb => exact fun _ => ⟨rfl, rfl, rfl⟩
  | coldStart hL => exact hL.elim
  | lineReset hL h => exact hL.elim
  | loaded hL a c ha hc => exact hL.elim
  | _ => exact hs

theorem Op.budgetWithin {s t : State} (h : Op K Q False s t) (hs : BudgetWithinCapacity s) :
    BudgetWithinCapacity t := by
  have book : ∀ {t}, BookChanges s t → BudgetWithinCapacity t := by
    rintro _ ⟨_, _, _, _, _, _, _, _, rfl⟩
    exact hs
  have credited : ∀ {t : State} {b : Nat}, t.budget = b → t.config = s.config → b ≤ s.capacity →
      BudgetWithinCapacity t := by
    intro t b ht hc hb
    unfold BudgetWithinCapacity State.capacity at *
    rwa [ht, hc]
  cases h with
  | news h => exact book (Tells.changes (.single h))
  | confirms e he ho hd h => exact book h.changes
  | drains k h _ => exact book (drains_changes h)
  | tallies p => unfold joinTally; split <;> exact hs
  | budgets b h => exact h
  | commits c e hd he => exact Nat.le_trans (Nat.sub_le ..) hs
  | resends hd h => exact Nat.le_trans (Nat.sub_le ..) hs
  | ends b hd hu hb =>
    obtain ⟨_, _, _, _, _, _, hc, _⟩ := hu.listening_keeps (b := b)
    exact credited rfl hc hb
  | beginsTally n b x hq hQ hn hlen hb => exact Nat.le_trans hb hs
  | cutsOff x n b ho hd hu hb =>
    obtain ⟨_, _, _, _, _, _, hc, _⟩ := hu.listening_keeps (b := b)
    exact credited rfl hc hb
  | coldStart hL => exact hL.elim
  | lineReset hL h => exact hL.elim
  | loaded hL a c ha hc => exact hL.elim
  | _ => exact hs

/-! ### Resets and the autoload -/

/-- Every block is empty and nothing is on the air. -/
def Cleared (s : State) : Prop :=
  s.group = none ∧ s.book = [] ∧ s.closing = [] ∧ s.roster = [] ∧ s.dialogue = .listening ∧
  s.transmitting = none ∧ s.carriers = 0 ∧ s.tally = [] ∧ s.tallyCount = 0 ∧ s.quietWait = none ∧
  s.budget = 0 ∧ s.reports = []

theorem Cleared.silent {s : State} (h : Cleared s) : HaltedIsSilent s := by
  obtain ⟨_, _, _, _, hd, hx, _, _, _, hq, _, _⟩ := h
  exact fun _ => ⟨hd, hx, hq⟩

theorem Cleared.budgetWithin {s : State} (h : Cleared s) : BudgetWithinCapacity s := by
  obtain ⟨_, _, _, _, _, _, _, _, _, _, hb, _⟩ := h
  exact Nat.le_trans (Nat.le_of_eq hb) (Nat.zero_le _)

/-- The Loader touches none of the blocks. -/
theorem Cleared.latchConfig {s : State} (h : Cleared s) (d : Detail) (k : Nat) : Cleared (latchConfig d k s) := h

theorem Cleared.endAutoload {s : State} (h : Cleared s) (c : StationConfig) : Cleared (endAutoload c s) := h

theorem Cleared.afterGroup {s : State} (h : Cleared s) (k count : Nat) (p : StationConfig) :
    Cleared (afterGroup k count p s) := by
  unfold Machine.afterGroup
  split
  · exact h
  · exact h.endAutoload p

/-- A reset and every read of an autoload leave the blocks empty, or change nothing (R135, R171). -/
theorem exec_load_cleared {s t : State} (he : StartingIsEmpty s) {i : Instr} (hi : isLoad i = true)
    (h : exec i s = .next t) : Cleared t ∨ t = s := by
  obtain ⟨hempty, hauto, hline⟩ := he
  have cleared : ∀ {a : Autoload}, s.autoload = some a → Cleared s := fun ha => hempty (hauto (by simp [ha]))
  have same : (Host.Outcome.next s : Host.Outcome State Fault Refusal) = .next t → Cleared t ∨ t = s := by
    intro hst
    cases hst
    exact .inr rfl
  cases i with
  | coldStart => cases h; exact .inl ⟨rfl, rfl, rfl, rfl, rfl, rfl, rfl, rfl, rfl, rfl, rfl, rfl⟩
  | lineReset => cases h; exact .inl ⟨rfl, rfl, rfl, rfl, rfl, rfl, rfl, rfl, rfl, rfl, rfl, rfl⟩
  | lineResetRelease =>
    change execLineResetRelease s = _ at h
    unfold execLineResetRelease at h
    split at h
    next hl =>
      cases h
      exact .inl (hempty (hline hl).1)
    next => exact same h
  | headerRead signature count =>
    change execHeaderRead signature count s = _ at h
    unfold execHeaderRead at h
    split at h
    next ha =>
      have hs := cleared ha
      split at h
      · cases h
        exact .inl hs
      · cases h
        exact .inl ((hs.latchConfig ..).endAutoload _)
    next => exact same h
  | groupRead length contents sumCheck =>
    change execGroupRead length contents sumCheck s = _ at h
    unfold execGroupRead at h
    split at h
    next ha =>
      have hs := cleared ha
      split at h
      · split at h
        · cases h
          exact .inl (hs.afterGroup ..)
        · cases h
          exact .inl ((hs.latchConfig ..).afterGroup ..)
      · cases h
        exact .inl ((hs.latchConfig ..).endAutoload _)
    next => exact same h
  | configReadTimeout =>
    change execConfigReadTimeout s = _ at h
    unfold execConfigReadTimeout at h
    split at h
    next ha =>
      cases h
      exact .inl (((cleared ha).latchConfig ..).endAutoload _)
    next => exact same h
  | _ => cases hi

/-! ### Every command -/

theorem exec_keepsSilence {s t : State} (he : StartingIsEmpty s) (i : Instr) (h : exec i s = .next t) :
    (t.opState = .starting → Cleared t) ∧ (HaltedIsSilent s → HaltedIsSilent t) ∧
      (BudgetWithinCapacity s → BudgetWithinCapacity t) := by
  cases hi : isLoad i with
  | true =>
    rcases exec_load_cleared he hi h with hc | rfl
    · exact ⟨fun _ => hc, fun _ => hc.silent, fun _ => hc.budgetWithin⟩
    · exact ⟨he.1, id, id⟩
  | false =>
    by_cases hs : s.opState = .starting
    · obtain ⟨_, _, _, _, _, _, _, rfl⟩ := exec_dormant he hs hi h
      exact ⟨he.1, id, id⟩
    · obtain ⟨u, hu, hops⟩ := exec_ops (K := False) (Q := False) (L := False) (s := s) False.elim False.elim i
        (by simp [hi])
      cases hu.symm.trans h
      exact ⟨fun ht => absurd ht (hops.keeps (P := fun u => u.opState ≠ .starting) Op.notStarting hs),
        hops.keeps (P := HaltedIsSilent) Op.haltedIsSilent,
        hops.keeps (P := BudgetWithinCapacity) Op.budgetWithin⟩

/-- Settles O53: in STARTING only resets and the autoload act, on empty blocks; outside it every operation keeps
HALTED silent and the budget within its capacity. -/
theorem stepKeepsSilence : Obligations.StepKeepsSilence := by
  unfold Obligations.StepKeepsSilence
  intro s t he h
  obtain ⟨rest, hops⟩ := step_ops (K := False) (Q := False) False.elim False.elim h
  have hauto : AutoloadInStarting t := hops.keeps (P := AutoloadInStarting) Op.autoloadInStarting he.2
  unfold step at h
  split at h
  next =>
    cases h
    exact ⟨he, id, id⟩
  next i rest _ =>
    obtain ⟨hcleared, hsilent, hbudget⟩ := exec_keepsSilence (s := { s with pending := rest }) he i h
    exact ⟨⟨hcleared, hauto⟩, hsilent, hbudget⟩

end Sys2Proof.Machine
end


section
/-! What the operations of the book report and latch, exactly: `Announces s t bodies faults` says that `t` has queued
these reports of `s`, as far as the queue has room, and taken these faults, in order. -/

namespace Sys2Proof.Machine

/-! ### Reports and faults in order -/

theorem numbered_append (seq : BitVec 16) (as bs : List ReportBody) :
    numbered seq (as ++ bs) = numbered seq as ++ numbered (seq + BitVec.ofNat 16 as.length) bs := by
  unfold numbered
  rw [List.mapIdx_append]
  congr 1
  refine congrArg (fun f => List.mapIdx f bs) (funext fun i => funext fun b => ?_)
  rw [BitVec.add_assoc, Nat.add_comm, BitVec.ofNat_add]

theorem numbered_length (seq : BitVec 16) (bs : List ReportBody) : (numbered seq bs).length = bs.length := by
  simp [numbered]

theorem Queues.refl (s : State) : Queues s s [] := by simp [Queues, numbered]

theorem Queues.append {s t u : State} {as bs : List ReportBody} (h1 : Queues s t as) (h2 : Queues t u bs) :
    Queues s u (as ++ bs) := by
  obtain ⟨hr1, hn1⟩ := h1
  obtain ⟨hr2, hn2⟩ := h2
  refine ⟨?_, ?_⟩
  · rw [hr2, hr1, hn1, numbered_append, List.append_assoc]
  · rw [hn2, hn1, List.length_append, BitVec.ofNat_add, BitVec.add_assoc]

/-- Reports queued as far as there is room, and then more of them (R153). -/
theorem Queues.append_room {s t u : State} {as bs : List ReportBody}
    (h1 : Queues s t (as.take (256 - s.reports.length))) (h2 : Queues t u (bs.take (256 - t.reports.length))) :
    Queues s u ((as ++ bs).take (256 - s.reports.length)) := by
  have hlen : 256 - t.reports.length = 256 - s.reports.length - as.length := by
    rw [h1.1, List.length_append, numbered_length, List.length_take]
    omega
  rw [List.take_append, ← hlen]
  exact h1.append h2

theorem latches_nil {s t : State} : Latches s t [] ↔ SameFaults s t := Iff.rfl

theorem latches_cons {s t : State} {f : FaultLog} {fs : List FaultLog} : Latches s t (f :: fs) ↔
    t.latched = (f :: fs).foldl (fun l f => l.insert f.detail.kind) s.latched ∧
    t.firstFault = (if s.latched = noKinds then some f else s.firstFault) := Iff.rfl

theorem Latches.refl (s : State) : Latches s s [] := ⟨rfl, rfl⟩

theorem insert_ne_noKinds (p : PerKind Bool) (k : FaultKind) : p.insert k ≠ noKinds :=
  PerKind.ne_noKinds_of_get (k := k) (by simp)

/-- A set with kinds taken is not empty. -/
theorem foldl_insert_ne {fs : List FaultLog} : ∀ {p : PerKind Bool}, p ≠ noKinds →
    fs.foldl (fun l f => l.insert f.detail.kind) p ≠ noKinds := by
  induction fs with
  | nil => exact id
  | cons f fs ih => exact fun _ => ih (insert_ne_noKinds _ _)

theorem Latches.append {s t u : State} {as bs : List FaultLog} (h1 : Latches s t as) (h2 : Latches t u bs) :
    Latches s u (as ++ bs) := by
  cases as with
  | nil =>
    obtain ⟨hl, hf⟩ := latches_nil.mp h1
    cases bs with
    | nil => exact ⟨h2.1.trans hl, h2.2.trans hf⟩
    | cons b bs =>
      obtain ⟨hl2, hf2⟩ := latches_cons.mp h2
      rw [hl] at hl2 hf2
      rw [hf] at hf2
      exact latches_cons.mpr ⟨hl2, hf2⟩
  | cons a as =>
    obtain ⟨hl, hf⟩ := latches_cons.mp h1
    have hne : t.latched ≠ noKinds := by
      rw [hl, List.foldl_cons]
      exact foldl_insert_ne (insert_ne_noKinds _ _)
    refine latches_cons.mpr ⟨?_, ?_⟩
    · rw [h2.1, hl]
      exact List.foldl_append.symm
    · rw [← hf]
      cases bs with
      | nil => exact h2.2
      | cons b bs => exact (latches_cons.mp h2).2.trans (if_neg hne)

/-! ### Announcements -/

/-- `t` is `s` but for the book and what it has reported and latched: these reports, as far as the queue has room, and
these faults. A halt waits only for a fault of severity STOP. -/
structure Announces (s t : State) (bodies : List ReportBody) (faults : List FaultLog) : Prop where
  queues : Queues s t (bodies.take (256 - s.reports.length))
  latches : Latches s t faults
  halts : t.halt = true → s.halt = true ∨ ∃ f ∈ faults, s.config.policy.severity.get f.detail.kind = .stop
  frame : t = { s with
    book := t.book, closing := t.closing, reports := t.reports, nextSeq := t.nextSeq, latched := t.latched
    firstFault := t.firstFault, halt := t.halt }

theorem Announces.clock {s t : State} {bs : List ReportBody} {fs : List FaultLog} (h : Announces s t bs fs) :
    t.clock = s.clock := by rw [h.frame]

theorem Announces.config {s t : State} {bs : List ReportBody} {fs : List FaultLog} (h : Announces s t bs fs) :
    t.config = s.config := by rw [h.frame]

theorem Announces.opState {s t : State} {bs : List ReportBody} {fs : List FaultLog} (h : Announces s t bs fs) :
    t.opState = s.opState := by rw [h.frame]

theorem Announces.trans {s t u : State} {as bs : List ReportBody} {fs gs : List FaultLog}
    (h1 : Announces s t as fs) (h2 : Announces t u bs gs) : Announces s u (as ++ bs) (fs ++ gs) := by
  refine ⟨h1.queues.append_room h2.queues, h1.latches.append h2.latches, fun hu => ?_, ?_⟩
  · rcases h2.halts hu with ht | ⟨f, hf, hs⟩
    · rcases h1.halts ht with hs | ⟨f, hf, hs⟩
      · exact .inl hs
      · exact .inr ⟨f, List.mem_append_left _ hf, hs⟩
    · rw [h1.config] at hs
      exact .inr ⟨f, List.mem_append_right _ hf, hs⟩
  · rw [h2.frame, h1.frame]

/-- A change of the book alone reports and latches nothing. -/
theorem Announces.edit (s : State) (b : List Entry) (c : List Nat) :
    Announces s { s with book := b, closing := c } [] [] := by
  refine ⟨?_, .refl s, .inl, rfl⟩
  rw [List.take_nil]
  exact .refl s

theorem Announces.refl (s : State) : Announces s s [] [] := .edit s s.book s.closing

theorem latch_announces (d : Detail) (l : LabelAddr) (b : Byte) (g : GroupNo) (s : State) :
    Announces s (latch d l b g s) [] [⟨d, l, b, g, s.clock⟩] := by
  refine ⟨?_, ?_, fun h => ?_, rfl⟩
  · rw [List.take_nil]
    exact .refl s
  · refine latches_cons.mpr ⟨rfl, ?_⟩
    by_cases h : s.latched = noKinds
    · rw [if_pos h, latch_firstFault_of_empty h]
    · rw [if_neg h, latch_firstFault_of_nonempty h]
  · change (s.halt || _) = true at h
    rcases Bool.or_eq_true_iff.mp h with h | h
    · exact .inl h
    · refine .inr ⟨_, List.mem_singleton_self _, ?_⟩
      simpa using (Bool.and_eq_true_iff.mp h).1

theorem pushReport_queues (r : ReportBody) (s : State) : Queues s (pushReport r s) [r] := by
  simp [Queues, numbered, pushReport]

theorem eventReport_announces (r : ReportBody) (s : State) : Announces s (eventReport r s) [r] [] := by
  by_cases h : s.reports.length < 256
  · rw [eventReport_of_room h]
    refine ⟨?_, .refl s, .inl, rfl⟩
    rw [List.take_of_length_le (by simp only [List.length_singleton]; omega)]
    exact pushReport_queues r s
  · rw [eventReport_of_full (by omega)]
    refine ⟨?_, .refl s, .inl, rfl⟩
    rw [Nat.sub_eq_zero_of_le (by omega), List.take_zero]
    exact .refl s

theorem pushReport_announces {s : State} (h : s.reports.length < 256) (r : ReportBody) :
    Announces s (pushReport r s) [r] [] := eventReport_of_room h r ▸ eventReport_announces r s

/-- Announcements one after another, whose reports and faults depend on what no announcement changes. -/
theorem Announces.foldl {α : Type} {f : State → α → State} {body : α → List ReportBody} {fault : α → List FaultLog}
    {s : State} (h : ∀ {bs fs} a t, Announces s t bs fs → Announces t (f t a) (body a) (fault a)) :
    ∀ (as : List α) {bs : List ReportBody} {fs : List FaultLog} {t : State}, Announces s t bs fs →
      Announces s (as.foldl f t) (bs ++ as.flatMap body) (fs ++ as.flatMap fault)
  | [], _, _, _, ht => by simpa using ht
  | a :: as, bs, fs, t, ht => by
    have hnext := Announces.foldl h as (ht.trans (h a t ht))
    simpa [List.append_assoc] using hnext

/-! ### Faults that halt nothing -/

/-- Faults of kinds that halt nothing leave no halt that changes anything. -/
theorem Announces.haltsNothing {s t : State} {bs : List ReportBody} {fs : List FaultLog} {kinds : List FaultKind}
    (h : Announces s t bs fs) (hn : NothingHalts s kinds) (hf : ∀ f ∈ fs, f.detail.kind ∈ kinds) :
    HaltsNothing { t with halt := false } t := by
  refine ⟨rfl, rfl, fun ht => ?_⟩
  obtain ⟨hclear, hsev⟩ := hn
  rcases h.halts ht with hs | ⟨f, hm, hs⟩
  · simp [hclear] at hs
  · rcases hsev with ho | hc
    · exact h.opState.trans ho
    · simp [hc _ (hf f hm)] at hs

/-- What is announced without the halt that is left. -/
theorem Announces.unhalted {s t : State} {bs : List ReportBody} {fs : List FaultLog} (h : Announces s t bs fs) :
    { t with halt := false } = { { s with
      book := t.book, closing := t.closing, reports := t.reports, nextSeq := t.nextSeq, latched := t.latched
      firstFault := t.firstFault } with halt := false } := by
  conv => lhs; rw [h.frame]

end Sys2Proof.Machine
end


section
/-! The operations of the book, each with the entry that it leaves, what it reports and what it latches. -/

namespace Sys2Proof.Machine

/-! ### The model's entries in the words of the statements -/

theorem evaluate_eq (c : StationConfig) (clock : StoreTime) (e : Entry) : evaluate c clock e = evaluatedAt c clock e :=
  rfl

theorem limitFor_eq (s : State) (l : LabelAddr) : limitFor s l = attemptLimitOf s l := by
  unfold limitFor attemptLimitOf
  cases s.recordOf l with
  | none => rfl
  | some r => simp

theorem promote_eq (s : State) (e : Entry) (p : Successor) : promote s e p = promotedEntry s e p := by
  unfold promote promotedEntry
  rw [limitFor_eq]
  rfl

theorem breaksLaw_iff (e : Entry) (p : Successor) : breaksLaw e p = true ↔ ¬ VersionLaw e.base p.target := by
  unfold breaksLaw VersionLaw targetGood
  cases e.base <;> simp

theorem chain_eq {e : Entry} {p : Successor} (h : e.successor = some p) (s : State) : chain s e p = waitingAgain s e := by
  unfold waitingAgain
  rw [h]
  dsimp only
  unfold chain
  by_cases hb : VersionLaw e.base p.target
  · have hf : ¬ breaksLaw e p = true := fun h => (breaksLaw_iff e p).mp h hb
    simp only [if_neg hf, if_pos hb]
    rfl
  · have ht : breaksLaw e p = true := (breaksLaw_iff e p).mpr hb
    simp only [if_pos ht, if_neg hb, limitFor_eq]
    rfl

theorem closingReport_eq (e : Entry) (r : ClosingRecord) : closingReport e r = closingOf e r := by
  obtain ⟨o, d, v, time⟩ := r
  cases o <;> rfl

theorem Announces.lateBody_eq {s t : State} {bs : List ReportBody} {fs : List FaultLog} (h : Announces s t bs fs)
    (e : Entry) : ownReport .late e t = lateBody s s.clock e := by
  rw [h.frame]
  rfl

theorem Announces.heldBody_eq {s t : State} {bs : List ReportBody} {fs : List FaultLog} (h : Announces s t bs fs)
    (e : Entry) : ownReport .held e t = heldBody s e := by
  rw [h.frame]
  rfl

/-! ### Entries that become late -/

/-- What is noted of an entry that may have become late (R64). -/
def lateNews (was : Bool) (e : Entry) : List Entry := [e].filter (fun n => n.late && !was)

theorem noteLate_announces (was : Bool) (e : Entry) (s : State) :
    Announces s (noteLate was e s) ((lateNews was e).map (lateBody s s.clock)) ((lateNews was e).map (lateFault s)) := by
  unfold noteLate
  cases h : e.late && !was with
  | true =>
    have hlatch := latch_announces .d205 e.label 0 e.lastGroup s
    have hboth := hlatch.trans (eventReport_announces (ownReport .late e (latchLate e s)) (latchLate e s))
    rw [show ownReport .late e (latchLate e s) = lateBody s s.clock e from hlatch.lateBody_eq e] at hboth
    have hnews : lateNews was e = [e] := List.filter_cons_of_pos h
    rw [if_pos rfl, hnews]
    exact hboth
  | false =>
    have hnews : lateNews was e = [] := List.filter_cons_of_neg (by simp [h])
    rw [if_neg (by simp), hnews]
    exact .refl s

theorem lateReport_announces (e : Entry) (s : State) : Announces s (lateReport e s) [lateBody s s.clock e] [] :=
  eventReport_announces (ownReport .late e s) s

theorem reportPromoted_announces (ns : List Entry) (s : State) :
    Announces s (reportPromoted ns s) (ns.map (lateBody s s.clock)) [] := by
  have h := Announces.foldl (s := s) (f := fun t n => lateReport n t) (body := fun n => [lateBody s s.clock n])
    (fault := fun _ => []) (fun n t ht => by
      have hn := lateReport_announces n t
      rwa [show lateBody t t.clock n = lateBody s s.clock n from ht.lateBody_eq n] at hn) ns (.refl s)
  have hbodies : ns.flatMap (fun n => [lateBody s s.clock n]) = ns.map (lateBody s s.clock) :=
    List.map_eq_flatMap.symm
  have hfaults : ns.flatMap (fun _ => ([] : List FaultLog)) = [] := by simp
  rw [hbodies, hfaults] at h
  exact h

/-! ### Closing -/

/-- The report of a closing entry queued, and its slot freed or its successor part promoted (R60). -/
theorem closeOut_announces {s : State} (hroom : s.reports.length < 256) (e : Entry) (r : ClosingRecord) :
    Announces s (closeOut e r s).1 [closingOf e r] ((promotedLate s e).map (lateFault s)) ∧
    (closeOut e r s).1.book = closedBook s e ∧ (closeOut e r s).1.closing = s.closing ∧
    (closeOut e r s).2.toList = promotedLate s e := by
  have hpush := pushReport_announces hroom (closingOf e r)
  unfold closeOut closedBook promotedLate promotedOf
  rw [closingReport_eq]
  cases hp : e.successor with
  | none =>
    refine ⟨?_, rfl, rfl, rfl⟩
    exact hpush.trans (.edit _ _ _)
  | some p =>
    have hprom : promote (pushReport (closingOf e r) s) e p = promotedEntry s e p := promote_eq s e p
    dsimp only
    rw [hprom]
    have hset := hpush.trans (.edit (pushReport (closingOf e r) s)
      (putEntry (promotedEntry s e p) s.book) s.closing)
    cases hl : (promotedEntry s e p).late with
    | true =>
      have hfault : ((Option.some (promotedEntry s e p)).toList.filter (fun n => n.late)).map (lateFault s) =
          [lateFault s (promotedEntry s e p)] := by simp [hl]
      refine ⟨?_, rfl, rfl, by simp [hl]⟩
      rw [if_pos rfl, Option.map_some, hfault]
      exact hset.trans (latch_announces .d205 (promotedEntry s e p).label 0 (promotedEntry s e p).lastGroup _)
    | false =>
      have hfault : ((Option.some (promotedEntry s e p)).toList.filter (fun n => n.late)).map (lateFault s) = [] := by
        simp [hl]
      refine ⟨?_, rfl, rfl, by simp [hl]⟩
      rw [if_neg (by simp), Option.map_some, hfault]
      exact hset

/-- An entry closes (R59 to R61): at once, or at the end of the closing order list. -/
theorem enterClosing_closes (e : Entry) (o : ClosingOutcome) (d : Deliverer) (v : Version) (s : State) :
    ∃ bodies, Announces s (enterClosing e o d v s) bodies ((closingLate s e).map (lateFault s)) ∧
      Closes s (enterClosing e o d v s) e ⟨o, d, v, s.clock⟩ := by
  by_cases h : s.closing = [] ∧ s.reports.length < 256
  · have hnow : closesNow s = true := decide_eq_true h
    let r : ClosingRecord := ⟨o, d, v, s.clock⟩
    let x : Entry := { e with state := .closing r, late := false }
    obtain ⟨hann, hbook, hclosing, hlate⟩ := closeOut_announces h.2 x r
    have henter : enterClosing e o d v s = reportPromoted (promotedLate s e) (closeOut x r s).1 := by
      rw [enterClosing_now h]
      dsimp only
      rw [closeOut_setEntry rfl]
      exact congrArg (fun ns => reportPromoted ns (closeOut x r s).1) hlate
    have hrep := reportPromoted_tells (promotedLate s e) (closeOut x r s).1
    have hboth := hann.trans (reportPromoted_announces (promotedLate s e) (closeOut x r s).1)
    have hbody : (promotedLate s e).map (lateBody (closeOut x r s).1 (closeOut x r s).1.clock) =
        (promotedLate s e).map (lateBody s s.clock) :=
      List.map_congr_left fun n _ => hann.lateBody_eq n
    rw [hbody] at hboth
    rw [henter]
    refine ⟨[closingOf x r] ++ (promotedLate s e).map (lateBody s s.clock), ?_,
      fun _ => ⟨hrep.book_eq.trans hbook, hrep.closing_eq.trans hclosing, ?_⟩,
      fun hc => by rw [hnow] at hc; cases hc⟩
    · rw [List.append_nil] at hboth
      rw [closingLate, if_pos hnow]
      exact hboth
    · have hq := hboth.queues
      have hsub : 256 - s.reports.length = 255 - s.reports.length + 1 := by omega
      rw [hsub, List.singleton_append, List.take_succ_cons] at hq
      exact hq
  · have hlater : closesNow s = false := decide_eq_false h
    rw [enterClosing_waits (not_closesNow h)]
    refine ⟨[], ?_, fun hc => ?_, fun _ => ⟨rfl, rfl, rfl, rfl⟩⟩
    · rw [closingLate, if_neg (by simp [hlater])]
      exact .edit ..
    · rw [hlater] at hc
      cases hc

theorem returnToWaiting_none {e : Entry} (h : e.successor = none) (s : State) :
    returnToWaiting e s = s.setEntry { e with state := .waiting } := by
  unfold returnToWaiting
  split
  next => rfl
  next p hp => rw [h] at hp; cases hp

theorem returnToWaiting_some {e : Entry} {p : Successor} (h : e.successor = some p) (s : State) :
    returnToWaiting e s = noteLate e.late (waitingAgain s e) (s.setEntry (waitingAgain s e)) := by
  unfold returnToWaiting
  split
  next hn => rw [h] at hn; cases hn
  next q hq => rw [← chain_eq hq]

theorem waitingAgain_none {e : Entry} (h : e.successor = none) (s : State) :
    waitingAgain s e = { e with state := .waiting } := by
  unfold waitingAgain
  split
  next => rfl
  next p hp => rw [h] at hp; cases hp

/-- An entry returns to WAITING (R57). -/
theorem returnToWaiting_returns (e : Entry) (s : State) :
    Announces s (returnToWaiting e s) ((waitingLate s e).map (lateBody s s.clock)) ((waitingLate s e).map (lateFault s)) ∧
      (returnToWaiting e s).book = putEntry (waitingAgain s e) s.book ∧
      (returnToWaiting e s).closing = s.closing := by
  cases hp : e.successor with
  | none =>
    have hnone : waitingLate s e = [] := by
      simp [waitingLate, waitingAgain_none hp]
    rw [returnToWaiting_none hp, hnone, waitingAgain_none hp]
    exact ⟨.edit .., rfl, rfl⟩
  | some p =>
    rw [returnToWaiting_some hp]
    have hset := Announces.edit s (putEntry (waitingAgain s e) s.book) s.closing
    have hnote := noteLate_tells e.late (waitingAgain s e) (s.setEntry (waitingAgain s e))
    refine ⟨?_, hnote.book_eq, hnote.closing_eq⟩
    exact hset.trans (noteLate_announces e.late (waitingAgain s e) (s.setEntry (waitingAgain s e)))

/-! ### HELD and the fit -/

/-- An entry enters HELD (R50). -/
theorem enterHeld_announces (e : Entry) (s : State) :
    let x : Entry := { e with state := .held, notes := { e.notes with fit := {} } }
    Announces s (enterHeld e s) [heldBody s x] [heldFault s x] ∧ (enterHeld e s).book = putEntry x s.book ∧
      (enterHeld e s).closing = s.closing := by
  intro x
  have hlatch := (Announces.edit s (putEntry x s.book) s.closing).trans
    (latch_announces .d201 x.label 0 x.lastGroup _)
  have hrep := eventReport_tells (ownReport .held x (latch .d201 x.label 0 x.lastGroup (s.setEntry x)))
    (latch .d201 x.label 0 x.lastGroup (s.setEntry x))
  refine ⟨?_, hrep.book_eq, hrep.closing_eq⟩
  have hboth := hlatch.trans (eventReport_announces (ownReport .held x (latch .d201 x.label 0 x.lastGroup
    (s.setEntry x))) _)
  rw [show ownReport .held x (latch .d201 x.label 0 x.lastGroup (s.setEntry x)) = heldBody s x from
    hlatch.heldBody_eq x] at hboth
  exact hboth

end Sys2Proof.Machine
end


section
/-! The end of a command that has changed the book, and states that differ in nothing the book reads. -/

namespace Sys2Proof.Machine

/-! ### The end of a command -/

/-- `s` with what `t` has made of the book, the reports and the faults, and with this exchange on the air, budget,
tally list, count of choices and quiet wait. -/
def concluded (s t : State) (d : Dialogue) (x : Option AirFrame) (b : Nat) (l : List (LabelAddr × Version)) (n : Nat)
    (q : Option Nat) : State :=
  { s with
    book := t.book, closing := t.closing, reports := t.reports, nextSeq := t.nextSeq, latched := t.latched
    firstFault := t.firstFault, dialogue := d, transmitting := x, budget := b, tally := l, choices := n
    quietWait := q }

/-- A command ends, after its part at the book, with no halt to take: the rest of its effects is at the exchange on
the air, the budget, the tally list and the count of choices. -/
theorem Announces.settled {s t : State} {bs : List ReportBody} {fs : List FaultLog} {kinds : List FaultKind}
    (h : Announces s t bs fs) (hn : NothingHalts s kinds) (hf : ∀ f ∈ fs, f.detail.kind ∈ kinds)
    (d : Dialogue) (x : Option AirFrame) (b : Nat) (l : List (LabelAddr × Version)) (n : Nat) :
    ∃ q, settle { t with dialogue := d, transmitting := x, budget := b, tally := l, choices := n } =
        concluded s t d x b l n q ∧ QuietWaitFollows (concluded s t d x b l n q) := by
  have hhalt := h.haltsNothing hn hf
  let v : State := { t with dialogue := d, transmitting := x, budget := b, tally := l, choices := n }
  let u : State := concluded s t d x b l n s.quietWait
  have hu : { v with halt := false } = u := by
    have hclear : u.halt = false := hn.1
    rw [show u = { u with halt := false } by rw [← hclear]]
    change { ({ t with dialogue := d, transmitting := x, budget := b, tally := l, choices := n } : State) with
      halt := false } = _
    rw [h.frame]
    rfl
  have hv : HaltsNothing u v := hu ▸ ⟨rfl, rfl, hhalt.only⟩
  exact ⟨quietAfter u, hv.settle_eq, rfl⟩

/-! ### What the book reads -/

/-- `u` has what an entry's end reads as `s` has it: the book, the reports, the clock, the configuration and the
attempt limits. -/
structure SameForEntries (s u : State) : Prop where
  book : u.book = s.book
  closing : u.closing = s.closing
  reports : u.reports = s.reports
  nextSeq : u.nextSeq = s.nextSeq
  clock : u.clock = s.clock
  config : u.config = s.config
  limit : ∀ l, attemptLimitOf u l = attemptLimitOf s l

/-- `u` has the faults too as `s` has them. -/
structure SameForBook (s u : State) : Prop extends SameForEntries s u where
  latched : u.latched = s.latched
  firstFault : u.firstFault = s.firstFault

theorem latch_sameForEntries (d : Detail) (l : LabelAddr) (b : Byte) (g : GroupNo) (s : State) :
    SameForEntries s (latch d l b g s) := ⟨rfl, rfl, rfl, rfl, rfl, rfl, fun _ => rfl⟩

section
variable {s u t : State} (h : SameForEntries s u)
include h

theorem SameForEntries.promotedEntry (e : Entry) (p : Successor) :
    Machine.promotedEntry u e p = Machine.promotedEntry s e p := by
  unfold Machine.promotedEntry
  rw [h.config, h.clock, h.limit]

theorem SameForEntries.promotedOf (e : Entry) : Machine.promotedOf u e = Machine.promotedOf s e := by
  unfold Machine.promotedOf
  exact congrArg (fun f => e.successor.map f) (funext fun p => h.promotedEntry e p)

theorem SameForEntries.promotedLate (e : Entry) : Machine.promotedLate u e = Machine.promotedLate s e := by
  unfold Machine.promotedLate
  rw [h.promotedOf]

theorem SameForEntries.closedBook (e : Entry) : Machine.closedBook u e = Machine.closedBook s e := by
  unfold Machine.closedBook
  rw [h.promotedOf, h.book]

theorem SameForEntries.closesNow : Machine.closesNow u = Machine.closesNow s := by
  unfold Machine.closesNow
  rw [h.closing, h.reports]

theorem SameForEntries.closingLate (e : Entry) : Machine.closingLate u e = Machine.closingLate s e := by
  unfold Machine.closingLate
  rw [h.closesNow, h.promotedLate]

theorem SameForEntries.lateBody (clock : StoreTime) : Machine.lateBody u clock = Machine.lateBody s clock := by
  funext e
  unfold Machine.lateBody ownStation
  rw [h.config]

theorem SameForEntries.lateFault : Machine.lateFault u = Machine.lateFault s := by
  funext e
  unfold Machine.lateFault
  rw [h.clock]

theorem SameForEntries.waitingAgain (e : Entry) : Machine.waitingAgain u e = Machine.waitingAgain s e := by
  cases hp : e.successor with
  | none => rw [waitingAgain_none hp, waitingAgain_none hp]
  | some p =>
    rw [← chain_eq hp, ← chain_eq hp]
    unfold chain
    rw [limitFor_eq, limitFor_eq, h.limit, h.config, h.clock]

theorem SameForEntries.waitingLate (e : Entry) : Machine.waitingLate u e = Machine.waitingLate s e := by
  unfold Machine.waitingLate
  rw [h.waitingAgain]

theorem SameForEntries.queues {bs : List ReportBody} (hq : Queues u t bs) : Queues s t bs := by
  unfold Queues at *
  rwa [h.reports, h.nextSeq] at hq

theorem SameForEntries.closes {e : Entry} {r : ClosingRecord} (hc : Closes u t e r) : Closes s t e r := by
  obtain ⟨hnow, hlater⟩ := hc
  refine ⟨fun hs => ?_, fun hs => ?_⟩
  · obtain ⟨hb, hcl, hq⟩ := hnow (h.closesNow.trans hs)
    refine ⟨hb.trans (h.closedBook e), hcl.trans h.closing, ?_⟩
    rw [h.clock, h.lateBody, h.promotedLate, h.reports] at hq
    exact h.queues hq
  · obtain ⟨hb, hcl, hr⟩ := hlater (h.closesNow.trans hs)
    exact ⟨by rw [hb, h.book], by rw [hcl, h.closing], hr.1.trans h.reports, hr.2.trans h.nextSeq⟩

theorem SameForEntries.returns {e : Entry}
    (hq : Queues u t (((Machine.waitingLate u e).map (Machine.lateBody u u.clock)).take (256 - u.reports.length)))
    (hb : t.book = putEntry (Machine.waitingAgain u e) u.book) : ReturnsToWaiting s t e := by
  rw [h.waitingLate, h.clock, h.lateBody, h.reports] at hq
  exact ⟨by rw [hb, h.waitingAgain, h.book], h.queues hq⟩
end

theorem SameForBook.latches {s u t : State} (h : SameForBook s u) {fs : List FaultLog} (hl : Latches u t fs) : Latches s t fs := by
  cases fs with
  | nil =>
    obtain ⟨hl, hf⟩ := latches_nil.mp hl
    exact ⟨hl.trans h.latched, hf.trans h.firstFault⟩
  | cons f fs =>
    have hl := latches_cons.mp hl
    rw [h.latched, h.firstFault] at hl
    exact latches_cons.mpr hl

/-- The record of a label when another is put at the head in place of its label's (R70). -/
theorem find?_moved {r : RosterRecord} (m : LabelAddr) (rs : List RosterRecord) :
    List.find? (fun x => x.label == m) (r :: List.filter (fun x => x.label != r.label) rs) =
      if r.label = m then some r else rs.find? (fun x => x.label == m) := by
  by_cases hm : r.label = m
  · rw [if_pos hm, List.find?_cons_of_pos (by simpa using hm)]
  · rw [if_neg hm, List.find?_cons_of_neg (by simpa using hm), List.find?_filter]
    refine congrArg (fun p => rs.find? p) (funext fun x => ?_)
    by_cases hx : x.label = m
    · simp [hx, Ne.symm hm]
    · simp [hx]

/-- A frame of a label heard touches no battery level, and so no attempt limit (R70, R73). -/
theorem heardRoster_limit (s : State) (l : LabelAddr) (version : Option Version) (rssi : Int) (m : LabelAddr) :
    attemptLimitOf { s with roster := heardRoster s l version rssi } m = attemptLimitOf s m := by
  cases hr : s.recordOf l with
  | none => simp [heardRoster, hr]
  | some r =>
    have hlabel : r.label = l := (recordOf_some hr).2
    subst hlabel
    have hof : State.recordOf { s with roster := heardRoster s r.label version rssi } m =
        if r.label = m then
          some { r with held := version.getD r.held, signal := max (-120) (min rssi 0), lastHeard := s.clock }
        else s.recordOf m := by
      have hheard : heardRoster s r.label version rssi =
          { r with held := version.getD r.held, signal := max (-120) (min rssi 0), lastHeard := s.clock } ::
            List.filter (fun x => x.label != r.label) s.roster := by
        unfold heardRoster
        rw [hr]
      rw [hheard]
      exact find?_moved (r := { r with
        held := version.getD r.held, signal := max (-120) (min rssi 0), lastHeard := s.clock }) m s.roster
    unfold attemptLimitOf
    rw [hof]
    by_cases hm : r.label = m
    · subst hm
      rw [if_pos rfl, hr]
      rfl
    · rw [if_neg hm]

/-- The book reads the same after a frame of a label has been heard. -/
theorem sameForBook_heard (s : State) (l : LabelAddr) (version : Option Version) (rssi : Int) (d : Dialogue)
    (n : Nat) : SameForBook s { s with
      dialogue := d, carriers := n, roster := heardRoster s l version rssi } :=
  ⟨⟨rfl, rfl, rfl, rfl, rfl, rfl, heardRoster_limit s l version rssi⟩, rfl, rfl⟩

end Sys2Proof.Machine
end


section
/-! The ends of the own transfer. -/

namespace Sys2Proof.Machine

/-! ### The part at the book, in any order of its faults -/

/-- `t` is a state that has announced these faults of `s`, in some order, and has `P`, but for the count of choices. -/
def AnnouncesSome (s t : State) (faults : List FaultLog) (P : State → Prop) : Prop :=
  ∃ bs fs A n, t = { A with choices := n } ∧ Announces s A bs fs ∧ (∀ f, f ∈ fs ↔ f ∈ faults) ∧ P A

theorem Announces.choices {s t : State} {bs : List ReportBody} {fs : List FaultLog} (h : Announces s t bs fs) :
    { t with choices := s.choices } = t := by
  conv => rhs; rw [h.frame]
  conv => lhs; rw [h.frame]

theorem Announces.some {s t : State} {bs : List ReportBody} {fs : List FaultLog} (h : Announces s t bs fs)
    {P : State → Prop} (hP : P t) : AnnouncesSome s t fs P :=
  ⟨bs, fs, t, s.choices, h.choices.symm, h, fun _ => Iff.rfl, hP⟩

theorem AnnouncesSome.either {s a b : State} {fs : List FaultLog} {P : State → Prop} (ha : AnnouncesSome s a fs P)
    (hb : AnnouncesSome s b fs P) : AnnouncesSome s (eitherOrder a b) fs P := by
  obtain ⟨bs, fs, A, _, rfl, hA⟩ := ha
  obtain ⟨bs', fs', B, _, rfl, hB⟩ := hb
  rcases eitherOrder_cases _ _ with h | h
  · exact ⟨bs, fs, A, _, h, hA⟩
  · exact ⟨bs', fs', B, _, h, hB⟩

/-- A fault taken first. -/
theorem AnnouncesSome.after_latch {s t : State} {fs : List FaultLog} {P : State → Prop} {d : Detail} {l : LabelAddr}
    {b : Byte} {g : GroupNo} (h : AnnouncesSome (latch d l b g s) t fs P) :
    AnnouncesSome s t (⟨d, l, b, g, s.clock⟩ :: fs) P := by
  obtain ⟨bs, fs', A, n, ht, hA, hmem, hP⟩ := h
  exact ⟨_, _, A, n, ht, (latch_announces d l b g s).trans hA, fun f => by simp [hmem], hP⟩

/-- A fault taken last. -/
theorem AnnouncesSome.latch {s t : State} {fs : List FaultLog} {P : State → Prop} (h : AnnouncesSome s t fs P)
    (hP : ∀ A, P A → ∀ d l b g, P (Machine.latch d l b g A)) (d : Detail) (l : LabelAddr) (b : Byte) (g : GroupNo) :
    AnnouncesSome s (Machine.latch d l b g t) (⟨d, l, b, g, s.clock⟩ :: fs) P := by
  obtain ⟨bs, fs', A, n, rfl, hA, hmem, hPA⟩ := h
  have hlatch := hA.trans (latch_announces d l b g A)
  rw [hA.clock] at hlatch
  exact ⟨_, _, Machine.latch d l b g A, n, rfl, hlatch, fun f => by simp [hmem, or_comm], hP A hPA d l b g⟩

/-- Faults of one kind, in some order (R148). -/
theorem Announces.latchesEither {s t : State} {bs : List ReportBody} {fs gs : List FaultLog} {k : FaultKind}
    (h : Announces s t bs fs) (hne : gs ≠ []) (hmem : ∀ f, f ∈ fs ↔ f ∈ gs) (hk : ∀ f ∈ gs, f.detail.kind = k) :
    LatchesEither s t k gs := by
  have hfold : ∀ (l : List FaultLog) (p : PerKind Bool), (∀ f ∈ l, f.detail.kind = k) → l ≠ [] →
      l.foldl (fun p f => p.insert f.detail.kind) p = p.insert k := by
    intro l
    induction l with
    | nil => exact fun _ _ h => absurd rfl h
    | cons f fs ih =>
      intro p hk _
      rw [List.foldl_cons, hk f List.mem_cons_self]
      cases fs with
      | nil => rfl
      | cons g gs =>
        rw [ih _ (fun f hf => hk f (List.mem_cons_of_mem _ hf)) (by simp)]
        cases k <;> rfl
  obtain ⟨f, fs, rfl⟩ : ∃ f fs', fs = f :: fs' := by
    obtain ⟨g, gs, rfl⟩ := List.exists_cons_of_ne_nil hne
    exact List.exists_cons_of_ne_nil (List.ne_nil_of_mem ((hmem g).mpr List.mem_cons_self))
  obtain ⟨hl, hf⟩ := latches_cons.mp h.latches
  refine ⟨?_, fun harmed => ⟨f, (hmem f).mp List.mem_cons_self, hf.trans (if_pos harmed)⟩,
    fun hset => hf.trans (if_neg hset)⟩
  rw [hl, hfold _ _ (fun f hf => hk f ((hmem f).mp hf)) (by simp)]

/-- What an entry's close says of a state is about its book and its reports alone. -/
theorem closes_latch {s A : State} {e : Entry} {r : ClosingRecord} (h : Closes s A e r) (d : Detail) (l : LabelAddr)
    (b : Byte) (g : GroupNo) : Closes s (latch d l b g A) e r := h

/-- An entry at its limit closes as ABANDONED, with its faults in either order (R56, R148). -/
theorem abandon_announces (e : Entry) (s : State) :
    AnnouncesSome s (abandon e s)
      (⟨.d203, e.label, 0, e.lastGroup, s.clock⟩ :: (closingLate s e).map (lateFault s))
      (fun A => Closes s A e ⟨.abandoned, ownStation s, e.target, s.clock⟩) := by
  have hsame := latch_sameForEntries .d203 e.label 0 e.lastGroup s
  unfold abandon
  refine AnnouncesSome.either ?_ ?_
  · obtain ⟨bs, hann, hcl⟩ := enterClosing_closes e .abandoned s.own e.target (latch .d203 e.label 0 e.lastGroup s)
    rw [hsame.closingLate, hsame.lateFault] at hann
    exact (hann.some (hsame.closes hcl)).after_latch
  · obtain ⟨bs, hann, hcl⟩ := enterClosing_closes e .abandoned s.own e.target s
    exact (hann.some (P := fun A => Closes s A e ⟨.abandoned, ownStation s, e.target, s.clock⟩) hcl).latch
      (fun A hA => closes_latch hA) ..

/-! ### The end of a transfer -/

theorem coveredAtEnd_silent (p : Phase) (c : TransferContext) : coveredAtEnd p c false = c.covered := by
  cases p with
  | sending r => cases r <;> rfl
  | awaitReady | awaitAck | awaitDone => rfl

/-- The budget after a transfer that ends while nothing is sent (R94, R128). -/
def returnedBudget (s : State) (c : TransferContext) : Nat :=
  min (s.budget + (estimateOf c.face - c.covered)) (s.config.policy.capacity * 100)

/-- A transfer's end: its part at the book, the unspent estimate returned, and LISTENING (R94). -/
theorem endTransfer_of_book {p : Phase} {c : TransferContext} {o : TransferOutcome} {held : Version} {e : Entry}
    {s A : State} {n : Nat} {bs : List ReportBody} {fs : List FaultLog} (hx : s.transmitting = none)
    (he : s.entryAt c.slot = some e) (hA : Announces s A bs fs)
    (hB : bookTakes o held { e with lastOutcome := some o } s = { A with choices := n }) :
    endTransfer p c o held s =
      { A with
        dialogue := .listening, transmitting := none, budget := returnedBudget s c, tally := s.tally, choices := n } := by
  unfold endTransfer
  dsimp only
  rw [transferOutcome_of_entry he, hB, hx]
  rw [show (none : Option AirFrame).isSome = false from rfl, coveredAtEnd_silent]
  have hbudget : A.budget = s.budget := by rw [hA.frame]
  have htally : A.tally = s.tally := by rw [hA.frame]
  unfold toListening credit State.capacity returnedBudget
  dsimp only
  rw [hbudget, hA.config, ← htally]

/-- The command that ends a transfer, with faults that halt nothing. -/
theorem endTransfer_settled {p : Phase} {c : TransferContext} {o : TransferOutcome} {held : Version} {e : Entry}
    {s A : State} {n : Nat} {bs : List ReportBody} {fs : List FaultLog} (hx : s.transmitting = none)
    (he : s.entryAt c.slot = some e) (hA : Announces s A bs fs)
    (hB : bookTakes o held { e with lastOutcome := some o } s = { A with choices := n })
    (hn : NothingHalts s [.delivery]) (hf : ∀ f ∈ fs, f.detail.kind ∈ [FaultKind.delivery]) :
    ∃ q, settle (endTransfer p c o held s) =
        concluded s A .listening none (returnedBudget s c) s.tally n q ∧
      QuietWaitFollows (concluded s A .listening none (returnedBudget s c) s.tally n q) := by
  rw [endTransfer_of_book hx he hA hB]
  exact hA.settled hn hf ..

theorem lateFaults_delivery (s : State) (es : List Entry) :
    ∀ f ∈ es.map (lateFault s), f.detail.kind ∈ [FaultKind.delivery] := by
  intro f hf
  obtain ⟨e, _, rfl⟩ := List.mem_map.mp hf
  exact List.mem_singleton_self _

/-- A failed transfer below the limit (R56). -/
theorem failedTransfer_below {e : Entry} {s : State} (h : e.attempts + 1 < attemptLimitOf s e.label) :
    failedTransfer e s = returnToWaiting { e with attempts := e.attempts + 1, limit := attemptLimitOf s e.label } s := by
  have hmin : min (e.attempts + 1) (limitFor s e.label) = e.attempts + 1 := by rw [limitFor_eq]; omega
  unfold failedTransfer
  dsimp only
  rw [hmin, limitFor_eq, if_neg (by omega)]

/-- A failed transfer at the limit (R56). -/
theorem failedTransfer_limit {e : Entry} {s : State} (h : attemptLimitOf s e.label ≤ e.attempts + 1) :
    failedTransfer e s =
      abandon { e with attempts := attemptLimitOf s e.label, limit := attemptLimitOf s e.label } s := by
  have hmin : min (e.attempts + 1) (limitFor s e.label) = attemptLimitOf s e.label := by rw [limitFor_eq]; omega
  unfold failedTransfer
  dsimp only
  rw [hmin, limitFor_eq, if_pos rfl]

/-! ### The expiries of the waits -/

theorem expiryOf_row {i : Instr} {p : Phase} {o : TransferOutcome}
    (h : (i, p, o) ∈ ([(.readyWaitExpiry, .awaitReady, .noAnswer), (.ackWaitExpiry, .awaitAck, .lost),
      (.doneWaitExpiry, .awaitDone, .uncertain)] : List (Instr × Phase × TransferOutcome))) :
    expiryOf p = some i ∧ (o = .noAnswer ∨ o = .lost ∨ o = .uncertain) ∧
      ∀ (c : TransferContext) (s : State), (p = .awaitAck → ¬ (c.resends < 2 ∧ covers c.fragmentTime s = true)) →
        waitExpires p c s = endTransfer p c o 0 s := by
  simp only [List.mem_cons, Prod.mk.injEq, List.not_mem_nil, or_false] at h
  rcases h with ⟨rfl, rfl, rfl⟩ | ⟨rfl, rfl, rfl⟩ | ⟨rfl, rfl, rfl⟩
  · exact ⟨rfl, by simp, fun _ _ _ => rfl⟩
  · exact ⟨rfl, by simp, fun c s hc => if_neg (hc rfl)⟩
  · exact ⟨rfl, by simp, fun _ _ _ => rfl⟩

theorem bookTakes_failed {o : TransferOutcome} (h : o = .noAnswer ∨ o = .lost ∨ o = .uncertain ∨ o = .badFace)
    (held : Version) (e : Entry) (s : State) : bookTakes o held e s = failedTransfer e s := by
  rcases h with rfl | rfl | rfl | rfl <;> rfl

theorem fragmentTime_eq (c : TransferContext) :
    c.fragmentTime = 376 + 16 * ((c.face.drop (16 * (c.fragment - 1))).take 16).length := by
  rw [TransferContext.fragmentTime, fragAirtime_eq]
  rfl

/-- Settles O37: a wait's deadline, by whether a frame start has met it and by the phase. -/
theorem waitExpiries : Obligations.WaitExpiries := by
  unfold Obligations.WaitExpiries
  intro i p o c w e s hrow hhalt hx hd hw hkey he
  obtain ⟨hexp, ho, hends⟩ := expiryOf_row hrow
  have hbusy : ∀ {d : Dialogue}, d ≠ .listening → ∀ {u : State}, u.dialogue = d → quietAfter u = none :=
    fun hne _ hu => quietAfter_of_not_listening (hu ▸ hne)
  refine ⟨fun hmet => ?_, fun hmet => ?_⟩
  · have hexec : exec i s = .next (settle (deadline p c s)) := by
      cases p <;> cases hexp
      · change execReadyWaitExpiry s = _
        simp [execReadyWaitExpiry, hd]
      · change execAckWaitExpiry s = _
        simp [execAckWaitExpiry, hd]
      · change execDoneWaitExpiry s = _
        simp [execDoneWaitExpiry, hd]
    have hdead : deadline p c s =
        { s with dialogue := .transferring p { c with wait := some { w with passed := true } } } := by
      simp [deadline, hw, hmet]
    rw [hexec, hdead, settle_of_no_halt (s := { s with
      dialogue := .transferring p { c with wait := some { w with passed := true } } }) hhalt, hbusy (by simp) rfl]
  · have hexec := exec_expiryOf hexp hd hw hmet
    rw [hexec, ← fragmentTime_eq c]
    refine ⟨fun hp hre hcov => ?_, fun hno hn hlimit => ?_⟩
    · subst hp
      have hc : c.resends < 2 ∧ covers c.fragmentTime s = true := ⟨hre, covers_iff.mpr hcov⟩
      rw [show waitExpires .awaitAck c s = sendFragment { c with resends := c.resends + 1 } true
        (deduct c.fragmentTime s) from if_pos hc]
      rw [settle_of_no_halt (s := sendFragment { c with resends := c.resends + 1 } true (deduct c.fragmentTime s)) hhalt,
        hbusy (by simp [sendFragment, beginSending]) rfl]
      rfl
    · have hend : waitExpires p c s = endTransfer p c o 0 s := by
        refine hends c s fun hp hc => ?_
        rcases hno with h | h | h
        · exact h hp
        · omega
        · have := covers_iff.mp hc.2
          omega
      intro back
      obtain ⟨hann, hbook, hclosing⟩ := returnToWaiting_returns back s
      have hB : bookTakes o 0 { e with lastOutcome := some o } s =
          { returnToWaiting back s with choices := s.choices } := by
        rw [bookTakes_failed (ho.imp_right (Or.imp_right Or.inl)), failedTransfer_below (e := { e with lastOutcome := some o }) hlimit, hann.choices]
      obtain ⟨q, hset, hq⟩ := endTransfer_settled (p := p) hx he hann hB hn (lateFaults_delivery s _)
      rw [hend, hset]
      refine ⟨_, rfl, ⟨hbook, hann.queues⟩, hann.latches, rfl, rfl, hq, ?_⟩
      unfold concluded
      rw [hclosing, ← hx]

/-! ### The transfer's own frames -/

theorem admissible_ready {f : ReadyFrame} (hl : f.label.wf = true) (hs : StationNo.wf f.station = true)
    (own : StationNo) : (AirFrame.ready f).admissible own = true := by
  simp [AirFrame.admissible, validStation_iff.mpr hs, validLabel_iff.mpr hl]

theorem admissible_done {f : DoneFrame} (hl : f.label.wf = true) (hs : StationNo.wf f.station = true)
    (own : StationNo) : (AirFrame.done f).admissible own = true := by
  simp [AirFrame.admissible, validStation_iff.mpr hs, validLabel_iff.mpr hl]

theorem admissible_refuse {f : RefuseFrame} (hl : f.label.wf = true) (hs : StationNo.wf f.station = true)
    (own : StationNo) : (AirFrame.refuse f).admissible own = true := by
  simp [AirFrame.admissible, validStation_iff.mpr hs, validLabel_iff.mpr hl]

/-- The state in which a frame of a label acts: its carrier has ended, and the Roster has heard it. -/
def heardState (s : State) (l : LabelAddr) (version : Option Version) (rssi : Int) : State :=
  { s with
    dialogue := heardDialogue s.dialogue, carriers := s.carriers - 1, roster := heardRoster s l version rssi }

theorem heardState_sameForBook (s : State) (l : LabelAddr) (version : Option Version) (rssi : Int) :
    SameForBook s (heardState s l version rssi) := sameForBook_heard ..

theorem handle_heard (l : LabelAddr) (version : Option Version) (rssi : Int) (s : State) :
    rosterHeard l version rssi { s with dialogue := heardDialogue s.dialogue, carriers := s.carriers - 1 } =
      heardState s l version rssi := rosterHeard_eq ..

/-- The READY that AWAIT_READY awaits (R87). -/
theorem readyReceived_awaited {f : ReadyFrame} {rssi : Int} {c : TransferContext} {s : State}
    (hd : s.dialogue = .transferring .awaitReady c) (hl : f.label = c.label)
    (hs : f.station = s.config.identity.station) :
    readyReceived f rssi { s with dialogue := heardDialogue s.dialogue, carriers := s.carriers - 1 } =
      Machine.readyAwaited f c (heardState s f.label (some f.held) rssi) := by
  unfold readyReceived
  dsimp only
  rw [handle_heard]
  have hd' : (heardState s f.label (some f.held) rssi).dialogue = .transferring .awaitReady c := by
    simp [heardState, hd, heardDialogue]
  split
  next x hx =>
    cases hd'.symm.trans hx
    exact if_pos ⟨hl, hs⟩
  next hx => exact absurd hd' (hx c)

/-- Settles O35: the READY's four reasons. -/
theorem readyAwaitedResult : Obligations.ReadyAwaited := by
  unfold Obligations.ReadyAwaited
  intro f rssi c e s hears hn hd hl hwf hst hswf hkey he hel
  obtain ⟨_, hx, hhalt, _⟩ := id hears
  have hexec : exec (.ready f rssi) s =
      .next (settle (Machine.readyAwaited f c (heardState s f.label (some f.held) rssi))) := by
    have h := exec_commandOf_hears (f := .ready f) hears (admissible_ready hwf hswf _) rssi
    rw [← readyReceived_awaited hd hl hst]
    exact h
  have hsame := heardState_sameForBook s f.label (some f.held) rssi
  have hn' : NothingHalts (heardState s f.label (some f.held) rssi) [.delivery] := hn
  have hx' : (heardState s f.label (some f.held) rssi).transmitting = none := hx
  have he' : (heardState s f.label (some f.held) rssi).entryAt c.slot = some e := he
  rw [hexec]
  generalize hu : heardState s f.label (some f.held) rssi = u at *
  -- A READY that closes the entry.
  have closing : ∀ (o : TransferOutcome) (k : ClosingOutcome),
      (∀ x v, bookTakes o f.held x v = enterClosing x k .label f.held v) →
      ∃ q A bs, settle (endTransfer .awaitReady c o f.held u) =
          concluded u A .listening none (returnedBudget u c) u.tally u.choices q ∧
        QuietWaitFollows (concluded u A .listening none (returnedBudget u c) u.tally u.choices q) ∧
        Announces u A bs ((closingLate u { e with lastOutcome := some o }).map (lateFault u)) ∧
        Closes u A { e with lastOutcome := some o } ⟨k, .label, f.held, u.clock⟩ := by
    intro o k hk
    obtain ⟨bs, hann, hcl⟩ := enterClosing_closes { e with lastOutcome := some o } k .label f.held u
    obtain ⟨q, hset, hq⟩ := endTransfer_settled (p := .awaitReady) (n := u.choices) hx' he' hann
      ((hk _ _).trans hann.choices.symm) hn' (lateFaults_delivery u _)
    exact ⟨q, _, bs, hset, hq, hann, hcl⟩
  have hframe : ∀ {A : State} {d x b q}, concluded u A d x b u.tally u.choices q = { s with
      book := A.book, closing := A.closing, roster := u.roster, reports := A.reports, nextSeq := A.nextSeq,
      latched := A.latched, firstFault := A.firstFault, dialogue := d, transmitting := x,
      carriers := u.carriers, quietWait := q, budget := b } := by
    intros
    rw [← hu]
    rfl
  have hcarriers : u.carriers = s.carriers - 1 := by rw [← hu]; rfl
  have hroster : u.roster = heardRoster s f.label (some f.held) rssi := by rw [← hu]; rfl
  have hclock : u.clock = s.clock := hsame.clock
  have hbudget : returnedBudget u c = returnedBudget s c := by
    unfold returnedBudget
    rw [hsame.config, show u.budget = s.budget by rw [← hu]; rfl]
  unfold Machine.readyAwaited
  cases hr : f.reason with
  | ready =>
    have hset : settle (sendFragment { c with fragment := 1 } false u) =
        { sendFragment { c with fragment := 1 } false u with
          quietWait := quietAfter (sendFragment { c with fragment := 1 } false u) } :=
      settle_of_no_halt hn'.1
    refine ⟨_, congrArg _ hset, rfl, hcarriers, hroster, ?_, ?_, by simp, by simp, by simp⟩
    · rw [← hu]
      rfl
    · rw [← hu]
      exact fun _ => ⟨rfl, rfl, ⟨rfl, rfl⟩, rfl, ⟨rfl, rfl⟩, rfl, rfl⟩
  | current =>
    obtain ⟨q, A, bs, hset, hq, hann, hcl⟩ := closing .current .seenCurrent fun _ _ => rfl
    rw [hsame.closingLate, hsame.lateFault] at hann
    rw [hclock] at hcl
    refine ⟨_, congrArg _ hset, hq, hcarriers, hroster, hframe, by simp, fun _ => ⟨rfl, rfl, hbudget⟩, by simp,
      fun _ => ⟨hsame.closes hcl, hsame.latches hann.latches⟩⟩
  | mismatch =>
    obtain ⟨q, A, bs, hset, hq, hann, hcl⟩ := closing .mismatch .mismatch fun _ _ => rfl
    rw [hsame.closingLate, hsame.lateFault] at hann
    rw [hclock] at hcl
    refine ⟨_, congrArg _ hset, hq, hcarriers, hroster, hframe, by simp, fun _ => ⟨rfl, rfl, hbudget⟩, by simp,
      fun _ => ⟨hsame.closes hcl, hsame.latches hann.latches⟩⟩
  | lowPower =>
    obtain ⟨hann, hbook, hclosing⟩ := returnToWaiting_returns { e with lastOutcome := some .lowPower } u
    obtain ⟨q, hset, hq⟩ := endTransfer_settled (p := .awaitReady) (o := .lowPower) (held := f.held) (n := u.choices)
      hx' he' hann hann.choices.symm hn' (lateFaults_delivery u _)
    have hret := hsame.returns (t := returnToWaiting { e with lastOutcome := some .lowPower } u) hann.queues hbook
    have hlat := hsame.latches hann.latches
    rw [hsame.waitingLate, hsame.lateFault] at hlat
    refine ⟨_, congrArg _ hset, hq, hcarriers, hroster, hframe, by simp, fun _ => ⟨rfl, rfl, hbudget⟩,
      fun _ => ⟨hret, hclosing.trans hsame.closing, hlat⟩, by simp⟩

end Sys2Proof.Machine
end


section
/-! The ends of the own transfer at a DONE, a REFUSE and the attempt limit. -/

namespace Sys2Proof.Machine

/-! ### The end of a transfer, with its faults in any order -/

theorem AnnouncesSome.mono {s t : State} {fs : List FaultLog} {P Q : State → Prop} (h : AnnouncesSome s t fs P)
    (hPQ : ∀ A, P A → Q A) : AnnouncesSome s t fs Q := by
  obtain ⟨bs, gs, A, n, ht, hA, hmem, hP⟩ := h
  exact ⟨bs, gs, A, n, ht, hA, hmem, hPQ A hP⟩

/-- `t` is the end of a transfer with this context: its part at the book in some order of these faults, the unspent
estimate returned, and LISTENING (R94). -/
def EndsSome (s t : State) (c : TransferContext) (faults : List FaultLog) (P : State → Prop) : Prop :=
  ∃ T n, AnnouncesSome s T faults P ∧
    t = { T with
      dialogue := .listening, transmitting := none, budget := returnedBudget s c, tally := s.tally, choices := n }

theorem EndsSome.either {s a b : State} {c : TransferContext} {fs : List FaultLog} {P : State → Prop}
    (ha : EndsSome s a c fs P) (hb : EndsSome s b c fs P) : EndsSome s (eitherOrder a b) c fs P := by
  obtain ⟨A, _, hA, rfl⟩ := ha
  obtain ⟨B, _, hB, rfl⟩ := hb
  rcases eitherOrder_cases _ _ with h | h
  · exact ⟨A, _, hA, h⟩
  · exact ⟨B, _, hB, h⟩

theorem EndsSome.after_latch {s t : State} {c : TransferContext} {fs : List FaultLog} {P : State → Prop} {d : Detail}
    {l : LabelAddr} {b : Byte} {g : GroupNo} (h : EndsSome (latch d l b g s) t c fs P) :
    EndsSome s t c (⟨d, l, b, g, s.clock⟩ :: fs) P := by
  obtain ⟨T, n, hT, ht⟩ := h
  exact ⟨T, n, hT.after_latch, ht⟩

theorem EndsSome.latch {s t : State} {c : TransferContext} {fs : List FaultLog} {P : State → Prop}
    (h : EndsSome s t c fs P) (hP : ∀ A, P A → ∀ d l b g, P (Machine.latch d l b g A)) (d : Detail) (l : LabelAddr)
    (b : Byte) (g : GroupNo) : EndsSome s (Machine.latch d l b g t) c (⟨d, l, b, g, s.clock⟩ :: fs) P := by
  obtain ⟨T, n, hT, rfl⟩ := h
  exact ⟨Machine.latch d l b g T, n, hT.latch hP d l b g, rfl⟩

/-- The part at the book of a transfer's end, with nothing on the air. -/
theorem endTransfer_endsSome {p : Phase} {c : TransferContext} {o : TransferOutcome} {held : Version} {e : Entry}
    {s : State} {fs : List FaultLog} {P : State → Prop} (hx : s.transmitting = none)
    (he : s.entryAt c.slot = some e)
    (hB : AnnouncesSome s (bookTakes o held { e with lastOutcome := some o } s) fs P) :
    EndsSome s (endTransfer p c o held s) c fs P := by
  obtain ⟨bs, gs, A, n, ht, hA, hmem, hP⟩ := hB
  exact ⟨A, n, ⟨bs, gs, A, s.choices, hA.choices.symm, hA, hmem, hP⟩, endTransfer_of_book hx he hA ht⟩

/-- The end of the command, with faults that halt nothing. -/
theorem EndsSome.settled {s t : State} {c : TransferContext} {fs : List FaultLog} {P : State → Prop}
    (h : EndsSome s t c fs P) (hn : NothingHalts s [.delivery]) (hne : fs ≠ [])
    (hf : ∀ f ∈ fs, f.detail.kind = FaultKind.delivery) :
    ∃ A n q, settle t = concluded s A .listening none (returnedBudget s c) s.tally n q ∧
      QuietWaitFollows (concluded s A .listening none (returnedBudget s c) s.tally n q) ∧ P A ∧
      LatchesEither s A .delivery fs := by
  obtain ⟨_, n, ⟨bs, gs, A, _, rfl, hA, hmem, hP⟩, rfl⟩ := h
  obtain ⟨q, hset, hq⟩ := hA.settled hn (fun f hg => List.mem_singleton.mpr (hf f ((hmem f).mp hg))) .listening none
    (returnedBudget s c) s.tally n
  exact ⟨A, n, q, hset, hq, hP, hA.latchesEither hne hmem hf⟩

theorem SameForBook.latchesEither {s u t : State} (h : SameForBook s u) {k : FaultKind} {fs : List FaultLog}
    (hl : LatchesEither u t k fs) : LatchesEither s t k fs := by
  rw [LatchesEither, h.latched, h.firstFault] at hl
  exact hl

theorem latchesEither_mono {s t : State} {k : FaultKind} {fs gs : List FaultLog} (hsub : fs ⊆ gs)
    (h : LatchesEither s t k fs) : LatchesEither s t k gs :=
  ⟨h.1, fun h0 => (h.2.1 h0).imp fun _ hf => ⟨hsub hf.1, hf.2⟩, h.2.2⟩

theorem lateFaults_kind (s : State) (es : List Entry) : ∀ f ∈ es.map (lateFault s), f.detail.kind = FaultKind.delivery :=
  fun f hf => List.mem_singleton.mp (lateFaults_delivery s es f hf)

/-! ### The attempt limit -/

/-- An entry at its limit after a transfer that failed (R56). -/
def exhausted (s : State) (e : Entry) (o : TransferOutcome) : Entry :=
  { e with
    attempts := attemptLimitOf s e.label, limit := attemptLimitOf s e.label, lastOutcome := some o }

/-- A failure at the limit abandons the entry (R55, R56). -/
theorem bookTakes_limit {o : TransferOutcome} (ho : o = .noAnswer ∨ o = .lost ∨ o = .uncertain ∨ o = .badFace)
    {e : Entry} {s : State} (hlimit : attemptLimitOf s e.label ≤ e.attempts + 1) :
    AnnouncesSome s (bookTakes o 0 { e with lastOutcome := some o } s)
      (⟨.d203, e.label, 0, e.lastGroup, s.clock⟩ :: (closingLate s (exhausted s e o)).map (lateFault s))
      (fun A => Closes s A (exhausted s e o) ⟨.abandoned, ownStation s, e.target, s.clock⟩) := by
  rw [bookTakes_failed ho, failedTransfer_limit (e := { e with lastOutcome := some o }) hlimit]
  exact abandon_announces (exhausted s e o) s

/-- A failure below the limit returns the entry to WAITING (R56, R57). -/
theorem bookTakes_below {o : TransferOutcome} (ho : o = .noAnswer ∨ o = .lost ∨ o = .uncertain ∨ o = .badFace)
    {e : Entry} {s : State} (hlimit : e.attempts + 1 < attemptLimitOf s e.label) :
    let back := { e with
      attempts := e.attempts + 1, limit := attemptLimitOf s e.label, lastOutcome := some o }
    AnnouncesSome s (bookTakes o 0 { e with lastOutcome := some o } s) ((waitingLate s back).map (lateFault s))
      (fun A => ReturnsToWaiting s A back ∧ A.closing = s.closing) := by
  intro back
  obtain ⟨hann, hbook, hclosing⟩ := returnToWaiting_returns back s
  rw [bookTakes_failed ho, failedTransfer_below (e := { e with lastOutcome := some o }) hlimit]
  exact hann.some ⟨⟨hbook, hann.queues⟩, hclosing⟩

/-! ### A REFUSE -/

/-- A REFUSE that ends the own transfer, after the Roster has heard it. -/
theorem exec_refuse_ends {f : RefuseFrame} {rssi : Int} {p : Phase} {c : TransferContext} {s : State} (h : Hears s)
    (hd : s.dialogue = .transferring p c)
    (hp : p = .awaitDone ∨ (p = .awaitAck ∧ c.fragment = fragmentCount c.face))
    (hl : f.label = c.label) (hwf : f.label.wf = true) (hs : f.station = s.config.identity.station)
    (hswf : StationNo.wf f.station = true) :
    exec (.refuse f rssi) s = .next (settle (endBadFace p c (heardState s f.label none rssi))) := by
  have hexec := exec_commandOf_hears (f := .refuse f) h (admissible_refuse hwf hswf _) rssi
  refine hexec.trans (congrArg (fun x => Host.Outcome.next (settle x)) ?_)
  change refuseReceived f rssi _ = _
  unfold refuseReceived
  dsimp only
  rw [handle_heard]
  have hend : (heardState s f.label none rssi).endedBy f.label f.station = some (p, c) := by
    have hphase : endingPhase p c = true := by
      rcases hp with rfl | ⟨rfl, hk⟩
      · rfl
      · simp [endingPhase, hk]
    simp [State.endedBy, heardState, hd, heardDialogue, hl, hs, hphase]
  split
  next hsome =>
    cases hend.symm.trans hsome
    rfl
  next hnone => cases hend.symm.trans hnone

/-- A transfer ended by a REFUSE: fault 204 first, or the book's faults first (R92, R148). -/
theorem endBadFace_endsSome {p : Phase} {c : TransferContext} {e : Entry} {s : State} {fs : List FaultLog}
    {P : State → Prop} (hx : s.transmitting = none) (he : s.entryAt c.slot = some e)
    (hP : ∀ A, P A → ∀ d l b g, P (latch d l b g A))
    (hB : AnnouncesSome s (bookTakes .badFace 0 { e with lastOutcome := some .badFace } s) fs P)
    (hL : AnnouncesSome (latch .d204 c.label 0 e.lastGroup s)
      (bookTakes .badFace 0 { e with lastOutcome := some .badFace } (latch .d204 c.label 0 e.lastGroup s)) fs P) :
    EndsSome s (endBadFace p c s) c (⟨.d204, c.label, 0, e.lastGroup, s.clock⟩ :: fs) P := by
  have hg : groupAt c.slot s = e.lastGroup := by simp [groupAt, he]
  unfold endBadFace latchBadFace
  dsimp only
  rw [hg]
  refine EndsSome.either ?_ ?_
  · exact (endTransfer_endsSome (s := latch .d204 c.label 0 e.lastGroup s) hx he hL).after_latch
  · exact (endTransfer_endsSome hx he hB).latch hP ..

/-- Settles O40, by both orders of fault 204 and the book's part. -/
theorem refuseEndsTransfer : Obligations.RefuseEndsTransfer := by
  unfold Obligations.RefuseEndsTransfer
  intro f rssi p c e s hears hn hd hp hl hwf hst hswf hkey he hlimit back
  have hsame := heardState_sameForBook s f.label none rssi
  let u := heardState s f.label none rssi
  have hlimit' : e.attempts + 1 < attemptLimitOf u e.label := by rwa [hsame.limit]
  have hlatch := latch_sameForEntries .d204 c.label 0 e.lastGroup u
  have hback : { e with
      attempts := e.attempts + 1, limit := attemptLimitOf u e.label, lastOutcome := some .badFace } = back := by
    rw [hsame.limit]
  have hB := bookTakes_below (o := .badFace) (by simp) hlimit'
  have hL := bookTakes_below (o := .badFace) (e := e) (s := latch .d204 c.label 0 e.lastGroup u) (by simp) hlimit'
  dsimp only at hB hL
  rw [hlatch.limit, hback] at hL
  rw [hback] at hB
  rw [hlatch.waitingLate, hlatch.lateFault] at hL
  have hL' := hL.mono (Q := fun A => ReturnsToWaiting u A back ∧ A.closing = u.closing)
    fun A ⟨⟨hb, hq⟩, hc⟩ => ⟨hlatch.returns hq hb, hc⟩
  obtain ⟨A, n, q, hset, hq, ⟨⟨hbook, hqueue⟩, hclosing⟩, hlat⟩ :=
    (endBadFace_endsSome (p := p) (s := u) hears.2.1 he (fun _ hA _ _ _ _ => hA) hB hL').settled hn (by simp)
      (by
        intro g hg
        rcases List.mem_cons.mp hg with rfl | hg
        · rfl
        · exact lateFaults_kind _ _ g hg)
  have hlat' := hsame.latchesEither hlat
  rw [hsame.waitingLate, hsame.lateFault] at hlat'
  refine ⟨_, (exec_refuse_ends hears hd hp hl hwf hst hswf).trans (congrArg _ hset), rfl, ?_, hlat', rfl, rfl, rfl, hq, ?_⟩
  · exact hsame.returns (t := A) hqueue hbook
  · unfold concluded
    rw [hclosing]
    rw [← hears.2.1]
    rfl

/-- Settles O38: the expiries at the limit, and a REFUSE at the limit by both orders of fault 204 and the book's
part. -/
theorem limitAbandonsEntry : Obligations.LimitAbandonsEntry := by
  unfold Obligations.LimitAbandonsEntry
  intro c e s hop hn hx hkey he limit abandoned hlimit
  refine ⟨fun i p o w hrow hd hw hmet hno => ?_, fun f rssi p hd hp hl hwf hst hswf => ?_⟩
  · obtain ⟨hexp, ho, hends⟩ := expiryOf_row hrow
    have hend : waitExpires p c s = endTransfer p c o 0 s := by
      refine hends c s fun hp hc => ?_
      rw [← fragmentTime_eq c] at hno
      have hcov := covers_iff.mp hc.2
      rcases hno hp with h | h
      · exact absurd hc.1 (by omega)
      · omega
    have hB := bookTakes_limit (o := o) (ho.imp_right (Or.imp_right Or.inl)) (s := s) hlimit
    obtain ⟨A, n, q, hset, hq, hcl, hlat⟩ := (endTransfer_endsSome (p := p) hx he hB).settled hn (by simp)
      (by
        intro g hg
        rcases List.mem_cons.mp hg with rfl | hg
        · rfl
        · exact lateFaults_kind _ _ g hg)
    refine ⟨concluded s A .listening none (returnedBudget s c) s.tally n q, ?_, ⟨rfl, hcl, hlat, rfl, hq⟩, ?_⟩
    · rw [exec_expiryOf hexp hd hw hmet, hend]
      exact congrArg _ hset
    · unfold concluded
      rw [← hx]
  · have hears : Hears s := ⟨hop, hx, hn.1, by simp [isTallying, hd]⟩
    have hsame := heardState_sameForBook s f.label none rssi
    let u := heardState s f.label none rssi
    have hlatch := latch_sameForEntries .d204 c.label 0 e.lastGroup u
    have hlimit' : attemptLimitOf u e.label ≤ e.attempts + 1 := by
      rw [hsame.limit]
      exact hlimit
    have hended : exhausted u e .badFace = exhausted s e .badFace := by
      unfold exhausted
      rw [hsame.limit]
    have hB := bookTakes_limit (o := .badFace) (by simp) hlimit'
    have hL := bookTakes_limit (o := .badFace) (s := latch .d204 c.label 0 e.lastGroup u) (by simp) hlimit'
    rw [show exhausted (latch .d204 c.label 0 e.lastGroup u) e .badFace = exhausted s e .badFace from hended,
      hlatch.closingLate, hlatch.lateFault] at hL
    rw [hended] at hB
    have hL' := hL.mono (Q := fun A => Closes u A (exhausted s e .badFace)
      ⟨.abandoned, ownStation u, e.target, u.clock⟩) fun A hA => hlatch.closes hA
    obtain ⟨A, n, q, hset, hq, hcl, hlat⟩ :=
      (endBadFace_endsSome (p := p) (s := u) hx he (fun _ hA _ _ _ _ => hA) hB hL').settled hn (by simp)
        (by
          intro g hg
          simp only [List.mem_cons] at hg
          rcases hg with rfl | rfl | hg
          · rfl
          · rfl
          · exact lateFaults_kind _ _ g hg)
    rw [hsame.closingLate, hsame.lateFault] at hlat
    have hlat' := hsame.latchesEither hlat
    have hcl' : Closes s A (exhausted s e .badFace) ⟨.abandoned, ownStation s, e.target, s.clock⟩ := hsame.closes hcl
    refine ⟨concluded u A .listening none (returnedBudget u c) u.tally n q,
      (exec_refuse_ends hears hd hp hl hwf hst hswf).trans (congrArg _ hset),
      ⟨rfl, hcl', ?_, rfl, hq⟩, rfl, rfl, ?_⟩
    · exact latchesEither_mono (List.Perm.swap ..).subset hlat'
    · unfold concluded
      rw [← hx]
      rfl

/-! ### A DONE -/

/-- A DONE that ends the own transfer, after the Roster has heard it. -/
theorem exec_done_ends {f : DoneFrame} {rssi : Int} {p : Phase} {c : TransferContext} {s : State} (h : Hears s)
    (hd : s.dialogue = .transferring p c)
    (hp : p = .awaitDone ∨ (p = .awaitAck ∧ c.fragment = fragmentCount c.face))
    (hl : f.label = c.label) (hwf : f.label.wf = true) (hs : f.station = s.config.identity.station)
    (hswf : StationNo.wf f.station = true) :
    exec (.done f rssi) s = .next (settle (joinTally (c.label, c.target)
      (endTransfer p c .done f.held (heardState s f.label (some f.held) rssi)))) := by
  have hexec := exec_commandOf_hears (f := .done f) h (admissible_done hwf hswf _) rssi
  refine hexec.trans (congrArg (fun x => Host.Outcome.next (settle x)) ?_)
  change doneReceived f rssi _ = _
  unfold doneReceived
  dsimp only
  rw [handle_heard]
  have hend : (heardState s f.label (some f.held) rssi).endedBy f.label f.station = some (p, c) := by
    have hphase : endingPhase p c = true := by
      rcases hp with rfl | ⟨rfl, hk⟩
      · rfl
      · simp [endingPhase, hk]
    simp [State.endedBy, heardState, hd, heardDialogue, hl, hs, hphase]
  split
  next hsome =>
    cases hend.symm.trans hsome
    rfl
  next hnone => cases hend.symm.trans hnone

/-- Settles O39. -/
theorem doneEndsTransfer : Obligations.DoneEndsTransfer := by
  unfold Obligations.DoneEndsTransfer
  intro f rssi p c e s hears hn hd hp hl hwf hst hswf hkey he htally ended
  have hsame := heardState_sameForBook s f.label (some f.held) rssi
  let u := heardState s f.label (some f.held) rssi
  obtain ⟨bs, hann, hcl⟩ := enterClosing_closes ended .delivered u.own e.target u
  have hend : endTransfer p c .done f.held u = _ :=
    endTransfer_of_book (p := p) (n := u.choices) hears.2.1 he hann hann.choices.symm
  obtain ⟨q, hset, hq⟩ := hann.settled hn (lateFaults_delivery u _) .listening none (returnedBudget u c)
    (tallyJoined (c.label, c.target) u.tally) u.choices
  have hlat := hsame.latches hann.latches
  rw [hsame.closingLate, hsame.lateFault] at hlat
  refine ⟨concluded u (enterClosing ended .delivered u.own e.target u) .listening none (returnedBudget u c)
      (tallyJoined (c.label, c.target) u.tally) u.choices q,
    ?_, rfl, hsame.closes hcl, hlat, rfl, rfl, rfl, rfl, hq, ?_⟩
  · rw [exec_done_ends hears hd hp hl hwf hst hswf, hend, joinTally_eq (by exact htally)]
    exact congrArg _ hset
  · unfold concluded
    rw [← hears.2.1]
    rfl

end Sys2Proof.Machine
end


section
/-! Frames overheard: confirmations, and a peer's TALLY. -/

namespace Sys2Proof.Machine

/-! ### A confirmation (R49) -/

theorem confirm_open {l : LabelAddr} {v : Version} {s : State} {e : Entry} (he : s.entryOf l = some e)
    (ho : e.isOpen = true) (hv : atLeast v e.target = true) (o : ClosingOutcome) (d : Deliverer) :
    confirm l v o d s = enterClosing e o d v s := by
  unfold confirm
  rw [he]
  exact if_pos (by simp [ho, hv])

theorem confirm_other {l : LabelAddr} {v : Version} {s : State}
    (h : ∀ e, s.entryOf l = some e → e.isOpen = false ∨ atLeast v e.target = false) (o : ClosingOutcome)
    (d : Deliverer) : confirm l v o d s = s := by
  unfold confirm
  split
  next e he =>
    refine if_neg ?_
    rcases h e he with h | h <;> simp [h]
  next => rfl

/-- No exchange on the air changes what a confirmation does. -/
theorem confirm_exchange (l : LabelAddr) (v : Version) (o : ClosingOutcome) (dl : Deliverer) (s : State)
    (d : Dialogue) (n : Nat) : confirm l v o dl { s with dialogue := d, carriers := n } =
      { confirm l v o dl s with dialogue := d, carriers := n } := by
  cases he : s.entryOf l with
  | none =>
    have hno : ∀ x, s.entryOf l = some x → x.isOpen = false ∨ atLeast v x.target = false :=
      fun x hx => by cases he.symm.trans hx
    rw [confirm_other hno, confirm_other (s := { s with dialogue := d, carriers := n }) hno]
  | some e =>
    by_cases hc : e.isOpen = true ∧ atLeast v e.target = true
    · rw [confirm_open he hc.1 hc.2, confirm_open (s := { s with dialogue := d, carriers := n }) he hc.1 hc.2,
        (enterClosing_indifferent e o dl v).exchange]
    · have hno : ∀ x, s.entryOf l = some x → x.isOpen = false ∨ atLeast v x.target = false := by
        intro x hx
        cases he.symm.trans hx
        simpa [Classical.or_iff_not_imp_left] using hc
      rw [confirm_other hno, confirm_other (s := { s with dialogue := d, carriers := n }) hno]

theorem confirm_tally (l : LabelAddr) (v : Version) (o : ClosingOutcome) (d : Deliverer) (s : State) :
    (confirm l v o d s).tally = s.tally := by
  obtain ⟨_, _, _, _, _, htally, _⟩ := (confirm_changes l v o d s).keeps
  exact htally

theorem confirm_with_tally (l : LabelAddr) (v : Version) (o : ClosingOutcome) (d : Deliverer) (s : State) :
    { confirm l v o d s with tally := s.tally } = confirm l v o d s := by
  rw [← confirm_tally l v o d s]

/-- A confirmation that closes an entry, with faults that halt nothing. -/
theorem confirm_closes {l : LabelAddr} {v : Version} {s : State} {e : Entry} (he : s.entryOf l = some e)
    (ho : e.isOpen = true) (hv : atLeast v e.target = true) (o : ClosingOutcome) (d : Deliverer)
    (hn : NothingHalts s [.delivery]) :
    let w := confirm l v o d s
    Closes s w e ⟨o, d, v, s.clock⟩ ∧ Latches s w ((closingLate s e).map (lateFault s)) ∧
      HaltsNothing { w with halt := false } w ∧
      { w with halt := false } = { s with
        book := w.book, closing := w.closing, reports := w.reports, nextSeq := w.nextSeq, latched := w.latched
        firstFault := w.firstFault } := by
  intro w
  obtain ⟨bs, hann, hcl⟩ := enterClosing_closes e o d v s
  rw [← confirm_open he ho hv] at hann hcl
  refine ⟨hcl, hann.latches, hann.haltsNothing hn (lateFaults_delivery s _), ?_⟩
  rw [hann.unhalted, ← hn.1]

/-! ### The label in transfer -/

theorem heardState_inTransferWith (s : State) (l m : LabelAddr) (version : Option Version) (rssi : Int) :
    (heardState s l version rssi).inTransferWith m = true ↔ transferLabel s = some m := by
  unfold heardState State.inTransferWith transferLabel
  cases s.dialogue <;> simp [heardDialogue]

theorem endingPhase_eq {s : State} {p : Phase} {c : TransferContext} (h : s.dialogue = .transferring p c) :
    endingPhase p c = endAwaited s := by
  unfold endAwaited endingPhase
  rw [h]
  cases p <;> rfl

/-- A DONE or REFUSE that no phase awaits ends no transfer (R88, R90, R92, R95). -/
theorem endedBy_none {s : State} {l : LabelAddr} {n : StationNo}
    (h : transferLabel s ≠ some l ∨ n ≠ s.config.identity.station ∨ endAwaited s = false) (version : Option Version)
    (rssi : Int) : (heardState s l version rssi).endedBy l n = none := by
  cases hd : s.dialogue with
  | listening | standingOff | tallying => simp [State.endedBy, heardState, hd, heardDialogue]
  | transferring p c =>
    have hno : ¬ (l = c.label ∧ n = s.config.identity.station ∧ endingPhase p c = true) := by
      rintro ⟨rfl, rfl, hp⟩
      rw [endingPhase_eq hd] at hp
      simp [transferLabel, hd, hp] at h
    simp only [State.endedBy, heardState, hd, heardDialogue]
    exact if_neg hno

/-! ### What a frame overheard does -/

/-- A frame that reaches the Roster only. -/
theorem rosterOnly_notAwaited {i : Instr} {s : State} (h : s.halt = false) {l : LabelAddr} {version : Option Version}
    {rssi : Int} (hexec : exec i s = .next (settle (unawaited (heardState s l version rssi)))) :
    NotAwaited i s { s with roster := heardRoster s l version rssi } :=
  notAwaited_of_act (.refl h) hexec

/-- A frame that confirms an entry, or finds none to confirm. -/
theorem confirms_notAwaited {i : Instr} {s : State} (hn : NothingHalts s [.delivery]) {l : LabelAddr}
    {r : ClosingRecord} {rssi : Int} {tally : List (LabelAddr × Version)} (hr : r.time = s.clock)
    (hexec : exec i s = .next (settle (unawaited
      { confirm l r.version r.outcome r.deliverer (heardState s l (some r.version) rssi) with tally := tally }))) :
    (∀ e, s.entryOf l = some e → e.isOpen = true → atLeast r.version e.target = true →
      ∃ u, NotAwaited i s u ∧ Closes s u e r ∧ Latches s u ((closingLate s e).map (lateFault s)) ∧
        u = { s with
          book := u.book, closing := u.closing, roster := heardRoster s l (some r.version) rssi,
          reports := u.reports, nextSeq := u.nextSeq, latched := u.latched, firstFault := u.firstFault,
          tally := tally }) ∧
    ((∀ e, s.entryOf l = some e → e.isOpen = false ∨ atLeast r.version e.target = false) →
      NotAwaited i s { s with roster := heardRoster s l (some r.version) rssi, tally := tally }) := by
  let v : State := { s with roster := heardRoster s l (some r.version) rssi }
  have hsame : SameForBook s v := sameForBook_heard s l (some r.version) rssi s.dialogue s.carriers
  have hex : confirm l r.version r.outcome r.deliverer (heardState s l (some r.version) rssi) =
      { confirm l r.version r.outcome r.deliverer v with
        dialogue := heardDialogue s.dialogue, carriers := s.carriers - 1 } := confirm_exchange (s := v) ..
  rw [hex] at hexec
  refine ⟨fun e he ho hv => ?_, fun hno => ?_⟩
  · obtain ⟨hcl, hlat, hhalt, hframe⟩ := confirm_closes (s := v) he ho hv r.outcome r.deliverer hn
    have hlat' := hsame.latches hlat
    rw [hsame.closingLate, hsame.lateFault] at hlat'
    have hrec : (⟨r.outcome, r.deliverer, r.version, v.clock⟩ : ClosingRecord) = r := by rw [← hr]
    rw [hrec] at hcl
    let w := confirm l r.version r.outcome r.deliverer v
    refine ⟨{ w with halt := false, tally := tally }, ?_, hsame.closes hcl, hlat', ?_⟩
    · refine notAwaited_of_act (v := { w with tally := tally }) ⟨rfl, rfl, hhalt.only⟩ ?_
      exact hexec
    · exact congrArg (fun x : State => { x with tally := tally }) hframe
  · rw [confirm_other (s := v) hno] at hexec
    exact notAwaited_of_act (v := { v with tally := tally }) (.refl hn.1) hexec

/-! ### The obligation -/

/-- A READY that no phase awaits. -/
theorem exec_ready_overheard {f : ReadyFrame} {rssi : Int} {s : State} (h : Hears s) (hwf : f.label.wf = true)
    (hswf : StationNo.wf f.station = true)
    (hno : transferLabel s ≠ some f.label ∨ f.station ≠ s.config.identity.station ∨ readyIsAwaited s = false) :
    exec (.ready f rssi) s =
      .next (settle (readyOverheard f (heardState s f.label (some f.held) rssi))) := by
  refine (exec_commandOf_hears (f := .ready f) h (admissible_ready hwf hswf _) rssi).trans ?_
  refine congrArg (fun x => Host.Outcome.next (settle x)) ?_
  change readyReceived f rssi _ = _
  unfold readyReceived
  dsimp only
  rw [handle_heard]
  split
  next c hc =>
    have hd : s.dialogue = .transferring .awaitReady c := by
      cases hs : s.dialogue <;> simp_all [heardState, heardDialogue]
    refine if_neg ?_
    rintro ⟨hl, hst⟩
    rcases hno with hno | hno | hno
    · exact hno (by simp [transferLabel, hd, hl])
    · exact hno hst
    · simp [readyIsAwaited, hd] at hno
  next => rfl

/-- A DONE that ends no transfer. -/
theorem exec_done_overheard {f : DoneFrame} {rssi : Int} {s : State} (h : Hears s) (hwf : f.label.wf = true)
    (hswf : StationNo.wf f.station = true)
    (hno : transferLabel s ≠ some f.label ∨ f.station ≠ s.config.identity.station ∨ endAwaited s = false) :
    exec (.done f rssi) s =
      .next (settle (doneOverheard f (heardState s f.label (some f.held) rssi))) := by
  refine (exec_commandOf_hears (f := .done f) h (admissible_done hwf hswf _) rssi).trans ?_
  refine congrArg (fun x => Host.Outcome.next (settle x)) ?_
  change doneReceived f rssi _ = _
  unfold doneReceived
  dsimp only
  rw [handle_heard]
  split
  next hsome => cases (endedBy_none hno (some f.held) rssi).symm.trans hsome
  next => rfl

/-- A REFUSE that ends no transfer. -/
theorem exec_refuse_overheard {f : RefuseFrame} {rssi : Int} {s : State} (h : Hears s) (hwf : f.label.wf = true)
    (hswf : StationNo.wf f.station = true)
    (hno : transferLabel s ≠ some f.label ∨ f.station ≠ s.config.identity.station ∨ endAwaited s = false) :
    exec (.refuse f rssi) s = .next (settle (unawaited (heardState s f.label none rssi))) := by
  refine (exec_commandOf_hears (f := .refuse f) h (admissible_refuse hwf hswf _) rssi).trans ?_
  refine congrArg (fun x => Host.Outcome.next (settle x)) ?_
  change refuseReceived f rssi _ = _
  unfold refuseReceived
  dsimp only
  rw [handle_heard]
  split
  next hsome => cases (endedBy_none hno none rssi).symm.trans hsome
  next => rfl

/-- Settles O41, by the frame and by whether its label is the one in transfer. -/
theorem overheardFramesConfirm : Obligations.OverheardFramesConfirm := by
  unfold Obligations.OverheardFramesConfirm
  intro rssi s hears hn hkey htally own rosterOnly confirms
  have hhalt := hears.2.2.1
  refine ⟨fun f hwf hswf => ⟨fun hother => ⟨fun hr => ?_, fun hr => ?_⟩, fun hown hno => ?_⟩,
    fun f hwf hswf => ⟨fun hother => ⟨fun hst => ?_, fun hst => ?_⟩, fun hown hno => ?_⟩,
    fun f hwf hswf hno => ?_⟩
  · refine confirms_notAwaited hn rfl ((exec_ready_overheard hears hwf hswf (.inl hother)).trans ?_)
    have hin := mt (heardState_inTransferWith s f.label f.label (some f.held) rssi).mp hother
    unfold readyOverheard
    rw [if_pos ⟨hr, by simpa using hin⟩]
    exact congrArg (fun x => Host.Outcome.next (settle (unawaited x))) (confirm_with_tally ..).symm
  · refine rosterOnly_notAwaited hhalt ((exec_ready_overheard hears hwf hswf (.inl hother)).trans ?_)
    unfold readyOverheard
    rw [if_neg (fun h => hr h.1)]
  · refine rosterOnly_notAwaited hhalt ((exec_ready_overheard hears hwf hswf (.inr hno)).trans ?_)
    have hin := (heardState_inTransferWith s f.label f.label (some f.held) rssi).mpr hown
    unfold readyOverheard
    rw [if_neg (by simp [hin])]
  · refine confirms_notAwaited hn rfl ((exec_done_overheard hears hwf hswf (.inl hother)).trans ?_)
    have hin := mt (heardState_inTransferWith s f.label f.label (some f.held) rssi).mp hother
    unfold doneOverheard
    rw [if_neg hin, if_pos (by exact hst), joinTally_eq (by rw [confirm_tally]; exact htally), confirm_tally]
    rfl
  · refine confirms_notAwaited hn rfl ((exec_done_overheard hears hwf hswf (.inl hother)).trans ?_)
    have hin := mt (heardState_inTransferWith s f.label f.label (some f.held) rssi).mp hother
    unfold doneOverheard
    rw [if_neg hin, if_neg (by exact hst)]
    exact congrArg (fun x => Host.Outcome.next (settle (unawaited x))) (confirm_with_tally ..).symm
  · refine rosterOnly_notAwaited hhalt ((exec_done_overheard hears hwf hswf (.inr hno)).trans ?_)
    have hin := (heardState_inTransferWith s f.label f.label (some f.held) rssi).mpr hown
    unfold doneOverheard
    rw [if_pos hin]
  · exact rosterOnly_notAwaited hhalt (exec_refuse_overheard hears hwf hswf hno)

end Sys2Proof.Machine
end


section
/-! A peer's TALLY. -/

namespace Sys2Proof.Machine

/-- No exchange on the air that a frame heard leaves changes what a pair does. -/
theorem tallyPair_exchange (sender : StationNo) (p : LabelAddr × Version) (s : State) (n : Nat) :
    tallyPair sender p { s with dialogue := heardDialogue s.dialogue, carriers := n } =
      { tallyPair sender p s with dialogue := heardDialogue s.dialogue, carriers := n } := by
  have hin : (rosterTally p.1 p.2 { s with dialogue := heardDialogue s.dialogue, carriers := n }).inTransferWith p.1 =
      (rosterTally p.1 p.2 s).inTransferWith p.1 := by
    unfold rosterTally State.inTransferWith
    cases s.dialogue <;> rfl
  unfold tallyPair
  dsimp only
  rw [hin]
  split
  · split
    · rfl
    · exact confirm_exchange (s := rosterTally p.1 p.2 s) ..
  · rfl

theorem tallyPairs_exchange (sender : StationNo) (n : Nat) : ∀ (ps : List (LabelAddr × Version)) (s : State),
    ps.foldl (fun t p => tallyPair sender p t) { s with dialogue := heardDialogue s.dialogue, carriers := n } =
      { ps.foldl (fun t p => tallyPair sender p t) s with dialogue := heardDialogue s.dialogue, carriers := n }
  | [], _ => rfl
  | p :: ps, s => by
    have hnext := tallyPairs_exchange sender n ps (tallyPair sender p s)
    rw [tallyPair_changesDialogue] at hnext
    rw [List.foldl_cons, List.foldl_cons, tallyPair_exchange, hnext]

/-- A pair touches no battery level, and so no attempt limit (R72). -/
theorem rosterTally_limit (l : LabelAddr) (v : Version) (s : State) (m : LabelAddr) :
    attemptLimitOf (rosterTally l v s) m = attemptLimitOf s m := by
  have hof : (rosterTally l v s).recordOf m =
      (s.recordOf m).map (fun r => if r.label = l ∧ newer v r.held = true then { r with held := v } else r) := by
    unfold rosterTally State.recordOf
    rw [List.find?_map]
    refine congrArg _ (congrArg (fun p => s.roster.find? p) (funext fun r => ?_))
    simp only [Function.comp_apply]
    split <;> rfl
  unfold attemptLimitOf
  rw [hof]
  cases s.recordOf m with
  | none => rfl
  | some r =>
    simp only [Option.map_some, Option.any_some]
    split <;> rfl

theorem rosterTally_sameForBook (l : LabelAddr) (v : Version) (b : Bool) (s : State) :
    SameForBook s (rosterTally l v { s with halt := b }) :=
  ⟨⟨rfl, rfl, rfl, rfl, rfl, rfl, rosterTally_limit l v s⟩, rfl, rfl⟩

/-- One pair taken, with faults that halt nothing. -/
theorem tallyPair_takes {u w : State} (h : HaltsNothing u w) (hn : NothingHalts u [.delivery]) (sender : StationNo)
    (p : LabelAddr × Version) :
    ∃ u', TakesPair sender p u u' ∧ HaltsNothing u' (tallyPair sender p w) ∧ NothingHalts u' [.delivery] := by
  have hvalid : validLabel p.1 = true ↔ 1 ≤ p.1.toNat ∧ p.1.toNat ≤ 16777214 := by
    rw [validLabel_iff, LabelAddr.wf, Bool.and_eq_true, decide_eq_true_iff, decide_eq_true_iff]
  by_cases hl : validLabel p.1 = true
  · have hrange := hvalid.mp hl
    have hskip : ∀ {P : Prop}, p.1.toNat < 1 ∨ 16777214 < p.1.toNat → P := fun h => by omega
    let t : State := rosterTally p.1 p.2 w
    have hpair : tallyPair sender p w =
        if t.inTransferWith p.1 then t else confirm p.1 p.2 .peerDelivered (.station sender) t := if_pos hl
    have ht : t = { rosterTally p.1 p.2 u with halt := w.halt } := by
      change rosterTally p.1 p.2 w = _
      rw [h.same]
      rfl
    have hin : t.inTransferWith p.1 = true ↔ transferLabel u = some p.1 := by
      rw [ht]
      unfold rosterTally State.inTransferWith transferLabel
      cases u.dialogue <;> simp
    have hsame : SameForBook u t := by
      rw [ht]
      exact rosterTally_sameForBook p.1 p.2 w.halt u
    by_cases hclose : transferLabel u ≠ some p.1 ∧ ∃ e, u.entryOf p.1 = some e ∧ e.isOpen = true ∧
        atLeast p.2 e.target = true
    · obtain ⟨hother, e, he, ho, hv⟩ := hclose
      have het : t.entryOf p.1 = some e := by
        rw [ht]
        exact he
      rw [hpair, if_neg (mt hin.mp hother), confirm_open het ho hv]
      obtain ⟨bs, hann, hcl⟩ := enterClosing_closes e .peerDelivered (.station sender) p.2 t
      have hlat := hsame.latches hann.latches
      rw [hsame.closingLate, hsame.lateFault] at hlat
      rw [hsame.clock] at hcl
      have hop : t.opState = u.opState := by rw [ht]; rfl
      have hhalts : (enterClosing e .peerDelivered (.station sender) p.2 t).halt = true → u.opState = .halted := by
        intro hh
        rcases hann.halts hh with hh | ⟨f, hf, hstop⟩
        · exact h.only (by rw [ht] at hh; exact hh)
        · rcases hn.2 with ho | hc
          · exact ho
          · have hkind := lateFaults_kind _ _ f hf
            rw [hkind, hsame.config, hc _ (List.mem_singleton_self _)] at hstop
            cases hstop
      have hframe : { enterClosing e .peerDelivered (.station sender) p.2 t with halt := false } = { u with
          book := (enterClosing e .peerDelivered (.station sender) p.2 t).book
          closing := (enterClosing e .peerDelivered (.station sender) p.2 t).closing
          roster := t.roster
          reports := (enterClosing e .peerDelivered (.station sender) p.2 t).reports
          nextSeq := (enterClosing e .peerDelivered (.station sender) p.2 t).nextSeq
          latched := (enterClosing e .peerDelivered (.station sender) p.2 t).latched
          firstFault := (enterClosing e .peerDelivered (.station sender) p.2 t).firstFault } := by
        rw [hann.unhalted, ht, ← h.clear]
        rfl
      have hroster : t.roster = u.roster.map (fun r =>
          if r.label = p.1 ∧ newer p.2 r.held = true then { r with held := p.2 } else r) := by
        rw [ht]
        rfl
      refine ⟨{ enterClosing e .peerDelivered (.station sender) p.2 t with halt := false },
        ⟨hskip, fun _ _ => ⟨?_, fun x _ hx _ _ => ?_, fun hno => ?_, ?_⟩⟩,
        ⟨rfl, rfl, fun hh => ?_⟩, rfl, ?_⟩
      · rw [hframe]
        exact hroster
      · cases he.symm.trans hx
        exact ⟨hsame.closes hcl, hlat⟩
      · rcases hno with hno | hno
        · exact absurd hno hother
        · rcases hno e he with hno | hno
          · rw [ho] at hno
            cases hno
          · rw [hv] at hno
            cases hno
      · rw [hframe]
      · exact hann.opState.trans (hop.trans (hhalts hh))
      · rw [hframe]
        exact hn.2
    · have hconf : tallyPair sender p w = t := by
        rw [hpair]
        by_cases hi : t.inTransferWith p.1 = true
        · exact if_pos hi
        · rw [if_neg hi]
          refine confirm_other (fun e he => ?_) _ _
          rw [ht] at he
          cases ho : e.isOpen with
          | false => exact .inl rfl
          | true =>
            refine .inr (Bool.eq_false_iff.mpr fun hv => ?_)
            exact hclose ⟨mt hin.mpr hi, e, he, ho, hv⟩
      rw [hconf, ht]
      refine ⟨rosterTally p.1 p.2 u, ⟨hskip, fun _ _ => ⟨rfl, fun e hne he ho hv => ?_, fun _ => ?_, rfl⟩⟩,
        ⟨rfl, h.clear, h.only⟩, hn⟩
      · exact absurd ⟨hne, e, he, ho, hv⟩ hclose
      · exact ⟨⟨rfl, rfl⟩, ⟨rfl, rfl⟩, rfl, rfl⟩
  · have hrange := mt hvalid.mpr hl
    refine ⟨u, ⟨fun _ => rfl, fun h1 h2 => absurd ⟨h1, h2⟩ hrange⟩, ?_, hn⟩
    rw [show tallyPair sender p w = w from if_neg hl]
    exact h

theorem tallyPairs_take (sender : StationNo) : ∀ (ps : List (LabelAddr × Version)) {u w : State},
    HaltsNothing u w → NothingHalts u [.delivery] →
    ∃ u', TakesPairs sender ps u u' ∧ HaltsNothing u' (ps.foldl (fun t p => tallyPair sender p t) w)
  | [], u, _, h, _ => ⟨u, rfl, h⟩
  | p :: ps, _, _, h, hn => by
    obtain ⟨v, hv, hh, hn'⟩ := tallyPair_takes h hn sender p
    obtain ⟨u', hu, hh'⟩ := tallyPairs_take sender ps hh hn'
    exact ⟨u', ⟨v, hv, hu⟩, hh'⟩

/-- Settles O43, by induction on the pairs. -/
theorem peerTallyConfirms : Obligations.PeerTallyConfirms := by
  unfold Obligations.PeerTallyConfirms
  intro f s hears hn hlen hs hown _
  have hadm : (AirFrame.tally f).admissible s.config.identity.station = true := by
    simp [AirFrame.admissible, validStation_iff.mpr hs, hown, hlen]
  obtain ⟨u, hu, hh⟩ := tallyPairs_take f.sender f.pairs (HaltsNothing.refl hn.1) hn
  refine ⟨u, hu, notAwaited_of_act hh ((exec_commandOf_hears hears hadm 0).trans ?_)⟩
  refine congrArg (fun x => Host.Outcome.next (settle (unawaited x))) ?_
  exact tallyPairs_exchange f.sender (s.carriers - 1) f.pairs s

end Sys2Proof.Machine
end


section
/-! A CALL at the Roster, and a model change. -/

namespace Sys2Proof.Machine

/-! ### The Roster (R69 to R76) -/

/-- The search for a free roster slot finds the first one, when one is in reach. -/
theorem rosterFreeFrom_find? {rs : List RosterRecord} : ∀ {fuel n : Nat},
    (∃ k, n ≤ k ∧ k ≤ n + fuel ∧ ∀ r ∈ rs, r.slot ≠ k) →
    (List.range' n (fuel + 1)).find? (fun k => rs.all (fun r => r.slot != k)) = some (rosterFreeFrom rs n fuel)
  | 0, n, ⟨k, h1, h2, h3⟩ => by
    have hk : k = n := by omega
    subst hk
    rw [List.range'_succ, List.find?_cons_of_pos (by simpa using h3)]
    rfl
  | fuel + 1, n, ⟨k, h1, h2, h3⟩ => by
    rw [List.range'_succ, rosterFreeFrom]
    cases hn : rs.any (fun r => r.slot == n) with
    | false =>
      rw [if_neg (by simp), List.find?_cons_of_pos]
      simpa using hn
    | true =>
      rw [if_pos rfl, List.find?_cons_of_neg]
      · refine rosterFreeFrom_find? ⟨k, ?_, by omega, h3⟩
        obtain ⟨r, hr, hs⟩ := List.any_eq_true.mp hn
        have : n ≠ k := fun h => h3 r hr (h ▸ by simpa using hs)
        omega
      · simpa using hn

/-- Fewer records than slots leave one of them free. -/
theorem roster_slot_free (rs : List RosterRecord) : ∃ k, k ≤ rs.length ∧ ∀ r ∈ rs, r.slot ≠ k := by
  refine Classical.byContradiction fun h => ?_
  simp only [not_exists, not_and, Classical.not_forall, Classical.not_not] at h
  have hsub : List.range (rs.length + 1) ⊆ rs.map RosterRecord.slot := by
    intro k hk
    obtain ⟨r, hr, hs⟩ := h k (by have := List.mem_range.mp hk; omega)
    exact List.mem_map.mpr ⟨r, hr, hs⟩
  have hle := List.Nodup.length_le_of_subset List.nodup_range hsub
  simp only [List.length_range, List.length_map] at hle
  omega

/-- The lowest free roster slot as the statements say it (R71). -/
theorem rosterFree_find? (rs : List RosterRecord) :
    ((List.range (rs.length + 1)).find? (fun n => rs.all (fun r => r.slot != n))).getD 0 = rosterFree rs := by
  obtain ⟨k, hk, hfree⟩ := roster_slot_free rs
  rw [List.range_eq_range', rosterFreeFrom_find? ⟨k, Nat.zero_le k, by omega, hfree⟩]
  rfl

/-- The record a full Roster gives up as the statements say it (R75). -/
theorem replaceable_eq (s : State) :
    replaceable s = (s.roster.filter (fun r => (s.entryOf r.label).isNone)).getLast? := by
  rw [replaceable, List.getLast?_eq_head?_reverse, ← List.filter_reverse, List.head?_filter]

/-- A CALL that changes no model changes the Roster alone (R71, R75, R76). -/
theorem rosterCall_same {f : CallFrame} {rssi : Int} {s : State}
    (h : ∀ r, s.recordOf f.label = some r → r.model = f.model) :
    rosterCall f rssi s.isTransferring s = { s with roster := calledRoster f rssi s } := by
  unfold rosterCall calledRoster
  cases hr : s.recordOf f.label with
  | some r =>
    obtain ⟨_, hlabel⟩ := recordOf_some hr
    dsimp only
    rw [if_pos (h r hr)]
    unfold State.moveToHead without
    simp only [hlabel]
    rw [← hlabel]
    rfl
  | none =>
    dsimp only
    rw [rosterFree_find?, ← replaceable_eq]
    by_cases hlen : s.roster.length < 4096
    · rw [if_pos hlen]
      exact if_pos hlen
    · rw [if_neg hlen]
      refine (if_neg hlen).trans ?_
      cases replaceable s <;> rfl

/-- A CALL that changes a model (R74). -/
theorem rosterCall_other {f : CallFrame} {rssi : Int} {s : State} {r : RosterRecord}
    (hr : s.recordOf f.label = some r) (h : r.model ≠ f.model) :
    rosterCall f rssi s.isTransferring s = modelChange f { s with roster := calledRoster f rssi s } := by
  obtain ⟨_, hlabel⟩ := recordOf_some hr
  unfold rosterCall calledRoster
  rw [hr]
  dsimp only
  rw [if_neg h]
  unfold State.moveToHead without
  simp only [hlabel]
  rw [← hlabel]
  rfl

/-! ### What a model change does not read -/

theorem eventReport_withRoster (r : ReportBody) (s : State) (d : Dialogue) (n : Nat) (rs : List RosterRecord) :
    eventReport r { s with dialogue := d, carriers := n, roster := rs } =
      { eventReport r s with dialogue := d, carriers := n, roster := rs } := by
  have hroom : State.hasRoom { s with dialogue := d, carriers := n, roster := rs } = s.hasRoom := rfl
  unfold eventReport
  rw [hroom]
  split <;> rfl

theorem enterHeld_withRoster (e : Entry) (s : State) (d : Dialogue) (n : Nat) (rs : List RosterRecord) :
    enterHeld e { s with dialogue := d, carriers := n, roster := rs } =
      { enterHeld e s with dialogue := d, carriers := n, roster := rs } := by
  let x : Entry := { withFit {} e with state := .held }
  let t := latch .d201 x.label 0 x.lastGroup (s.setEntry x)
  exact eventReport_withRoster (ownReport .held x t) t d n rs

theorem refit_withRoster (m : BitVec 4) (e : Entry) (s : State) (d : Dialogue) (n : Nat) (rs : List RosterRecord) :
    refit m e { s with dialogue := d, carriers := n, roster := rs } =
      { refit m e s with dialogue := d, carriers := n, roster := rs } := by
  have hm : State.modelRecord { s with dialogue := d, carriers := n, roster := rs } m = s.modelRecord m := rfl
  unfold refit
  rw [hm]
  split
  · rfl
  · split
    · rfl
    · exact enterHeld_withRoster ..

theorem recheckModel_withRoster (l : LabelAddr) (m : BitVec 4) (s : State) (d : Dialogue) (n : Nat)
    (rs : List RosterRecord) : recheckModel l m { s with dialogue := d, carriers := n, roster := rs } =
      { recheckModel l m s with dialogue := d, carriers := n, roster := rs } := by
  have hl : State.entryOf { s with dialogue := d, carriers := n, roster := rs } l = s.entryOf l := rfl
  unfold recheckModel
  rw [hl]
  split
  · split
    · exact refit_withRoster ..
    · rfl
  · rfl

theorem modelChange_withRoster (f : CallFrame) (s : State) (d : Dialogue) (n : Nat) (rs : List RosterRecord) :
    modelChange f { s with dialogue := d, carriers := n, roster := rs } =
      { modelChange f s with dialogue := d, carriers := n, roster := rs } := by
  unfold modelChange
  dsimp only
  rw [← recheckModel_withRoster, ← eventReport_withRoster]
  rfl

/-! ### What a model change does -/

/-- The report of a model change as the statement writes it. -/
def changedBody (s : State) (f : CallFrame) (attempts : Nat) (notes : Notes) (group : GroupNo) : ReportBody :=
  ⟨.modelChanged, f.label, f.held, s.clock, .label, attempts, notes, group⟩

/-- The fault of a model change. -/
def changedFault (s : State) (f : CallFrame) (group : GroupNo) : FaultLog := ⟨.d202, f.label, 0, group, s.clock⟩

theorem modelReport_none {f : CallFrame} {s : State} (h : s.entryOf f.label = none) :
    modelReport f s = changedBody s f 0 {} 0 := by
  unfold modelReport
  rw [h]
  rfl

theorem modelReport_some {f : CallFrame} {s : State} {e : Entry} (h : s.entryOf f.label = some e) :
    modelReport f s = changedBody s f e.attempts e.notes e.lastGroup := by
  unfold modelReport
  rw [h]
  rfl

/-- The fault and the report of a model change, before the re-check (R74). -/
theorem modelChange_told (f : CallFrame) (s : State) :
    let g := lastGroupOf f.label s
    let t := eventReport (modelReport f (latch .d202 f.label 0 g s)) (latch .d202 f.label 0 g s)
    Announces s t [modelReport f s] [changedFault s f g] ∧ modelChange f s = recheckModel f.label f.model t ∧
      t.book = s.book ∧ t.closing = s.closing := by
  intro g t
  have hrep := eventReport_tells (modelReport f (latch .d202 f.label 0 g s)) (latch .d202 f.label 0 g s)
  exact ⟨(latch_announces .d202 f.label 0 g s).trans (eventReport_announces _ _), rfl, hrep.book_eq, hrep.closing_eq⟩

/-- The re-check of an entry that fits the new model (R51). -/
theorem refit_fits {m : BitVec 4} {e : Entry} {s : State} {d : DeliveredFace} {n : FitNotes}
    (h : fit e.face s.config.models[m.toFin] = some (d, n)) :
    refit m e s = s.setEntry { e with state := .waiting, notes := { e.notes with fit := n } } := by
  have hm : fit e.face (s.modelRecord m) = some (d, n) := h
  unfold refit
  rw [hm]
  rfl

/-- The re-check of a HELD entry that does not fit (R51). -/
theorem refit_held {m : BitVec 4} {e : Entry} {s : State} (h : fit e.face s.config.models[m.toFin] = none)
    (hs : e.state = .held) :
    refit m e s = s.setEntry { e with state := .held, notes := { e.notes with fit := {} } } := by
  have hm : fit e.face (s.modelRecord m) = none := h
  unfold refit
  rw [hm]
  refine (if_pos hs).trans ?_
  unfold withFit
  rw [← hs]

/-- The re-check of a WAITING entry that does not fit (R50, R51). -/
theorem refit_enters {m : BitVec 4} {e : Entry} {s : State} (h : fit e.face s.config.models[m.toFin] = none)
    (hs : e.state ≠ .held) : refit m e s = enterHeld e s := by
  have hm : fit e.face (s.modelRecord m) = none := h
  unfold refit
  rw [hm]
  exact if_neg hs

/-- What a re-check reports and latches. -/
theorem refit_none_announces {m : BitVec 4} {e : Entry} {s : State} (h : fit e.face s.config.models[m.toFin] = none)
    (hs : e.state = .waiting ∨ e.state = .held) :
    let held : Entry := { e with state := .held, notes := { e.notes with fit := {} } }
    Announces s (refit m e s) (if e.state = .waiting then [heldBody s held] else [])
        (if e.state = .waiting then [heldFault s held] else []) ∧
      (refit m e s).book = putEntry held s.book ∧ (refit m e s).closing = s.closing := by
  intro held
  rcases hs with hs | hs
  · rw [refit_enters h (by simp [hs]), if_pos hs, if_pos hs]
    exact enterHeld_announces e s
  · rw [refit_held h hs, if_neg (by simp [hs]), if_neg (by simp [hs])]
    exact ⟨.edit .., rfl, rfl⟩

theorem Announces.held_eq {s t : State} {bs : List ReportBody} {fs : List FaultLog} (h : Announces s t bs fs)
    (e : Entry) : heldBody t e = heldBody s e ∧ heldFault t e = heldFault s e := by
  rw [h.frame]
  exact ⟨rfl, rfl⟩

section
variable {f : CallFrame} {s : State}

theorem modelChange_absent (h : s.entryOf f.label = none) :
    Announces s (modelChange f s) [changedBody s f 0 {} 0] [changedFault s f 0] ∧ SameBook s (modelChange f s) := by
  obtain ⟨hann, hmodel, hbook, hclosing⟩ := modelChange_told f s
  have hg : lastGroupOf f.label s = 0 := by simp [lastGroupOf, h]
  rw [hg] at hann hmodel hbook hclosing
  rw [modelReport_none h] at hann
  rw [hmodel]
  generalize eventReport (modelReport f (latch .d202 f.label 0 0 s)) (latch .d202 f.label 0 0 s) = t at hann hbook hclosing
  have hof : t.entryOf f.label = none := by
    unfold State.entryOf at h ⊢
    rwa [hbook]
  unfold recheckModel
  rw [hof]
  exact ⟨hann, hbook, hclosing⟩

variable {e : Entry} (he : s.entryOf f.label = some e)
include he

/-- A model change with an entry there: its fault and report, and then its re-check (R74). -/
theorem modelChange_found : ∃ t, Announces s t [changedBody s f e.attempts e.notes e.lastGroup]
    [changedFault s f e.lastGroup] ∧ SameBook s t ∧
    modelChange f s = if e.state = .waiting ∨ e.state = .held then refit f.model e t else t := by
  obtain ⟨hann, hmodel, hbook, hclosing⟩ := modelChange_told f s
  have hg : lastGroupOf f.label s = e.lastGroup := by simp [lastGroupOf, he]
  rw [hg] at hann hmodel hbook hclosing
  rw [modelReport_some he] at hann
  refine ⟨_, hann, ⟨hbook, hclosing⟩, ?_⟩
  rw [hmodel]
  generalize eventReport (modelReport f (latch .d202 f.label 0 e.lastGroup s))
    (latch .d202 f.label 0 e.lastGroup s) = t at hbook
  have hof : t.entryOf f.label = some e := by
    unfold State.entryOf at he ⊢
    rwa [hbook]
  unfold recheckModel
  rw [hof]

theorem modelChange_unchecked (h1 : e.state ≠ .waiting) (h2 : e.state ≠ .held) :
    Announces s (modelChange f s) [changedBody s f e.attempts e.notes e.lastGroup] [changedFault s f e.lastGroup] ∧
      SameBook s (modelChange f s) := by
  obtain ⟨t, hann, hbook, ht⟩ := modelChange_found he
  rw [ht, if_neg (not_or.mpr ⟨h1, h2⟩)]
  exact ⟨hann, hbook⟩

theorem modelChange_fits (hs : e.state = .waiting ∨ e.state = .held) {d : DeliveredFace} {n : FitNotes}
    (hfit : fit e.face s.config.models[f.model.toFin] = some (d, n)) :
    Announces s (modelChange f s) [changedBody s f e.attempts e.notes e.lastGroup] [changedFault s f e.lastGroup] ∧
      (modelChange f s).book = putEntry { e with state := .waiting, notes := { e.notes with fit := n } } s.book ∧
      (modelChange f s).closing = s.closing := by
  obtain ⟨t, hann, ⟨hbook, hclosing⟩, ht⟩ := modelChange_found he
  rw [← hann.config] at hfit
  rw [ht, if_pos hs, refit_fits hfit, ← hbook]
  exact ⟨hann.trans (.edit ..), rfl, hclosing⟩

theorem modelChange_unfit (hs : e.state = .waiting ∨ e.state = .held)
    (hfit : fit e.face s.config.models[f.model.toFin] = none) :
    let held : Entry := { e with state := .held, notes := { e.notes with fit := {} } }
    Announces s (modelChange f s)
        (changedBody s f e.attempts e.notes e.lastGroup :: if e.state = .waiting then [heldBody s held] else [])
        (changedFault s f e.lastGroup :: if e.state = .waiting then [heldFault s held] else []) ∧
      (modelChange f s).book = putEntry held s.book ∧ (modelChange f s).closing = s.closing := by
  intro held
  obtain ⟨t, hann, ⟨hbook, hclosing⟩, ht⟩ := modelChange_found he
  rw [← hann.config] at hfit
  obtain ⟨hre, hb, hc⟩ := refit_none_announces hfit hs
  rw [(hann.held_eq held).1, (hann.held_eq held).2] at hre
  rw [ht, if_pos hs]
  exact ⟨hann.trans hre, hb.trans (by rw [hbook]), hc.trans hclosing⟩
end

end Sys2Proof.Machine
end


section
/-! A CALL: its Roster, its model change, and its first decision. -/

namespace Sys2Proof.Machine

/-! ### The end of a command that differs in its halt -/

/-- An operation of the book acts the same under another halt. -/
theorem Indifferent.withHalt {F : State → State} (hF : Indifferent F) (u : State) (b : Bool) :
    ∃ b', F { u with halt := b } = { F u with halt := b' } := by
  obtain ⟨k, hk⟩ := hF u
  have hself : F u = dress ⟨u.dialogue, u.carriers⟩ (haltAfter u.halt k u.config.policy.severity u.opState)
      u.config.policy.severity (F u) := by
    conv => lhs; rw [← dress_self u]
    exact hk.dressed ..
  refine ⟨haltAfter b k u.config.policy.severity u.opState, ?_⟩
  refine (hk.dressed ⟨u.dialogue, u.carriers⟩ b u.config.policy.severity).trans ?_
  conv => rhs; rw [hself]
  rfl

theorem Indifferent.opState {F : State → State} (hF : Indifferent F) (u : State) : (F u).opState = u.opState := by
  obtain ⟨_, hk⟩ := hF u
  exact hk.opState

/-- In HALTED an operation of the book ends its command the same under another halt. -/
theorem Indifferent.settle_congr {F : State → State} (hF : Indifferent F) {u : State} (h : u.opState = .halted)
    (b : Bool) : settle (F { u with halt := b }) = settle (F u) := by
  obtain ⟨b', hb⟩ := hF.withHalt u b
  rw [hb, settle_of_halted_congr ((hF.opState u).trans h)]

theorem enterHeld_indifferent (e : Entry) : Indifferent (enterHeld e) := by
  let x : Entry := { withFit {} e with state := .held }
  exact BlindTo.comp (F := fun s => eventReport (ownReport .held x s) s)
    (eventReport_indifferent (r := ownReport .held x) fun _ _ _ _ => rfl)
    (BlindTo.comp (latch_indifferent .d201 x.label 0 x.lastGroup) (setEntry_indifferent x))

theorem refit_indifferent (m : BitVec 4) (e : Entry) : Indifferent (refit m e) := by
  intro s
  cases hfit : fit e.face s.config.models[m.toFin] with
  | some x =>
    obtain ⟨d, n⟩ := x
    obtain ⟨k, hk⟩ := setEntry_indifferent { e with state := .waiting, notes := { e.notes with fit := n } } s
    exact ⟨k, hk.congr (refit_fits hfit) fun dl b v => refit_fits (s := dress dl b v s) hfit⟩
  | none =>
    by_cases hs : e.state = .held
    · obtain ⟨k, hk⟩ := setEntry_indifferent { e with state := .held, notes := { e.notes with fit := {} } } s
      exact ⟨k, hk.congr (refit_held hfit hs) fun dl b v => refit_held (s := dress dl b v s) hfit hs⟩
    · obtain ⟨k, hk⟩ := enterHeld_indifferent e s
      exact ⟨k, hk.congr (refit_enters hfit hs) fun dl b v => refit_enters (s := dress dl b v s) hfit hs⟩

theorem heldDecision_indifferent (f : CallFrame) (e : Entry) : Indifferent (heldDecision f e) :=
  fun s => by
    by_cases hs : e.state = .held
    · obtain ⟨k, hk⟩ := refit_indifferent f.model e s
      exact ⟨k, hk.congr (if_pos hs) fun _ _ _ => if_pos hs⟩
    · obtain ⟨k, hk⟩ := BlindTo.id s
      exact ⟨k, hk.congr (if_neg hs) fun _ _ _ => if_neg hs⟩

/-! ### The evaluation of a CALL -/

theorem evaluateCall_none {f : CallFrame} {s : State} (h : s.entryOf f.label = none) (rssi : Int) :
    evaluateCall f rssi s = s := by
  unfold evaluateCall
  rw [h]

theorem evaluateCall_current {f : CallFrame} {s : State} {e : Entry} (he : s.entryOf f.label = some e)
    (ho : e.isOpen = true) (hv : atLeast f.held e.target = true) (rssi : Int) :
    evaluateCall f rssi s = enterClosing e .seenCurrent .label f.held s := by
  unfold evaluateCall
  rw [he]
  exact if_pos (by simp [ho, hv])

theorem evaluateCall_below {f : CallFrame} {s : State} {e : Entry} (he : s.entryOf f.label = some e)
    (h : e.isOpen = false ∨ atLeast f.held e.target = false) (rssi : Int) :
    evaluateCall f rssi s = thirdDecision f rssi (heldDecision f e s) := by
  unfold evaluateCall
  rw [he]
  refine if_neg ?_
  rcases h with h | h <;> simp [h]

theorem thirdDecision_unasked {f : CallFrame} {s : State} (h : ¬ (s.opState = .run ∧ f.flags.getLsbD 0 = true))
    (rssi : Int) : thirdDecision f rssi s = s := by
  unfold thirdDecision
  split
  · exact if_neg fun hc => h ⟨hc.1, hc.2.1⟩
  · rfl

theorem thirdDecision_not_waiting {f : CallFrame} {s : State} {e : Entry} (he : s.entryOf f.label = some e)
    (h : e.state ≠ .waiting) (rssi : Int) : thirdDecision f rssi s = s := by
  unfold thirdDecision
  rw [he]
  exact if_neg fun hc => h hc.2.2

theorem heldDecision_of_ne {e : Entry} (h : e.state ≠ .held) (f : CallFrame) (s : State) : heldDecision f e s = s :=
  if_neg h

/-- A CALL of a label with no open entry ends at the Roster. -/
theorem evaluateCall_closed {f : CallFrame} {s : State} (h : ∀ e, s.entryOf f.label = some e → e.isOpen = false)
    (rssi : Int) : evaluateCall f rssi s = s := by
  cases he : s.entryOf f.label with
  | none => exact evaluateCall_none he rssi
  | some e =>
    have ho := h e he
    rw [evaluateCall_below he (.inl ho), heldDecision_of_ne (fun hs => by simp [Entry.isOpen, hs] at ho)]
    exact thirdDecision_not_waiting he (fun hs => by simp [Entry.isOpen, hs] at ho) rssi

/-- In HALTED the evaluation ends its command the same under another halt. -/
theorem evaluateCall_settle_congr {u : State} (h : u.opState = .halted) (b : Bool) (f : CallFrame) (rssi : Int) :
    settle (evaluateCall f rssi { u with halt := b }) = settle (evaluateCall f rssi u) := by
  cases he : u.entryOf f.label with
  | none =>
    rw [evaluateCall_none he, evaluateCall_none (s := { u with halt := b }) he]
    exact settle_of_halted_congr h b
  | some e =>
    by_cases hc : e.isOpen = true ∧ atLeast f.held e.target = true
    · rw [evaluateCall_current he hc.1 hc.2, evaluateCall_current (s := { u with halt := b }) he hc.1 hc.2]
      exact (enterClosing_indifferent e .seenCurrent .label f.held).settle_congr h b
    · have hno : e.isOpen = false ∨ atLeast f.held e.target = false := by
        simpa [Classical.or_iff_not_imp_left] using hc
      have hrun : ∀ t : State, t.opState = .halted → ¬ (t.opState = .run ∧ f.flags.getLsbD 0 = true) :=
        fun t ht hr => by simp [ht] at hr
      have hheld := (heldDecision_indifferent f e).opState
      rw [evaluateCall_below he hno, evaluateCall_below (s := { u with halt := b }) he hno,
        thirdDecision_unasked (hrun _ ((hheld u).trans h)),
        thirdDecision_unasked (hrun _ ((hheld { u with halt := b }).trans h))]
      exact (heldDecision_indifferent f e).settle_congr h b

/-- A frame that no phase awaits ends its command the same with a halt that changes nothing. -/
theorem HaltsNothing.unawaited_congr {u v : State} (h : HaltsNothing u v) :
    settle (unawaited v) = settle (unawaited u) := by
  have hd : v.dialogue = u.dialogue := by rw [h.same]
  have hgo : ∀ d : Dialogue, settle { v with dialogue := d } = settle { u with dialogue := d } := fun d =>
    (HaltsNothing.settle_eq (u := { u with dialogue := d }) (v := { v with dialogue := d })
      ⟨congrArg (fun x : State => { x with dialogue := d }) h.same, h.clear, h.only⟩).trans
      (settle_of_no_halt (s := { u with dialogue := d }) h.clear).symm
  have hcar : v.carriers = u.carriers := by rw [h.same]
  have hexp : ∀ {p : Phase}, (∀ r, p ≠ .sending r) → ∀ c : TransferContext,
      settle (waitExpires p c v) = settle (waitExpires p c u) := fun hp c => by
    have hw := h.waitExpires_eq hp c c.wait v.dialogue u.dialogue u.carriers
    rw [← hcar] at hw
    refine hw.trans ?_
    rw [hcar]
  have hstay : settle v = settle u := h.settle_eq.trans (settle_of_no_halt h.clear).symm
  unfold unawaited
  rw [hd]
  split
  next p c _ =>
    split
    next w hw =>
      split
      · split
        · cases p with
          | sending r => exact hstay
          | awaitReady | awaitAck | awaitDone => exact hexp (by simp) c
        · exact hgo _
      · exact hstay
    next => exact hstay
  next => exact hstay

/-! ### A CALL heard -/

/-- What a CALL does after its Roster (R82). -/
def callRest (f : CallFrame) (rssi : Int) (t : State) : State :=
  if t.isListening then evaluateCall f rssi t else unawaited t

theorem HaltsNothing.callRest_congr {u v : State} (h : HaltsNothing u v) (f : CallFrame) (rssi : Int) :
    settle (callRest f rssi v) = settle (callRest f rssi u) := by
  have hl : v.isListening = u.isListening := by
    unfold State.isListening
    rw [h.same]
  unfold callRest
  rw [hl]
  split
  · cases hv : v.halt with
    | false =>
      have : v = u := by rw [h.same, hv, ← h.clear]
      rw [this]
    | true =>
      rw [h.same, hv]
      exact evaluateCall_settle_congr (h.only hv) true f rssi
  · exact h.unawaited_congr

/-- The state in which a CALL acts after its Roster. -/
def calledState (s : State) (f : CallFrame) (rssi : Int) : State :=
  { s with
    dialogue := heardDialogue s.dialogue, carriers := s.carriers - 1, roster := calledRoster f rssi s }

theorem isTransferring_heard (s : State) (n : Nat) :
    State.isTransferring { s with dialogue := heardDialogue s.dialogue, carriers := n } = s.isTransferring := by
  unfold State.isTransferring
  cases s.dialogue <;> rfl

theorem calledRoster_congr {s u : State} (hr : u.roster = s.roster) (hb : u.book = s.book) (hc : u.clock = s.clock)
    (ht : u.isTransferring = s.isTransferring) (f : CallFrame) (rssi : Int) :
    calledRoster f rssi u = calledRoster f rssi s := by
  unfold calledRoster State.recordOf State.entryOf
  rw [hr, hb, hc, ht]

theorem calledRoster_heard (s : State) (f : CallFrame) (rssi : Int) (n : Nat) :
    calledRoster f rssi { s with dialogue := heardDialogue s.dialogue, carriers := n } = calledRoster f rssi s :=
  calledRoster_congr (s := s) (u := { s with dialogue := heardDialogue s.dialogue, carriers := n }) rfl rfl rfl
    (isTransferring_heard s n) f rssi

theorem admissible_call {f : CallFrame} (hl : f.label.wf = true) (own : StationNo) :
    (AirFrame.call f).admissible own = true := by
  simp [AirFrame.admissible, validLabel_iff.mpr hl]

theorem exec_call {s : State} (h : Hears s) {f : CallFrame} (hl : f.label.wf = true) (rssi : Int) :
    exec (.call f rssi) s = .next (settle (callReceived f rssi
      { s with dialogue := heardDialogue s.dialogue, carriers := s.carriers - 1 })) :=
  exec_commandOf_hears (f := .call f) h (admissible_call hl _) rssi

/-- A CALL of the recorded model. -/
theorem exec_call_same {s : State} (h : Hears s) {f : CallFrame} (hl : f.label.wf = true) (rssi : Int)
    (hm : ∀ r, s.recordOf f.label = some r → r.model = f.model) :
    exec (.call f rssi) s = .next (settle (callRest f rssi (calledState s f rssi))) := by
  rw [exec_call h hl]
  unfold callReceived
  dsimp only
  rw [rosterCall_same (s := { s with dialogue := heardDialogue s.dialogue, carriers := s.carriers - 1 }) hm,
    calledRoster_heard]
  rfl

/-- A CALL of another model than the recorded one. -/
theorem exec_call_other {s : State} (h : Hears s) {f : CallFrame} (hl : f.label.wf = true) (rssi : Int)
    {r : RosterRecord} (hr : s.recordOf f.label = some r) (hm : r.model ≠ f.model) :
    exec (.call f rssi) s = .next (settle (callRest f rssi (modelChange f (calledState s f rssi)))) := by
  rw [exec_call h hl]
  unfold callReceived
  dsimp only
  rw [rosterCall_other (s := { s with dialogue := heardDialogue s.dialogue, carriers := s.carriers - 1 }) hr hm,
    calledRoster_heard]
  rfl

theorem EngineChanges.roster_eq {s t : State} (h : EngineChanges s t) : t.roster = s.roster := by
  obtain ⟨u, _, _, _, _, _, _, hb, rfl⟩ := h
  exact hb.keeps.2.1

theorem callRest_roster (f : CallFrame) (rssi : Int) (t : State) : (callRest f rssi t).roster = t.roster := by
  unfold callRest
  split
  · exact (evaluateCall_changes f rssi t).roster_eq
  · exact (unawaited_changes t).roster_eq

/-- The Roster takes every CALL heard (R69 to R71, R73, R75, R76). -/
theorem exec_call_roster {s : State} (h : Hears s) {f : CallFrame} (hl : f.label.wf = true) (rssi : Int) :
    ∃ t, exec (.call f rssi) s = .next t ∧ t.roster = calledRoster f rssi s := by
  by_cases hm : ∀ r, s.recordOf f.label = some r → r.model = f.model
  · refine ⟨_, exec_call_same h hl rssi hm, ?_⟩
    rw [(settle_changes _).roster_eq, callRest_roster]
    rfl
  · simp only [Classical.not_forall] at hm
    obtain ⟨r, hr, hm⟩ := hm
    refine ⟨_, exec_call_other h hl rssi hr hm, ?_⟩
    rw [(settle_changes _).roster_eq, callRest_roster, (modelChange_changes ..).keeps.2.1]
    rfl

end Sys2Proof.Machine
end


section
/-! A CALL's model change and its first decision. -/

namespace Sys2Proof.Machine

/-! ### The model change -/

/-- The Roster with the new model in the label's record. -/
def remodelled (f : CallFrame) (s : State) : State :=
  { s with roster := s.roster.map (fun x => if x.label = f.label then { x with model := f.model } else x) }

/-- The state after a model change with no halt waiting. -/
def afterModelChange (f : CallFrame) (s : State) : State := { modelChange f (remodelled f s) with halt := false }

theorem remodelled_recordOf {f : CallFrame} {s : State} {r : RosterRecord} (hr : s.recordOf f.label = some r) :
    (remodelled f s).recordOf f.label = some { r with model := f.model } := by
  obtain ⟨_, hlabel⟩ := recordOf_some hr
  have hp : ((fun x : RosterRecord => x.label == f.label) ∘ fun x =>
      if x.label = f.label then { x with model := f.model } else x) = fun x => x.label == f.label := by
    funext x
    simp only [Function.comp_apply]
    split <;> rfl
  unfold remodelled State.recordOf at *
  rw [List.find?_map, hp, hr]
  exact congrArg some (if_pos hlabel)

theorem remodelled_without (f : CallFrame) (s : State) :
    List.filter (fun x => x.label != f.label) (remodelled f s).roster =
      List.filter (fun x => x.label != f.label) s.roster := by
  unfold remodelled
  dsimp only
  induction s.roster with
  | nil => rfl
  | cons x xs ih =>
    rw [List.map_cons, List.filter_cons, List.filter_cons, ih]
    by_cases hx : x.label = f.label
    · rw [if_pos hx]
      simp [hx]
    · rw [if_neg hx]

/-- The Roster of a CALL does not depend on the model recorded before. -/
theorem calledRoster_remodelled {f : CallFrame} {s u : State} {r : RosterRecord} (hr : s.recordOf f.label = some r)
    (hu : u.roster = (remodelled f s).roster) (hc : u.clock = s.clock) (ht : u.isTransferring = s.isTransferring)
    (rssi : Int) : calledRoster f rssi u = calledRoster f rssi s := by
  have hru : u.recordOf f.label = some { r with model := f.model } := by
    rw [← remodelled_recordOf hr]
    unfold State.recordOf
    rw [hu]
  unfold calledRoster
  rw [hru, hr]
  dsimp only
  rw [hu, remodelled_without, hc, ht]

/-- A CALL of another model acts, after the model change, as a CALL of the recorded one. -/
theorem exec_call_remodelled {f : CallFrame} {s : State} (h : Hears s) (hl : f.label.wf = true) (rssi : Int)
    {r : RosterRecord} (hr : s.recordOf f.label = some r) (hm : r.model ≠ f.model) {bs : List ReportBody}
    {fs : List FaultLog} (hann : Announces (remodelled f s) (modelChange f (remodelled f s)) bs fs)
    (hn : NothingHalts s [.delivery]) (hf : ∀ g ∈ fs, g.detail.kind ∈ [FaultKind.delivery]) :
    exec (.call f rssi) s = exec (.call f rssi) (afterModelChange f s) := by
  let w := modelChange f (remodelled f s)
  let u := afterModelChange f s
  have hhalt : HaltsNothing u w := hann.haltsNothing hn hf
  have hframe : u = _ := hann.unhalted
  have hd : u.dialogue = s.dialogue := by rw [hframe]; rfl
  have hc : u.carriers = s.carriers := by rw [hframe]; rfl
  have hroster : u.roster = (remodelled f s).roster := by rw [hframe]
  have hears : Hears u := by
    obtain ⟨h1, h2, _, h4⟩ := h
    refine ⟨?_, ?_, rfl, ?_⟩
    · rw [hframe]
      exact h1
    · rw [hframe]
      exact h2
    · unfold isTallying
      rw [hd]
      exact h4
  have hmodel : ∀ x, u.recordOf f.label = some x → x.model = f.model := by
    intro x hx
    have : u.recordOf f.label = (remodelled f s).recordOf f.label := by
      unfold State.recordOf
      rw [hroster]
    rw [this, remodelled_recordOf hr] at hx
    cases hx
    rfl
  have hcalled : calledRoster f rssi u = calledRoster f rssi s :=
    calledRoster_remodelled hr hroster (by rw [hframe]; rfl) (by unfold State.isTransferring; rw [hd]) rssi
  rw [exec_call_same hears hl rssi hmodel, exec_call_other h hl rssi hr hm]
  refine congrArg Host.Outcome.next ?_
  have hleft : modelChange f (calledState s f rssi) =
      { w with dialogue := heardDialogue s.dialogue, carriers := s.carriers - 1, roster := calledRoster f rssi s } :=
    modelChange_withRoster f (remodelled f s) ..
  have hright : calledState u f rssi =
      { u with dialogue := heardDialogue s.dialogue, carriers := s.carriers - 1, roster := calledRoster f rssi s } := by
    unfold calledState
    rw [hcalled, hd, hc]
  rw [hleft, hright]
  let hear : State → State := fun x => { x with
    dialogue := heardDialogue s.dialogue, carriers := s.carriers - 1, roster := calledRoster f rssi s }
  refine HaltsNothing.callRest_congr (u := hear u) (v := hear w) ⟨?_, rfl, hhalt.only⟩ f rssi
  exact congrArg hear hhalt.same

/-- The state after a model change is the state before it with what the change does. -/
theorem afterModelChange_frame {f : CallFrame} {s : State} {bs : List ReportBody} {fs : List FaultLog}
    (hann : Announces (remodelled f s) (modelChange f (remodelled f s)) bs fs)
    (hclosing : (modelChange f (remodelled f s)).closing = s.closing) (hn : s.halt = false) :
    let u := afterModelChange f s
    u.roster = s.roster.map (fun x => if x.label = f.label then { x with model := f.model } else x) ∧
    u = { s with
      book := u.book, roster := u.roster, reports := u.reports, nextSeq := u.nextSeq, latched := u.latched
      firstFault := u.firstFault } := by
  intro u
  have hframe : u = _ := hann.unhalted
  have hroster : u.roster = (remodelled f s).roster := by rw [hframe]
  refine ⟨hroster, ?_⟩
  rw [hframe, hclosing, ← hn]
  rfl

/-! ### The first decision -/

/-- An entry without a successor part closes the same in a state with the same book, reports, clock and
configuration. -/
theorem closes_of_no_successor {s u t : State} {e : Entry} {r : ClosingRecord} (he : e.successor = none)
    (hb : u.book = s.book) (hcl : u.closing = s.closing) (hr : u.reports = s.reports) (hs : u.nextSeq = s.nextSeq)
    (hc : Closes u t e r) : Closes s t e r := by
  have hprom : ∀ x : State, promotedOf x e = none := fun x => by simp [promotedOf, he]
  have hlate : ∀ x : State, promotedLate x e = [] := fun x => by simp [promotedLate, hprom]
  have hbook : closedBook u e = closedBook s e := by
    unfold closedBook
    rw [hprom, hprom, hb]
  have hnow : closesNow u = closesNow s := by
    unfold closesNow
    rw [hcl, hr]
  obtain ⟨h1, h2⟩ := hc
  refine ⟨fun h => ?_, fun h => ?_⟩
  · obtain ⟨hb1, hc1, hq⟩ := h1 (hnow.trans h)
    rw [hlate, List.map_nil, List.take_nil, Queues, hr, hs] at hq
    rw [hlate, List.map_nil, List.take_nil]
    exact ⟨hb1.trans hbook, hc1.trans hcl, hq⟩
  · obtain ⟨hb1, hc1, hr1, hs1⟩ := h2 (hnow.trans h)
    exact ⟨by rw [hb1, hb], by rw [hc1, hcl], hr1.trans hr, hs1.trans hs⟩

theorem closingLate_of_no_successor {e : Entry} (he : e.successor = none) (s : State) : closingLate s e = [] := by
  unfold closingLate promotedLate promotedOf
  rw [he]
  split <;> rfl

/-- An open entry has no successor part. -/
theorem successor_of_open {e : Entry} (h : EntryLaw e) (ho : e.isOpen = true) : e.successor = none := by
  cases hp : e.successor with
  | none => rfl
  | some p =>
    have := (h.2.1 p hp).1
    rw [ho] at this
    cases this

theorem heardDialogue_listening {s : State} (h : Hears s) (ht : s.isTransferring = false) :
    heardDialogue s.dialogue = .listening := by
  obtain ⟨_, _, _, htally⟩ := h
  cases hd : s.dialogue <;> simp_all [heardDialogue, isTallying, State.isTransferring]

/-- What a CALL of the recorded model leaves, with what `A` has made of the book, the reports and the faults. -/
def callResult (s : State) (f : CallFrame) (rssi : Int) (A : State) (d : Dialogue) (q : Option Nat) : State :=
  concluded (calledState s f rssi) A d none s.budget s.tally s.choices q

/-- The end of a CALL after its part at the book. -/
theorem call_settles {f : CallFrame} {rssi : Int} {s A : State} {bs : List ReportBody} {fs : List FaultLog}
    {kinds : List FaultKind} (h : Hears s) (hann : Announces (calledState s f rssi) A bs fs)
    (hn : NothingHalts s kinds) (hf : ∀ g ∈ fs, g.detail.kind ∈ kinds) (d : Dialogue) :
    ∃ q, settle { A with dialogue := d } = callResult s f rssi A d q ∧ QuietWaitFollows (callResult s f rssi A d q) := by
  have hself : { A with
      dialogue := d, transmitting := none, budget := s.budget, tally := s.tally, choices := s.choices } =
      { A with dialogue := d } := by
    conv => rhs; rw [hann.frame]
    conv => lhs; rw [hann.frame]
    rw [← h.2.1]
    rfl
  rw [← hself]
  exact hann.settled (kinds := kinds) hn hf ..

/-- A part at the book keeps the Engine LISTENING. -/
theorem call_listening {f : CallFrame} {rssi : Int} {s A : State} {bs : List ReportBody} {fs : List FaultLog}
    (h : Hears s) (ht : s.isTransferring = false) (hann : Announces (calledState s f rssi) A bs fs) :
    { A with dialogue := .listening } = A := by
  conv => rhs; rw [hann.frame]
  conv => lhs; rw [hann.frame]
  rw [← heardDialogue_listening h ht]
  rfl

theorem callResult_frame {f : CallFrame} {rssi : Int} {s : State} (h : Hears s) (A : State) (d : Dialogue)
    (q : Option Nat) :
    let t := callResult s f rssi A d q
    t = { s with
      book := t.book, closing := t.closing, reports := t.reports, nextSeq := t.nextSeq, roster := t.roster
      latched := t.latched, firstFault := t.firstFault, dialogue := t.dialogue, carriers := t.carriers
      quietWait := t.quietWait } := by
  intro t
  change callResult s f rssi A d q = _
  unfold callResult concluded
  rw [← h.2.1]
  rfl

/-- A CALL heard outside a transfer is evaluated. -/
theorem exec_call_evaluates {f : CallFrame} {rssi : Int} {s : State} (h : Hears s) (hl : f.label.wf = true)
    (ht : s.isTransferring = false) (hm : ∀ r, s.recordOf f.label = some r → r.model = f.model) :
    exec (.call f rssi) s = .next (settle (evaluateCall f rssi (calledState s f rssi))) := by
  refine (exec_call_same h hl rssi hm).trans (congrArg (fun x => Host.Outcome.next (settle x)) (if_pos ?_))
  unfold State.isListening
  rw [show (calledState s f rssi).dialogue = .listening from heardDialogue_listening h ht]
  rfl

/-- Settles O31. -/
theorem callClosesCurrentEntry : Obligations.CallClosesCurrentEntry := by
  unfold Obligations.CallClosesCurrentEntry
  intro f rssi s h hl i sameModel
  refine ⟨exec_call_roster h hl rssi, fun r hr hm hn hkey => ?_, fun hsame hno => ?_, fun e ht hsame he ho hv hlaw hn => ?_⟩
  · intro changed fault leaves
    let v := remodelled f s
    have hof : v.entryOf f.label = s.entryOf f.label := rfl
    have hkinds : ∀ (l : List FaultLog), (∀ g ∈ l, g.detail = .d202 ∨ g.detail = .d201) →
        ∀ g ∈ l, g.detail.kind ∈ [FaultKind.delivery] := by
      intro l hl g hg
      rcases hl g hg with h | h <;> rw [h] <;> exact List.mem_singleton_self _
    have main : ∀ {bs fs}, Announces v (modelChange f v) bs fs → (modelChange f v).closing = s.closing →
        (∀ g ∈ fs, g.detail = .d202 ∨ g.detail = .d201) →
        let u := afterModelChange f s
        (exec i s = exec i u ∧
          u.roster = s.roster.map (fun x => if x.label = f.label then { x with model := f.model } else x) ∧
          u = { s with
            book := u.book, roster := u.roster, reports := u.reports, nextSeq := u.nextSeq, latched := u.latched
            firstFault := u.firstFault }) ∧ leaves u (modelChange f v).book bs fs := by
      intro bs fs hann hclosing hf u
      exact ⟨⟨exec_call_remodelled h hl rssi hr hm hann hn (hkinds fs hf),
        afterModelChange_frame hann hclosing hn.1⟩, rfl, hann.queues, hann.latches⟩
    cases he : s.entryOf f.label with
    | none =>
      obtain ⟨hann, hbook, hclosing⟩ := modelChange_absent (s := v) (hof.trans he)
      obtain ⟨⟨hexec, hroster, hframe⟩, hleaves⟩ := main hann hclosing (by simp [changedFault])
      rw [hbook] at hleaves
      exact ⟨_, hexec, hroster, hframe, fun _ => hleaves, fun e hx => by cases hx⟩
    | some e =>
      by_cases hs : e.state = .waiting ∨ e.state = .held
      · cases hfit : fit e.face s.config.models[f.model.toFin] with
        | some x =>
          obtain ⟨d, n⟩ := x
          obtain ⟨hann, hbook, hclosing⟩ := modelChange_fits (s := v) (hof.trans he) hs hfit
          obtain ⟨⟨hexec, hroster, hframe⟩, hleaves⟩ := main hann hclosing (by simp [changedFault])
          rw [hbook] at hleaves
          refine ⟨_, hexec, hroster, hframe, fun hx => by (cases hx), fun x hx => ?_⟩
          cases hx
          refine ⟨fun h1 h2 => absurd hs (not_or.mpr ⟨h1, h2⟩), fun _ => ⟨fun d' n' hfit' => ?_, fun hfit' => ?_⟩⟩
          · cases hfit.symm.trans hfit'
            exact hleaves
          · cases hfit.symm.trans hfit'
        | none =>
          obtain ⟨hann, hbook, hclosing⟩ := modelChange_unfit (s := v) (hof.trans he) hs hfit
          obtain ⟨⟨hexec, hroster, hframe⟩, hleaves⟩ := main hann hclosing (by
            split <;> simp [changedFault, heldFault])
          rw [hbook] at hleaves
          refine ⟨_, hexec, hroster, hframe, fun hx => by (cases hx), fun x hx => ?_⟩
          cases hx
          refine ⟨fun h1 h2 => absurd hs (not_or.mpr ⟨h1, h2⟩), fun _ => ⟨fun d' n' hfit' => ?_, fun _ => hleaves⟩⟩
          cases hfit.symm.trans hfit'
      · obtain ⟨h1, h2⟩ := not_or.mp hs
        obtain ⟨hann, hbook, hclosing⟩ := modelChange_unchecked (s := v) (hof.trans he) h1 h2
        obtain ⟨⟨hexec, hroster, hframe⟩, hleaves⟩ := main hann hclosing (by simp [changedFault])
        rw [hbook] at hleaves
        refine ⟨_, hexec, hroster, hframe, fun hx => by (cases hx), fun x hx => ?_⟩
        cases hx
        exact ⟨fun _ _ => hleaves, fun hx => absurd hx hs⟩
  · refine notAwaited_of_act (v := { s with roster := calledRoster f rssi s }) (.refl h.2.2.1) ?_
    rw [exec_call_same h hl rssi hsame]
    refine congrArg (fun x => Host.Outcome.next (settle x)) ?_
    unfold callRest
    split
    next hlist =>
      have hlis : (calledState s f rssi).dialogue = .listening := by simpa [State.isListening] using hlist
      have hnt : s.isTransferring = false := by
        rw [← isTransferring_heard s (s.carriers - 1)]
        unfold State.isTransferring
        rw [show heardDialogue s.dialogue = .listening from hlis]
      rcases hno with hno | hno
      · rw [hnt] at hno
        cases hno
      · rw [evaluateCall_closed (s := calledState s f rssi) hno]
        refine (unawaited_of_not_transferring ?_).symm
        exact (isTransferring_heard { s with roster := calledRoster f rssi s } (s.carriers - 1)).trans hnt
    next => rfl
  · let u := calledState s f rssi
    have hexec : exec i s = .next (settle (enterClosing e .seenCurrent .label f.held u)) := by
      refine (exec_call_evaluates h hl ht hsame).trans (congrArg (fun x => Host.Outcome.next (settle x)) ?_)
      exact evaluateCall_current (s := u) he ho hv rssi
    have hsucc := successor_of_open (hlaw.1 e (entryOf_some he).1) ho
    obtain ⟨bs, hann, hcl⟩ := enterClosing_closes e .seenCurrent .label f.held u
    rw [closingLate_of_no_successor hsucc] at hann
    obtain ⟨q, hset, hq⟩ := call_settles h hann hn (by simp) .listening
    rw [call_listening h ht hann] at hset
    have hlate : Latches s (enterClosing e .seenCurrent .label f.held u) ((closingLate s e).map (lateFault s)) := by
      rw [closingLate_of_no_successor hsucc]
      exact hann.latches
    have hcl' : Closes s (enterClosing e .seenCurrent .label f.held u) e ⟨.seenCurrent, .label, f.held, s.clock⟩ :=
      closes_of_no_successor (u := u) hsucc rfl rfl rfl rfl hcl
    exact ⟨callResult s f rssi (enterClosing e .seenCurrent .label f.held u) .listening q,
      hexec.trans (congrArg _ hset), rfl, hcl', hlate, rfl, rfl, hq, callResult_frame h ..⟩

end Sys2Proof.Machine
end


section
/-! The second and third decisions of a CALL. -/

namespace Sys2Proof.Machine

/-! ### An entry put twice -/

theorem putEntry_putEntry {x n : Entry} (hs : n.slot = x.slot) (b : List Entry) :
    putEntry x (putEntry n b) = putEntry x b := by
  simp only [putEntry, List.map_map]
  refine List.map_congr_left fun y _ => ?_
  by_cases hy : y.slot = x.slot <;> simp [hy, hs]

theorem setEntry_setEntry {x n : Entry} (hs : n.slot = x.slot) (s : State) :
    (s.setEntry n).setEntry x = s.setEntry x := by
  unfold State.setEntry
  dsimp only
  rw [putEntry_putEntry hs]

/-- The entry itself in the book makes no difference to its closing. -/
theorem enterClosing_setEntry {e n : Entry} (hs : n.slot = e.slot) (o : ClosingOutcome) (d : Deliverer) (v : Version)
    (s : State) : enterClosing e o d v (s.setEntry n) = enterClosing e o d v s := by
  unfold enterClosing
  dsimp only
  rw [setEntry_setEntry (by exact hs)]
  rfl

theorem entryOf_setEntry {s : State} (h : BookIsKeyed s) {e x : Entry} (he : e ∈ s.book) (hs : x.slot = e.slot)
    (hl : x.label = e.label) : (s.setEntry x).entryOf e.label = some x := by
  rw [← hl]
  exact entryOf_of_mem (s := s.setEntry x) (KeyedBook.put h he hs hl) (mem_putEntry_self he hs.symm)

/-! ### The decisions -/

theorem baseMatches_iff {b : Base} {v : Version} : baseMatches b v = true ↔ b = .any ∨ b = .version v := by
  cases b with
  | any => simp [baseMatches]
  | version w => simp [baseMatches, eq_comm (a := v)]

theorem thirdDecision_asked {f : CallFrame} {s : State} {e : Entry} (he : s.entryOf f.label = some e)
    (hask : s.opState = .run ∧ f.flags.getLsbD 0 = true) (hs : e.state = .waiting) (rssi : Int) :
    thirdDecision f rssi s = offerDecision f rssi e s := by
  unfold thirdDecision
  rw [he]
  exact if_pos ⟨hask.1, hask.2, hs⟩

theorem offerDecision_mismatch {f : CallFrame} {e : Entry} (h : ¬ (e.base = .any ∨ e.base = .version f.held))
    (rssi : Int) (s : State) : offerDecision f rssi e s = enterClosing e .mismatch .label f.held s :=
  if_neg (mt baseMatches_iff.mp h)

theorem offerDecision_unfit {f : CallFrame} {e : Entry} {s : State} (h : e.base = .any ∨ e.base = .version f.held)
    (hfit : fit e.face s.config.models[f.model.toFin] = none) (rssi : Int) :
    offerDecision f rssi e s = enterHeld e s := by
  have hm : fit e.face (s.modelRecord f.model) = none := hfit
  unfold offerDecision
  rw [if_pos (baseMatches_iff.mpr h), hm]

theorem offerDecision_fits {f : CallFrame} {e : Entry} {s : State} {d : DeliveredFace} {n : FitNotes}
    (h : e.base = .any ∨ e.base = .version f.held)
    (hfit : fit e.face s.config.models[f.model.toFin] = some (d, n)) (rssi : Int) :
    offerDecision f rssi e s = budgetTest (withFit n e) (encodeFace d) rssi (s.setEntry (withFit n e)) := by
  have hm : fit e.face (s.modelRecord f.model) = some (d, n) := hfit
  unfold offerDecision
  rw [if_pos (baseMatches_iff.mpr h), hm]

theorem heldDecision_held {f : CallFrame} {e : Entry} (h : e.state = .held) (s : State) :
    heldDecision f e s = refit f.model e s := if_pos h

/-- The delay of R106 as the statement writes it. -/
theorem standoffDelay_eq (station : StationNo) (lane : Lane) (rssi : Int) (attempts : Nat) :
    standoffDelay station lane rssi attempts =
      min (((if lane = .night then 8 else 0) + ((-40 - max (-100) (min rssi (-40))) / 4).toNat + min attempts 7) * 250 +
        station.toNat % 8 * 25) 7500 := by
  cases lane <;> rfl

/-- The budget test ends LISTENING, or in a standoff when the estimate is covered and no carrier is left (R83,
R107). -/
theorem budgetTest_eq (e : Entry) (d : DeliveredFace) (rssi : Int) (s : State) :
    budgetTest e (encodeFace d) rssi s =
      if (if (encodeFace d).length ≤ 16 then 1216 else 1848) +
          (if e.lane = .night then s.config.policy.reserve * 100 else 0) ≤ s.budget ∧ s.carriers = 0 then
        { s with dialogue := .standingOff (contextFor e (encodeFace d) rssi s) }
      else s := by
  unfold budgetTest enterStandoff
  rw [← estimateOf_eq (encodeFace_length_le d), ← offerNeed_eq]
  by_cases hc : covers (offerNeed e.lane (estimateOf (encodeFace d)) s) s = true
  · rw [if_pos hc]
    by_cases hs : s.carriers = 0
    · rw [if_pos hs, if_pos ⟨covers_iff.mp hc, hs⟩]
    · rw [if_neg hs, if_neg fun h => hs h.2]
  · rw [if_neg hc, if_neg fun h => hc (covers_iff.mpr h.1)]

/-- Settles O32. -/
theorem callBeginsStandoff : Obligations.CallBeginsStandoff := by
  unfold Obligations.CallBeginsStandoff
  intro f rssi e s h ht hl hkey hsame he hv model asked baseHeld estimate need withNotes unfitted leaves fits
  let u := calledState s f rssi
  obtain ⟨hmem, hlabel⟩ := entryOf_some he
  have hexec : ∀ {A : State}, thirdDecision f rssi (heldDecision f e u) = A →
      exec (.call f rssi) s = .next (settle A) := by
    rintro A rfl
    rw [exec_call_evaluates h hl ht hsame, evaluateCall_below (s := u) he (.inr hv)]
  have hleaves : ∀ {A B : State} {d bs fs kinds}, thirdDecision f rssi (heldDecision f e u) = B →
      Announces u A bs fs → B = { A with dialogue := d } → NothingHalts s kinds → (∀ g ∈ fs, g.detail.kind ∈ kinds) →
      ∃ q, leaves (callResult s f rssi A d q) := by
    intro A B d bs fs kinds hthird hann hB hn hf
    obtain ⟨q, hset, hq⟩ := call_settles h hann hn hf d
    have hex := hexec hthird
    rw [hB, hset] at hex
    exact ⟨q, hex, rfl, rfl, hq, callResult_frame h ..⟩
  have hsilent : NothingHalts s [] := ⟨h.2.2.1, .inr (by simp)⟩
  have hput : ∀ {b : List Entry}, thirdDecision f rssi (heldDecision f e u) = { u with book := b } → fits b := by
    intro b hthird
    have hann : Announces u { u with book := b } [] [] := .edit u b u.closing
    obtain ⟨q, hq⟩ := hleaves hthird hann (call_listening h ht hann).symm hsilent (by simp)
    exact ⟨_, hq, rfl, rfl, rfl, ⟨rfl, rfl⟩, rfl, rfl⟩
  have hof : ∀ {x : Entry}, x.slot = e.slot → x.label = e.label → (u.setEntry x).entryOf f.label = some x := by
    intro x hs hx
    rw [← hlabel]
    exact entryOf_setEntry (s := u) hkey hmem hs hx
  have hheld : ∀ {d n}, e.state = .held → fit e.face model = some (d, n) →
      heldDecision f e u = u.setEntry (withNotes n) := fun hs hfit =>
    (heldDecision_held hs u).trans (refit_fits (s := u) hfit)
  have hwait : e.state ≠ .held → heldDecision f e u = u := fun hs => heldDecision_of_ne hs f u
  refine ⟨fun hs hfit => ?_, fun hs hask d n hfit => ?_, fun hs hask => ?_, fun y hs => ?_,
    fun hask hbase hlaw hn => ?_, fun hask hbase hs hfit hn => ?_, fun hask hbase hs d n hfit => ?_⟩
  · refine hput ?_
    rw [heldDecision_held hs, refit_held (s := u) hfit hs]
    exact thirdDecision_not_waiting (hof (x := unfitted) rfl rfl) (by simp [unfitted]) rssi
  · refine hput ?_
    rw [hheld hs hfit]
    exact thirdDecision_unasked (s := u.setEntry (withNotes n)) hask rssi
  · refine hput (b := s.book) ?_
    rw [hwait (by simp [hs])]
    exact thirdDecision_unasked (s := u) hask rssi
  · refine hput (b := s.book) ?_
    rw [hwait (by simp [hs])]
    exact thirdDecision_not_waiting (s := u) he (by simp [hs]) rssi
  · intro mismatched
    have hsucc : e.isOpen = true → e.successor = none := successor_of_open (hlaw.1 e hmem)
    have hcloses : ∀ {x : Entry}, x.slot = e.slot → x.successor = none →
        thirdDecision f rssi (heldDecision f e u) = enterClosing x .mismatch .label f.held u → mismatched x := by
      intro x hs hx hthird
      obtain ⟨bs, hann, hcl⟩ := enterClosing_closes x .mismatch .label f.held u
      rw [closingLate_of_no_successor hx] at hann
      obtain ⟨q, hq⟩ := hleaves hthird hann (call_listening h ht hann).symm hn (by simp)
      have hcl' : Closes s (enterClosing x .mismatch .label f.held u) x ⟨.mismatch, .label, f.held, s.clock⟩ :=
        closes_of_no_successor (u := u) hx rfl rfl rfl rfl hcl
      have hlate : Latches s (enterClosing x .mismatch .label f.held u) ((closingLate s x).map (lateFault s)) := by
        rw [closingLate_of_no_successor hx]
        exact hann.latches
      exact ⟨_, hq, rfl, hcl', hlate⟩
    refine ⟨fun hs => ?_, fun hs d n hfit => ?_⟩
    · refine hcloses rfl (hsucc (by simp [Entry.isOpen, hs])) ?_
      rw [hwait (by simp [hs]), thirdDecision_asked (s := u) he hask hs]
      exact offerDecision_mismatch hbase rssi u
    · refine hcloses (x := withNotes n) rfl (hsucc (by simp [Entry.isOpen, hs])) ?_
      rw [hheld hs hfit, thirdDecision_asked (hof (x := withNotes n) rfl rfl) hask rfl,
        offerDecision_mismatch (e := withNotes n) hbase]
      exact enterClosing_setEntry rfl ..
  · obtain ⟨hann, hbook, hclosing⟩ := enterHeld_announces e u
    have hthird : thirdDecision f rssi (heldDecision f e u) = enterHeld e u := by
      rw [hwait (by simp [hs]), thirdDecision_asked (s := u) he hask hs]
      exact offerDecision_unfit (s := u) hbase hfit rssi
    obtain ⟨q, hq⟩ := hleaves hthird hann (call_listening h ht hann).symm hn (by
      intro g hg
      rw [List.mem_singleton.mp hg]
      exact List.mem_singleton_self _)
    exact ⟨_, hq, rfl, hbook, hclosing, hann.queues, hann.latches⟩
  · have hthird : thirdDecision f rssi (heldDecision f e u) =
        budgetTest (withNotes n) (encodeFace d) rssi (u.setEntry (withNotes n)) := by
      rcases hs with hs | hs
      · have hx : withFit n e = withNotes n := by
          change _ = { e with state := .waiting, notes := _ }
          rw [← hs]
          rfl
        rw [hwait (by simp [hs]), thirdDecision_asked (s := u) he hask hs, offerDecision_fits (s := u) hbase hfit, hx]
      · rw [hheld hs hfit, thirdDecision_asked (hof (x := withNotes n) rfl rfl) hask rfl,
          offerDecision_fits (e := withNotes n) (s := u.setEntry (withNotes n)) hbase hfit]
        exact congrArg (budgetTest (withNotes n) (encodeFace d) rssi) (setEntry_setEntry rfl u)
    rw [budgetTest_eq] at hthird
    have hann : Announces u (u.setEntry (withNotes n)) [] [] := .edit u _ u.closing
    have hcarriers : (u.setEntry (withNotes n)).carriers = 0 ↔ s.carriers ≤ 1 := by
      change s.carriers - 1 = 0 ↔ _
      omega
    by_cases hc : need d ≤ s.budget ∧ s.carriers ≤ 1
    · rw [if_pos ⟨hc.1, hcarriers.mpr hc.2⟩] at hthird
      obtain ⟨q, hq⟩ := hleaves hthird hann rfl hsilent (by simp)
      refine ⟨_, hq, rfl, rfl, ⟨rfl, rfl⟩, ⟨rfl, rfl⟩, fun _ _ => ⟨_, rfl, ?_, rfl, rfl, rfl, rfl, rfl, rfl, rfl, rfl, ?_⟩,
        fun hno => ?_⟩
      · exact hq.2.2.2.1.trans (quietAfter_of_not_listening (by simp [callResult, concluded]))
      · exact standoffDelay_eq ..
      · omega
    · rw [if_neg fun hh => hc ⟨hh.1, hcarriers.mp hh.2⟩] at hthird
      obtain ⟨q, hq⟩ := hleaves hthird hann (call_listening h ht hann).symm hsilent (by simp)
      exact ⟨_, hq, rfl, rfl, ⟨rfl, rfl⟩, ⟨rfl, rfl⟩, fun h1 h2 => absurd ⟨h1, h2⟩ hc, fun _ => rfl⟩

end Sys2Proof.Machine
end


section
/-! The evaluation against the clock, at SET TIME and at a clock second. -/

namespace Sys2Proof.Machine

/-! ### The end of a command that changes the book alone -/

theorem Announces.settled_self {s t : State} {bs : List ReportBody} {fs : List FaultLog} {kinds : List FaultKind}
    (h : Announces s t bs fs) (hn : NothingHalts s kinds) (hf : ∀ f ∈ fs, f.detail.kind ∈ kinds) :
    ∃ q, settle t = concluded s t s.dialogue s.transmitting s.budget s.tally s.choices q ∧
      QuietWaitFollows (concluded s t s.dialogue s.transmitting s.budget s.tally s.choices q) := by
  have hself : { t with
      dialogue := s.dialogue, transmitting := s.transmitting, budget := s.budget, tally := s.tally
      choices := s.choices } = t := by
    conv => rhs; rw [h.frame]
    conv => lhs; rw [h.frame]
  conv => enter [1, q, 1, 1]; rw [← hself]
  exact h.settled hn hf ..

/-! ### The evaluation (R63, R64) -/

/-- The entry becomes late at a clock value (R64). -/
def becomesLate (clock : StoreTime) (e : Entry) : Bool :=
  !e.isClosing && !e.late && decide (e.effective.toNat ≤ clock.toNat)

theorem lateNews_evaluateOpen (c : StationConfig) (clock : StoreTime) (e : Entry) :
    lateNews e.late (evaluateOpen c clock e) = if becomesLate clock e then [evaluatedAt c clock e] else [] := by
  unfold evaluateOpen lateNews becomesLate
  cases hc : e.isClosing with
  | true => simp
  | false => cases hl : e.late <;> simp [evaluate_eq, evaluatedAt, List.filter_cons]

/-- What is noted of the evaluated entries is what is noted of those that become late. -/
theorem flatMap_lateNews {α : Type} {φ : Entry → α} {c : StationConfig} {clock : StoreTime}
    (hφ : ∀ e, φ (evaluatedAt c clock e) = φ e) (b : List Entry) :
    b.flatMap (fun e => (lateNews e.late (evaluateOpen c clock e)).map φ) = (b.filter (becomesLate clock)).map φ := by
  induction b with
  | nil => rfl
  | cons e es ih =>
    rw [List.flatMap_cons, ih, lateNews_evaluateOpen, List.filter_cons]
    split
    · simp [hφ]
    · rfl

/-- The evaluation of every entry not CLOSING, with its reports and faults in order of slot (R63, R64, R148). -/
theorem evaluateAll_announces (s : State) :
    Announces s (evaluateAll s) ((newlyLate s s.clock).map (lateBody s s.clock))
        ((newlyLate s s.clock).map (lateFault s)) ∧
      (evaluateAll s).book = s.book.map (evaluateOpen s.config s.clock) ∧ (evaluateAll s).closing = s.closing := by
  let u : State := { s with book := s.book.map (evaluateOpen s.config s.clock) }
  have hfold := Announces.foldl (s := s)
    (f := fun t e => noteLate e.late (evaluateOpen s.config s.clock e) t)
    (body := fun e => (lateNews e.late (evaluateOpen s.config s.clock e)).map (lateBody s s.clock))
    (fault := fun e => (lateNews e.late (evaluateOpen s.config s.clock e)).map (lateFault s))
    (fun e t ht => by
      have hnote := noteLate_announces e.late (evaluateOpen s.config s.clock e) t
      have hbody : lateBody t t.clock = lateBody s s.clock := by rw [ht.frame]; rfl
      have hfault : lateFault t = lateFault s := by rw [ht.frame]; rfl
      rwa [hbody, hfault] at hnote) s.book (Announces.edit s u.book s.closing)
  have htells : ∀ (b : List Entry) (t : State),
      (b.foldl (fun t e => noteLate e.late (evaluateOpen s.config s.clock e) t) t).book = t.book ∧
      (b.foldl (fun t e => noteLate e.late (evaluateOpen s.config s.clock e) t) t).closing = t.closing := by
    intro b
    induction b with
    | nil => exact fun t => ⟨rfl, rfl⟩
    | cons e es ih =>
      intro t
      have hnote := noteLate_tells e.late (evaluateOpen s.config s.clock e) t
      exact ⟨(ih _).1.trans hnote.book_eq, (ih _).2.trans hnote.closing_eq⟩
  refine ⟨?_, (htells s.book u).1, (htells s.book u).2⟩
  rw [flatMap_lateNews (φ := lateBody s s.clock) (fun _ => rfl), flatMap_lateNews (φ := lateFault s) (fun _ => rfl)] at hfold
  exact hfold

/-- Entries changed in their state alone become late alike. -/
theorem newlyLate_map {α : Type} {φ : Entry → α} {g : Entry → Entry} {clock : StoreTime}
    (hlate : ∀ e, becomesLate clock (g e) = becomesLate clock e) (hφ : ∀ e, φ (g e) = φ e) (b : List Entry) :
    ((b.map g).filter (becomesLate clock)).map φ = (b.filter (becomesLate clock)).map φ := by
  rw [List.filter_map, List.map_map, show becomesLate clock ∘ g = becomesLate clock from funext hlate,
    show φ ∘ g = φ from funext hφ]

/-! ### SET TIME -/

theorem moveYield_late (d : StoreTime) (clock : StoreTime) (e : Entry) :
    becomesLate clock (moveYield d e) = becomesLate clock e := by
  unfold moveYield becomesLate
  split
  next h => simp [Entry.isClosing, h]
  next => rfl

/-- A moved yield as the statement writes it. -/
theorem moveYield_eq (d : StoreTime) (e : Entry) :
    moveYield d e = { e with
      state := match e.state with
        | .yielded u => .yielded (u + d)
        | x => x } := by
  cases e with
  | mk _ _ state => cases state <;> rfl

theorem moveYield_isClosing (d : StoreTime) (e : Entry) : (moveYield d e).isClosing = e.isClosing := by
  unfold moveYield
  split
  next h => simp [Entry.isClosing, h]
  next => rfl

theorem moveYield_closing {e : Entry} (h : e.isClosing = true) (d : StoreTime) : moveYield d e = e := by
  unfold moveYield
  split
  next hu => simp [Entry.isClosing, hu] at h
  next => rfl

/-- An entry at SET TIME (R53, R63, R134). -/
theorem evaluateOpen_moveYield (c : StationConfig) (v d : StoreTime) (e : Entry) :
    evaluateOpen c v (moveYield d e) = if e.isClosing then e else evaluatedAt c v { e with
      state := match e.state with
        | .yielded u => .yielded (u + d)
        | x => x } := by
  unfold evaluateOpen
  rw [moveYield_isClosing]
  split
  next h => exact moveYield_closing h d
  next => rw [← moveYield_eq, evaluate_eq]

/-- Settles O15. -/
theorem setTimeResult : Obligations.SetTimeResult := by
  unfold Obligations.SetTimeResult
  intro v s hs hn
  let u : State := { s with
    clock := v, clockSet := true, timebase := 0, book := s.book.map (moveYield (v - s.clock))
    holding := ⟨0x02, bytesOfBits 4 v, true⟩ :: s.holding.tail }
  obtain ⟨hann, hbook, hclosing⟩ := evaluateAll_announces u
  have hbodies : (newlyLate u v).map (lateBody u v) = (newlyLate s v).map (lateBody s v) :=
    newlyLate_map (moveYield_late (v - s.clock) v) (fun e => by unfold moveYield; split <;> rfl) s.book
  have hfaults : (newlyLate u v).map (lateFault u) =
      (newlyLate s v).map (fun e => (⟨.d205, e.label, 0, e.lastGroup, v⟩ : FaultLog)) :=
    newlyLate_map (moveYield_late (v - s.clock) v) (fun e => by unfold moveYield; split <;> rfl) s.book
  have hq := hann.queues
  have hl := hann.latches
  change Queues u _ (((newlyLate u v).map (lateBody u v)).take _) at hq
  change Latches u _ ((newlyLate u v).map (lateFault u)) at hl
  rw [hbodies] at hq
  rw [hfaults] at hl
  obtain ⟨q, hset, hwait⟩ := hann.settled_self (kinds := [.delivery]) hn (lateFaults_delivery u _)
  let a : Answer := ⟨.ok, .times s.clock v⟩
  have hexec : exec (.setTime v) s = .next { settle (evaluateAll u) with
      response := some ⟨0x02, a, (settle (evaluateAll u)).lineRate⟩ } := by
    rw [exec_of_request rfl, serve_acts hs]
    rfl
  rw [hset] at hexec
  refine ⟨_, hexec, rfl, rfl, rfl, rfl, rfl, ?_, hq, hl, hwait, ?_⟩
  · refine hbook.trans ((List.map_map ..).trans (List.map_congr_left fun e _ => ?_))
    exact evaluateOpen_moveYield ..
  · unfold concluded
    dsimp only
    rw [hclosing]

end Sys2Proof.Machine
end


section
/-! A clock second. -/

namespace Sys2Proof.Machine

/-! ### The group's clock second (R29) -/

/-- The group after a clock second. -/
def agedGroup (g : Option OpenGroup) : Option OpenGroup :=
  g.bind (fun g => if 1 < g.idle then some { g with idle := g.idle - 1 } else none)

/-- The fault of a group that expires in a clock second. -/
def expiredFault (s : State) : Option FaultLog :=
  (s.group.filter (fun g => decide (g.idle ≤ 1))).map (fun g => ⟨.d126, 0, 0, g.number, s.clock⟩)

/-- The group that expires in a clock second. -/
def expiredGroup (g : Option OpenGroup) : Option OpenGroup := g.filter (fun g => decide (g.idle ≤ 1))

/-- The fault of an expired group latched. -/
def latchExpired (g : Option OpenGroup) (t : State) : State :=
  match g with
  | some g => latch .d126 0 0 g.number t
  | none => t

theorem idleSecond_eq (s : State) :
    idleSecond s = latchExpired (expiredGroup s.group) { s with group := agedGroup s.group } := by
  unfold idleSecond
  split
  next g hg =>
    by_cases h : g.idle ≤ 1
    · have hx : expiredGroup (some g) = some g := by simp [expiredGroup, h]
      have ha : agedGroup (some g) = none := by simp [agedGroup, h]
      rw [if_pos h, hg, hx, ha]
      unfold expireGroup
      rw [hg]
      rfl
    · have hx : expiredGroup (some g) = none := by simp [expiredGroup, Nat.lt_of_not_le h]
      have ha : agedGroup (some g) = some { g with idle := g.idle - 1 } := if_pos (by omega)
      rw [if_neg h, hg, hx, ha]
      rfl
  next hg =>
    rw [hg]
    change s = { s with group := none }
    rw [← hg]

theorem latchExpired_announces (s : State) : Announces { s with group := agedGroup s.group }
    (idleSecond s) [] (expiredFault s).toList := by
  have hfault : expiredFault s = (expiredGroup s.group).map (fun g => ⟨.d126, 0, 0, g.number, s.clock⟩) := rfl
  rw [idleSecond_eq, hfault]
  unfold latchExpired
  cases expiredGroup s.group with
  | none => exact .refl _
  | some g => exact latch_announces .d126 0 0 g.number { s with group := agedGroup s.group }

/-! ### The book's clock second (R133) -/

theorem noteLate_withGroup (was : Bool) (e : Entry) (s : State) (g : Option OpenGroup) :
    noteLate was e { s with group := g } = { noteLate was e s with group := g } := by
  have hreport : ∀ (r : ReportBody) (t : State),
      eventReport r { t with group := g } = { eventReport r t with group := g } := by
    intro r t
    have hroom : State.hasRoom { t with group := g } = t.hasRoom := rfl
    unfold eventReport
    rw [hroom]
    split <;> rfl
  unfold noteLate
  split
  · exact hreport (ownReport .late e (latchLate e s)) (latchLate e s)
  · rfl

/-- The book's clock second does not read the group. -/
theorem bookSecond_withGroup (s : State) (g : Option OpenGroup) :
    bookSecond { s with group := g } = { bookSecond s with group := g } := by
  have hfold : ∀ (b : List Entry) (c : StationConfig) (clock : StoreTime) (t : State),
      b.foldl (fun t e => noteLate e.late (evaluateOpen c clock e) t) { t with group := g } =
        { b.foldl (fun t e => noteLate e.late (evaluateOpen c clock e) t) t with group := g } := by
    intro b c clock
    induction b with
    | nil => exact fun _ => rfl
    | cons e es ih =>
      intro t
      rw [List.foldl_cons, List.foldl_cons, noteLate_withGroup, ih]
  exact hfold (s.book.map (endYield s.clock)) s.config s.clock
    { s with book := (s.book.map (endYield s.clock)).map (evaluateOpen s.config s.clock) }

theorem bookSecond_group (s : State) : (bookSecond s).group = s.group := by
  have h := bookSecond_withGroup s s.group
  rw [show ({ s with group := s.group } : State) = s from rfl] at h
  rw [h]

theorem endYield_late (clock c : StoreTime) (e : Entry) : becomesLate c (endYield clock e) = becomesLate c e := by
  unfold endYield becomesLate
  split
  next h => simp [Entry.isClosing, h]
  next => rfl

theorem endYield_keeps {α : Type} {φ : Entry → α} (h : ∀ (e : Entry) x, φ { e with state := x } = φ e) (clock : StoreTime)
    (e : Entry) : φ (endYield clock e) = φ e := by
  unfold endYield
  split
  · exact h e _
  · rfl

/-- An entry at a clock second (R53, R63, R133). -/
theorem evaluateOpen_endYield (c : StationConfig) (clock : StoreTime) (e : Entry) :
    evaluateOpen c clock (endYield clock e) = if e.isClosing then e else
      evaluatedAt c clock (if e.state = .yielded clock then { e with state := .waiting } else e) := by
  unfold evaluateOpen endYield
  by_cases h : e.state = .yielded clock
  · simp [h, Entry.isClosing, evaluate_eq]
  · simp [h, evaluate_eq]

/-- The book's clock second, with its reports and faults in order of slot (R53, R63, R64, R133, R148). -/
theorem bookSecond_announces (s : State) :
    Announces s (bookSecond s) ((newlyLate s s.clock).map (lateBody s s.clock))
        ((newlyLate s s.clock).map (lateFault s)) ∧
      (bookSecond s).book = s.book.map (fun e => if e.isClosing then e else
        evaluatedAt s.config s.clock (if e.state = .yielded s.clock then { e with state := .waiting } else e)) ∧
      (bookSecond s).closing = s.closing := by
  obtain ⟨hann, hbook, hclosing⟩ := evaluateAll_announces (endYields s)
  have hbodies : (newlyLate (endYields s) s.clock).map (lateBody s s.clock) =
      (newlyLate s s.clock).map (lateBody s s.clock) :=
    newlyLate_map (endYield_late s.clock s.clock) (endYield_keeps (fun _ _ => rfl) s.clock) s.book
  have hfaults : (newlyLate (endYields s) s.clock).map (lateFault s) = (newlyLate s s.clock).map (lateFault s) :=
    newlyLate_map (endYield_late s.clock s.clock) (endYield_keeps (fun _ _ => rfl) s.clock) s.book
  refine ⟨?_, ?_, hclosing⟩
  · rw [← hbodies, ← hfaults]
    exact (Announces.edit s (s.book.map (endYield s.clock)) s.closing).trans hann
  · refine hbook.trans ((List.map_map ..).trans (List.map_congr_left fun e _ => ?_))
    exact evaluateOpen_endYield ..

/-! ### The two together, in either order (R148) -/

/-- The book and the Gatherer at a clock second, in one of the two orders of their faults. -/
theorem blocks_announce (s : State) :
    let v : State := { s with group := agedGroup s.group }
    let late := (newlyLate s s.clock).map (lateFault s)
    let expired := (expiredFault s).toList
    ∃ A n fs, eitherOrder (idleSecond (bookSecond s)) (bookSecond (idleSecond s)) = { A with choices := n } ∧
      Announces v A ((newlyLate s s.clock).map (lateBody s s.clock)) fs ∧
      (fs = late ++ expired ∨ fs = expired ++ late) ∧ A.book = (bookSecond s).book ∧ A.closing = s.closing := by
  intro v late expired
  obtain ⟨hann, hbook, hclosing⟩ := bookSecond_announces s
  have hgroup := bookSecond_group s
  have hmove : Announces v (bookSecond v) ((newlyLate s s.clock).map (lateBody s s.clock)) late ∧
      bookSecond v = { bookSecond s with group := agedGroup s.group } := by
    exact ⟨(bookSecond_announces v).1, bookSecond_withGroup s _⟩
  have hfirst : ∃ A, idleSecond (bookSecond s) = A ∧
      Announces v A ((newlyLate s s.clock).map (lateBody s s.clock)) (late ++ expired) ∧
      A.book = (bookSecond s).book ∧ A.closing = s.closing := by
    have hidle := latchExpired_announces (bookSecond s)
    rw [hgroup, ← hmove.2] at hidle
    have hex : expiredFault (bookSecond s) = expiredFault s := by
      unfold expiredFault
      rw [hgroup, hann.clock]
    rw [hex] at hidle
    refine ⟨_, rfl, ?_, ?_, ?_⟩
    · have hboth := hmove.1.trans hidle
      rwa [List.append_nil] at hboth
    · rw [idleSecond_eq]
      unfold latchExpired
      split <;> rfl
    · rw [← hclosing, idleSecond_eq]
      unfold latchExpired
      split <;> rfl
  have hsecond : ∃ A, bookSecond (idleSecond s) = A ∧
      Announces v A ((newlyLate s s.clock).map (lateBody s s.clock)) (expired ++ late) ∧
      A.book = (bookSecond s).book ∧ A.closing = s.closing := by
    have hidle := latchExpired_announces s
    obtain ⟨hb, hbk, hcl⟩ := bookSecond_announces (idleSecond s)
    have hsame : (idleSecond s).book = s.book ∧ (idleSecond s).closing = s.closing := by
      rw [idleSecond_eq]
      unfold latchExpired
      split <;> exact ⟨rfl, rfl⟩
    have hclock : (idleSecond s).clock = s.clock := hidle.clock
    have hconfig : (idleSecond s).config = s.config := hidle.config
    have hlate : newlyLate (idleSecond s) (idleSecond s).clock = newlyLate s s.clock := by
      unfold newlyLate
      rw [hsame.1, hclock]
    have hbody : lateBody (idleSecond s) (idleSecond s).clock = lateBody s s.clock := by
      funext e
      unfold lateBody ownStation
      rw [hclock, hconfig]
    have hfault : lateFault (idleSecond s) = lateFault s := by
      funext e
      unfold lateFault
      rw [hclock]
    rw [hlate, hbody, hfault] at hb
    refine ⟨_, rfl, hidle.trans hb, ?_, hcl.trans hsame.2⟩
    rw [hbk, hbook, hsame.1, hclock, hconfig]
  obtain ⟨A, hA, hA2, hA3, hA4⟩ := hfirst
  obtain ⟨B, hB, hB2, hB3, hB4⟩ := hsecond
  rw [hA, hB]
  rcases eitherOrder_cases A B with h | h
  · exact ⟨A, _, _, h, hA2, .inl rfl, hA3, hA4⟩
  · exact ⟨B, _, _, h, hB2, .inr rfl, hB3, hB4⟩

/-! ### The faults of a clock second -/

/-- The kinds latched by faults of the delivery and the group kind. -/
theorem latches_delivery_group {s t : State} {fs : List FaultLog} (h : Latches s t fs)
    (hk : ∀ f ∈ fs, f.detail.kind = .delivery ∨ f.detail.kind = .group) :
    t.latched = { s.latched with
      delivery := s.latched.delivery || fs.any (fun f => f.detail.kind == .delivery)
      group := s.latched.group || fs.any (fun f => f.detail.kind == .group) } := by
  rw [h.1]
  generalize s.latched = p
  clear h
  induction fs generalizing p with
  | nil => simp
  | cons f fs ih =>
    rw [List.foldl_cons, ih (fun g hg => hk g (List.mem_cons_of_mem _ hg)) (p.insert f.detail.kind)]
    rcases hk f List.mem_cons_self with hf | hf <;> rw [List.any_cons, List.any_cons, hf]
    · simp [PerKind.insert, show (FaultKind.delivery == FaultKind.group) = false from rfl]
    · simp [PerKind.insert, show (FaultKind.group == FaultKind.delivery) = false from rfl]

/-- The log after faults were taken is the first of them, when the log was armed. -/
theorem latches_firstFault {s t : State} {fs : List FaultLog} (h : Latches s t fs) :
    t.firstFault = if s.latched = noKinds then fs.head?.or s.firstFault else s.firstFault := by
  cases fs with
  | nil =>
    rw [(latches_nil.mp h).2]
    simp
  | cons f fs =>
    rw [(latches_cons.mp h).2]
    rfl

/-- Settles O6. -/
theorem clockSecondResult : Obligations.ClockSecondResult := by
  unfold Obligations.ClockSecondResult
  intro s
  refine ⟨fun hs => if_pos hs, fun hs hn => ?_⟩
  let u : State := { s with clock := s.clock + 1, timebase := 0 }
  let v : State := { u with group := agedGroup s.group }
  obtain ⟨A, n, fs, heither, hann, hfs, hbook, hclosing⟩ := blocks_announce u
  have hbk := (bookSecond_announces u).2.1
  let late : List FaultLog := (newlyLate s (s.clock + 1)).map (lateFault u)
  let expired : List FaultLog := (expiredFault u).toList
  have hfs : fs = late ++ expired ∨ fs = expired ++ late := hfs
  have hlatek : ∀ f ∈ late, f.detail.kind = .delivery := lateFaults_kind u _
  have hexpk : ∀ f ∈ expired, f.detail.kind = .group := by
    intro f hf
    obtain ⟨g, _, rfl⟩ := Option.map_eq_some_iff.mp (Option.mem_toList.mp hf)
    rfl
  have hmem : ∀ f, f ∈ fs ↔ f ∈ late ∨ f ∈ expired := by
    rcases hfs with rfl | rfl
    · exact fun f => List.mem_append
    · exact fun f => List.mem_append.trans or_comm
  have hkinds : ∀ f ∈ fs, f.detail.kind = .delivery ∨ f.detail.kind = .group := fun f hf =>
    ((hmem f).mp hf).imp (hlatek f) (hexpk f)
  have hhalt := hann.haltsNothing (kinds := [.group, .delivery]) hn (fun f hf => by
    rcases hkinds f hf with h | h <;> simp [h])
  let A' : State := { A with
    budget := min (s.budget + s.config.policy.refill * 100) (s.config.policy.capacity * 100)
    tallyCount := min (s.tallyCount + 1) 60, choices := n }
  have hblocks : blocksSecond u = A' := by
    unfold blocksSecond
    rw [heither]
    have hbudget : A.budget = s.budget := by rw [hann.frame]
    have hcount : A.tallyCount = s.tallyCount := by rw [hann.frame]
    have hconfig : A.config = s.config := hann.config
    unfold tallySecond refill credit State.capacity
    change _ = ({ A with
      budget := min (s.budget + s.config.policy.refill * 100) (s.config.policy.capacity * 100)
      tallyCount := min (s.tallyCount + 1) 60, choices := n } : State)
    dsimp only
    rw [hbudget, hcount, hconfig]
  have hset := HaltsNothing.settle_eq (u := { A' with halt := false }) (v := A') ⟨rfl, rfl, hhalt.only⟩
  have hframe : { A' with halt := false } = _ := congrArg (fun x : State => { x with
    budget := min (s.budget + s.config.policy.refill * 100) (s.config.policy.capacity * 100)
    tallyCount := min (s.tallyCount + 1) 60, choices := n }) hann.unhalted
  let t : State := { A' with halt := false, quietWait := quietAfter { A' with halt := false } }
  have hexec : exec .clockSecond s = .next t := by
    change execClockSecond s = _
    unfold execClockSecond
    dsimp only
    rw [if_neg hs]
    refine congrArg Host.Outcome.next ?_
    change settle (blocksSecond u) = t
    rw [hblocks]
    exact hset
  have hlatched := latches_delivery_group hann.latches hkinds
  have hfirst := latches_firstFault hann.latches
  have hdel : fs.any (fun f => f.detail.kind == .delivery) = true ↔ newlyLate s (s.clock + 1) ≠ [] := by
    rw [List.any_eq_true]
    refine ⟨fun ⟨f, hf, hk⟩ hnone => ?_, fun hne => ?_⟩
    · rcases (hmem f).mp hf with h | h
      · obtain ⟨e, he, _⟩ := List.mem_map.mp h
        exact absurd (hnone ▸ he) List.not_mem_nil
      · simp [hexpk f h, show (FaultKind.group == FaultKind.delivery) = false from rfl] at hk
    · obtain ⟨e, es, he⟩ := List.exists_cons_of_ne_nil hne
      exact ⟨lateFault u e, (hmem _).mpr (.inl (List.mem_map_of_mem (he ▸ List.mem_cons_self))), rfl⟩
  have hgrp : fs.any (fun f => f.detail.kind == .group) = s.group.any (fun g => decide (g.idle ≤ 1)) := by
    rw [Bool.eq_iff_iff, List.any_eq_true, Option.any_eq_true]
    refine ⟨fun ⟨f, hf, hk⟩ => ?_, fun ⟨g, hg, hi⟩ => ?_⟩
    · rcases (hmem f).mp hf with h | h
      · simp [hlatek f h, show (FaultKind.delivery == FaultKind.group) = false from rfl] at hk
      · obtain ⟨g, hg, _⟩ := Option.map_eq_some_iff.mp (Option.mem_toList.mp h)
        obtain ⟨hg, hi⟩ := Option.filter_eq_some_iff.mp hg
        exact ⟨g, hg, hi⟩
    · refine ⟨⟨.d126, 0, 0, g.number, u.clock⟩, (hmem _).mpr (.inr (Option.mem_toList.mpr ?_)), rfl⟩
      exact Option.map_eq_some_iff.mpr ⟨g, Option.filter_eq_some_iff.mpr ⟨hg, hi⟩, rfl⟩
  have hclock : t.clock = s.clock + 1 := hann.clock
  have htimebase : t.timebase = 0 := by
    change A.timebase = 0
    rw [hann.frame]
  have hgroup : t.group = agedGroup s.group := by
    change A.group = _
    rw [hann.frame]
  refine ⟨t, hexec, hclock, htimebase, hbook.trans hbk, rfl, rfl, hgroup, ⟨hann.queues, ?_⟩, ?_, fun harmed => ?_, fun hset => ?_, rfl, ?_⟩
  · change A.latched.delivery = true ↔ _
    rw [hlatched]
    exact Bool.or_eq_true_iff.trans (or_congr_right hdel)
  · rw [hgrp] at hlatched
    refine hlatched.trans ?_
    rw [show t.latched = A.latched from rfl, hlatched]
  · have hhead : A.firstFault = fs.head?.or s.firstFault := hfirst.trans (if_pos harmed)
    have hlate : (newlyLate s (s.clock + 1)).head?.map
        (fun e => (⟨.d205, e.label, 0, e.lastGroup, s.clock + 1⟩ : FaultLog)) = late.head? := List.head?_map.symm
    have hexp : (expiredFault u) = expired.head? := by
      cases h : expiredFault u <;> simp [expired, h]
    intro lateOne expiredOne
    have hL : lateOne = late.head? := hlate
    have hX : expiredOne = expired.head? := hexp
    rw [hL, hX]
    change (_ → _ → A.firstFault = _) ∧ (∀ _, _ → _ → A.firstFault = _) ∧ (∀ _, _ → _ → A.firstFault = _) ∧
      (∀ _ _, _ → _ → A.firstFault = _ ∨ A.firstFault = _)
    rw [hhead]
    rcases hfs with h | h <;> rw [h, List.head?_append]
    · refine ⟨fun h1 h2 => by rw [h1, h2]; rfl, fun l h1 h2 => by rw [h1]; rfl, fun x h1 h2 => by rw [h1, h2]; rfl,
        fun l x h1 h2 => .inl (by rw [h1]; rfl)⟩
    · refine ⟨fun h1 h2 => by rw [h1, h2]; rfl, fun l h1 h2 => by rw [h1, h2]; rfl, fun x h1 h2 => by rw [h2]; rfl,
        fun l x h1 h2 => .inr (by rw [h2]; rfl)⟩
  · exact hfirst.trans (if_neg hset)
  · refine (congrArg (fun x : State => { x with quietWait := quietAfter { A' with halt := false } }) hframe).trans ?_
    rw [hclosing, hclock, htimebase, hgroup, ← hn.1]
    rfl

end Sys2Proof.Machine
end


section
/-! The drain of the closing order list (R60, R61). -/

namespace Sys2Proof.Machine

/-! ### The list used from its head -/

/-- How much of a closing order list the queue's room takes. -/
def drainCount (ns : List Nat) (s : State) : Nat := min ns.length (256 - s.reports.length)

/-- The entries that the drain closes. -/
def drainedEntries (ns : List Nat) (s : State) : List Entry := (ns.take (drainCount ns s)).filterMap s.entryAt

/-- The book after the drain. -/
def drainedBook (ns : List Nat) (s : State) : List Entry :=
  s.book.filterMap (fun e => if e.slot ∈ ns.take (drainCount ns s) then promotedOf s e else some e)

/-- Every slot of the list holds a CLOSING entry. -/
def AllClosing (ns : List Nat) (s : State) : Prop := ∀ n ∈ ns, ∃ e ∈ s.book, e.slot = n ∧ e.isClosing = true

theorem closing_of_isClosing {e : Entry} (h : e.isClosing = true) : ∃ r, e.state = .closing r := by
  unfold Entry.isClosing at h
  split at h
  next r hr => exact ⟨r, hr⟩
  next => cases h

theorem promotedOf_slot {s : State} {e n : Entry} (h : promotedOf s e = some n) : n.slot = e.slot ∧ n.label = e.label := by
  obtain ⟨p, _, rfl⟩ := Option.map_eq_some_iff.mp h
  exact ⟨rfl, rfl⟩

/-- The book without a closed entry, entry by entry. -/
theorem closedBook_eq {s : State} (hkey : BookIsKeyed s) {e : Entry} (he : e ∈ s.book) :
    closedBook s e = s.book.filterMap (fun x => if x.slot = e.slot then promotedOf s x else some x) := by
  have hsame : ∀ {x}, x ∈ s.book → x.slot = e.slot → x = e := fun hx hs => KeyedBook.slot_inj hkey hx he hs
  unfold closedBook
  cases hp : promotedOf s e with
  | some n =>
    obtain ⟨hslot, _⟩ := promotedOf_slot hp
    change s.book.map (fun x => if x.slot = n.slot then n else x) = _
    rw [← List.filterMap_eq_map]
    refine filterMap_congr_left fun x hx => ?_
    by_cases hs : x.slot = e.slot
    · rw [hsame hx hs, if_pos rfl, hp]
      exact congrArg some (if_pos hslot.symm)
    · rw [if_neg hs]
      exact congrArg some (if_neg (hslot ▸ hs))
  | none =>
    change s.book.filter (fun x => x.slot != e.slot) = _
    rw [← List.filterMap_eq_filter]
    refine filterMap_congr_left fun x hx => ?_
    by_cases hs : x.slot = e.slot
    · rw [if_pos hs, hsame hx hs, hp]
      simp [Option.guard]
    · rw [if_neg hs]
      simp [Option.guard, hs]

theorem closedBook_keyed {s : State} (hkey : BookIsKeyed s) {e : Entry} (he : e ∈ s.book) : KeyedBook (closedBook s e) := by
  unfold closedBook
  cases hp : promotedOf s e with
  | some n =>
    obtain ⟨hslot, hlabel⟩ := promotedOf_slot hp
    exact KeyedBook.put hkey he hslot hlabel
  | none => exact KeyedBook.filter hkey _

/-- Every other entry stays. -/
theorem mem_closedBook {s : State} (hkey : BookIsKeyed s) {e x : Entry} (he : e ∈ s.book) (hx : x ∈ s.book)
    (hs : x.slot ≠ e.slot) : x ∈ closedBook s e := by
  rw [closedBook_eq hkey he]
  exact List.mem_filterMap.mpr ⟨x, hx, if_neg hs⟩

/-- The drain's first entry: the book after it and the rest of the list make the book after the whole. -/
theorem drainedBook_cons {s t : State} {e : Entry} {ns : List Nat} (hkey : BookIsKeyed s) (he : e ∈ s.book)
    (hnd : e.slot ∉ ns) (hbook : t.book = closedBook s e) (hprom : ∀ x, promotedOf t x = promotedOf s x)
    (hcount : drainCount (e.slot :: ns) s = drainCount ns t + 1) :
    drainedBook ns t = drainedBook (e.slot :: ns) s := by
  unfold drainedBook
  rw [hbook, closedBook_eq hkey he, List.filterMap_filterMap, hcount, List.take_succ_cons]
  refine filterMap_congr_left fun x hx => ?_
  by_cases hs : x.slot = e.slot
  · rw [if_pos hs, if_pos (by rw [hs]; exact List.mem_cons_self)]
    cases hp : promotedOf s x with
    | none => rfl
    | some n =>
      obtain ⟨hslot, _⟩ := promotedOf_slot hp
      have hnot : n.slot ∉ ns.take (drainCount ns t) := fun h => hnd (by
        rw [← hs, ← hslot]
        exact List.mem_of_mem_take h)
      exact if_neg hnot
  · rw [if_neg hs, Option.bind_some, hprom]
    simp only [List.mem_cons, hs, false_or]

/-- What the drain of a list leaves, reports and latches (R60, R61). -/
theorem drainList_announces : ∀ (ns : List Nat) (late : List Entry) (s : State), BookIsKeyed s → ns.Nodup →
    AllClosing ns s →
    Announces s (drainList ns late s).1 ((drainedEntries ns s).filterMap closingBody)
        (((drainedEntries ns s).flatMap (promotedLate s)).map (lateFault s)) ∧
      (drainList ns late s).1.book = drainedBook ns s ∧
      (drainList ns late s).1.closing = ns.drop (drainCount ns s) ∧
      (drainList ns late s).2 = late ++ (drainedEntries ns s).flatMap (promotedLate s) ∧
      ((drainedEntries ns s).filterMap closingBody).length = drainCount ns s
  | [], late, s, _, _, _ => by
    have hbook : drainedBook [] s = s.book := by simp [drainedBook]
    refine ⟨.edit s s.book [], hbook.symm, by simp [drainList], by simp [drainList, drainedEntries], by
      simp [drainedEntries, drainCount]⟩
  | n :: ns, late, s, hkey, hnd, hall => by
    by_cases hroom : s.reports.length < 256
    · obtain ⟨hnot, hnd'⟩ := List.nodup_cons.mp hnd
      obtain ⟨e, he, rfl, hcl⟩ := hall n List.mem_cons_self
      obtain ⟨r, hr⟩ := closing_of_isClosing hcl
      have hat := entryAt_of_mem hkey he
      have hstep : drainList (e.slot :: ns) late s =
          drainList ns (late ++ (closeOut e r s).2.toList) (closeOut e r s).1 := by
        rw [drainList]
        refine (if_pos (show s.hasRoom = true from decide_eq_true hroom)).trans ?_
        rw [hat]
        dsimp only
        rw [hr]
      obtain ⟨hann, hbook, _, hlate⟩ := closeOut_announces hroom e r
      rw [hlate] at hstep
      have hq := hann.queues.1
      generalize (closeOut e r s).1 = t at *
      have hprom : ∀ x, promotedOf t x = promotedOf s x := fun x => by rw [hann.frame]; rfl
      have hplate : ∀ x, promotedLate t x = promotedLate s x := fun x => by
        unfold promotedLate
        rw [hprom]
      have hfault : lateFault t = lateFault s := by rw [hann.frame]; rfl
      have hlen : t.reports.length = s.reports.length + 1 := by
        rw [hq, List.length_append, numbered_length, List.take_of_length_le (by simp only [List.length_singleton]; omega)]
        rfl
      have hcount : drainCount (e.slot :: ns) s = drainCount ns t + 1 := by
        unfold drainCount
        rw [hlen, List.length_cons]
        omega
      have hkeyt : BookIsKeyed t := by
        have := closedBook_keyed hkey he
        rwa [← hbook] at this
      have hother : ∀ x ∈ s.book, x.slot ≠ e.slot → x ∈ t.book := fun x hx hs => by
        rw [hbook]
        exact mem_closedBook hkey he hx hs
      have hne : ∀ k ∈ ns, k ≠ e.slot := fun k hk h => hnot (h ▸ hk)
      have hallt : AllClosing ns t := fun k hk => by
        obtain ⟨x, hx, rfl, hxc⟩ := hall k (List.mem_cons_of_mem _ hk)
        exact ⟨x, hother x hx (hne _ hk), rfl, hxc⟩
      have hentries : drainedEntries (e.slot :: ns) s = e :: drainedEntries ns t := by
        unfold drainedEntries
        rw [hcount, List.take_succ_cons, List.filterMap_cons, hat]
        refine congrArg (e :: ·) (filterMap_congr_left fun k hk => ?_)
        obtain ⟨x, hx, rfl, _⟩ := hall k (List.mem_cons_of_mem _ (List.mem_of_mem_take hk))
        rw [entryAt_of_mem hkey hx, entryAt_of_mem hkeyt (hother x hx (hne _ (List.mem_of_mem_take hk)))]
      obtain ⟨hann', hbook', hclosing', hlate', hlen'⟩ :=
        drainList_announces ns (late ++ promotedLate s e) t hkeyt hnd' hallt
      have hbody : closingBody e = some (closingOf e r) := by
        unfold closingBody
        rw [hr]
      have hflat : (drainedEntries ns t).flatMap (promotedLate t) = (drainedEntries ns t).flatMap (promotedLate s) :=
        congrArg (fun f => List.flatMap f (drainedEntries ns t)) (funext hplate)
      rw [hstep, hentries, List.filterMap_cons, hbody, List.flatMap_cons, List.map_append]
      rw [hflat, hfault] at hann'
      rw [hflat] at hlate'
      refine ⟨hann.trans hann', ?_, ?_, ?_, ?_⟩
      · rw [hbook']
        exact drainedBook_cons hkey he hnot hbook hprom hcount
      · rw [hclosing', hcount, List.drop_succ_cons]
      · rw [hlate', List.append_assoc]
      · rw [List.length_cons, hlen', hcount]
    · have hcount : drainCount (n :: ns) s = 0 := by
        unfold drainCount
        omega
      have hentries : drainedEntries (n :: ns) s = [] := by simp [drainedEntries, hcount]
      have hbook : drainedBook (n :: ns) s = s.book := by simp [drainedBook, hcount]
      have hstep : drainList (n :: ns) late s = ({ s with closing := n :: ns }, late) := by
        rw [drainList]
        exact if_neg (by simpa [State.hasRoom] using hroom)
      rw [hstep, hentries, hcount]
      exact ⟨.edit s s.book (n :: ns), hbook.symm, rfl, (List.append_nil late).symm, rfl⟩

/-- The drain of the closing order list, with the LATE reports of those promoted late at the end (R60, R61, R64). -/
theorem drainClosing_drained {s : State} (hkey : BookIsKeyed s) (hnd : s.closing.Nodup)
    (hall : AllClosing s.closing s) :
    ∃ bs fs, Announces s (drainClosing s) bs fs ∧ (∀ f ∈ fs, f.detail.kind ∈ [FaultKind.delivery]) ∧
      Drained s (drainClosing s) s.reports := by
  obtain ⟨hann, hbook, hclosing, hlate, hlen⟩ := drainList_announces s.closing [] s hkey hnd hall
  have hdrain : drainClosing s = reportPromoted (drainList s.closing [] s).2 (drainList s.closing [] s).1 := rfl
  rw [List.nil_append] at hlate
  rw [hlate] at hdrain
  generalize (drainList s.closing [] s).1 = t at *
  have hrep := reportPromoted_announces ((drainedEntries s.closing s).flatMap (promotedLate s)) t
  have hbody : lateBody t t.clock = lateBody s s.clock := by rw [hann.frame]; rfl
  rw [hbody] at hrep
  have hboth := hann.trans hrep
  rw [List.append_nil] at hboth
  have htells := reportPromoted_tells ((drainedEntries s.closing s).flatMap (promotedLate s)) t
  have hq := hboth.queues
  have hle : drainCount s.closing s ≤ 256 - s.reports.length := Nat.min_le_right _ _
  rw [List.take_append, hlen, List.take_of_length_le (by omega)] at hq
  rw [hdrain]
  refine ⟨_, _, hboth, lateFaults_delivery s _, ?_, ?_, hq.1, hq.2, hboth.latches⟩
  · rw [htells.closing_eq, hclosing]
    rfl
  · rw [htells.book_eq, hbook]
    rfl

/-- Settles O26. -/
theorem closingListDrainResult : Obligations.ClosingListDrainResult := by
  unfold Obligations.ClosingListDrainResult
  intro s hn hkey hnd hall hs
  obtain ⟨bs, fs, hann, hf, hdrained⟩ := drainClosing_drained hkey hnd hall
  obtain ⟨q, hset, hq⟩ := hann.settled_self hn hf
  exact ⟨concluded s (drainClosing s) s.dialogue s.transmitting s.budget s.tally s.choices q,
    congrArg Host.Outcome.next hset, hdrained, hq, rfl⟩

/-- Settles O25. -/
theorem takeReportsResult : Obligations.TakeReportsResult := by
  unfold Obligations.TakeReportsResult
  intro n s hs hn k
  let u : State := { s with holding := ⟨0x30, [n], true⟩ :: s.holding.tail }
  let answer : State → Answer := fun t => ⟨.ok, .reports (s.reports.take k) k t.reports.length t.closing.length⟩
  have hexec : exec (.takeReports n) s = .next { settle (takeRoom k u) with
      response := some ⟨0x30, answer (takeRoom k u), (settle (takeRoom k u)).lineRate⟩ } := by
    rw [exec_of_request rfl, serve_acts hs]
    rfl
  refine ⟨fun hk => ?_, fun hk hkey hnd hall => ?_⟩
  · have hroom : takeRoom k u = { u with reports := s.reports.drop k } := by
      unfold takeRoom
      rcases hk with hk | hk
      · rw [if_pos hk, hk]
        rfl
      · split
        next h0 => rw [h0]; rfl
        next =>
          have hcl : ({ u with reports := u.reports.drop k } : State).closing = [] := hk
          unfold drainClosing
          rw [hcl]
          unfold drainList
          change { u with reports := u.reports.drop k, closing := [] } = _
          rw [← hk]
    rw [hexec, hroom, settle_of_no_halt (s := { u with reports := s.reports.drop k }) hn.1, answered_eq rfl]
    dsimp only [answer]
    rw [List.length_drop]
    rfl
  · have hroom : takeRoom k u = drainClosing { u with reports := s.reports.drop k } := if_neg (by omega)
    obtain ⟨bs, fs, hann, hf, hdrained⟩ := drainClosing_drained (s := { u with reports := s.reports.drop k }) hkey hnd hall
    obtain ⟨q, hset, hq⟩ := hann.settled_self hn hf
    rw [hroom, hset] at hexec
    exact ⟨_, hexec, hdrained, rfl, rfl, hq, rfl⟩

end Sys2Proof.Machine
end


section
/-! The reads: STATUS, READ ENTRY and READ ROSTER. -/

namespace Sys2Proof.Machine

/-! ### READ ENTRY (R67, R178) -/

theorem readEntryAct_label {s : State} {l : LabelAddr} {e : Entry} (h : s.entryOf l = some e) :
    readEntryAct 0 l s = (s, ⟨.ok, .entry e⟩) := by
  unfold readEntryAct
  rw [if_pos rfl, h]

theorem readEntryAct_noLabel {s : State} {l : LabelAddr} (h : s.entryOf l = none) :
    readEntryAct 0 l s = (s, ⟨.ok, .noEntry l⟩) := by
  unfold readEntryAct
  rw [if_pos rfl, h]

theorem readEntryAct_slot {s : State} {sel : Byte} {n : LabelAddr} {e : Entry} (hsel : sel ≠ 0)
    (hn : n.toNat < 65536) (h : s.entryAt n.toNat = some e) : readEntryAct sel n s = (s, ⟨.ok, .entry e⟩) := by
  unfold readEntryAct
  rw [if_neg hsel, Nat.mod_eq_of_lt hn, h]

theorem readEntryAct_free {s : State} {sel : Byte} {n : LabelAddr} (hsel : sel ≠ 0) (hn : n.toNat < 65536)
    (h : s.entryAt n.toNat = none) : readEntryAct sel n s = (s, ⟨.ok, .freeSlot n.toNat⟩) := by
  unfold readEntryAct
  rw [if_neg hsel, Nat.mod_eq_of_lt hn, h]

/-! ### READ ROSTER (R78) -/

/-- A slot with no record. -/
theorem rosterLine_free {s : State} {n : Nat} (h : ∀ r ∈ s.roster, r.slot ≠ n) : rosterLine s n = .free n := by
  have hno : s.roster.findIdx? (fun r => r.slot == n) = none := by simpa using h
  unfold rosterLine
  rw [hno]

/-- A slot with a record, and its rank in the recency order. -/
theorem rosterLine_occupied {s : State} (hp : s.roster.Pairwise (fun a b => a.slot ≠ b.slot)) {k : Nat}
    {r : RosterRecord} (h : s.roster[k]? = some r) :
    rosterLine s r.slot = .occupied r (k + 1) (s.entryOf r.label).isSome := by
  obtain ⟨hk, hget⟩ := List.getElem?_eq_some_iff.mp h
  have hidx : s.roster.findIdx? (fun x => x.slot == r.slot) = some k := by
    rw [List.findIdx?_eq_some_iff_getElem]
    refine ⟨hk, by simp [hget], fun j hj => ?_⟩
    have := List.pairwise_iff_getElem.mp hp j k (by omega) hk hj
    rw [hget] at this
    simpa using this
  unfold rosterLine
  rw [hidx]
  dsimp only
  rw [h]

/-- Settles O14. -/
theorem readsAnswerAsItStands : Obligations.ReadsAnswerAsItStands := by
  unfold Obligations.ReadsAnswerAsItStands
  intro s hs
  refine ⟨⟨statusBody s, exec_eq_answered rfl hs rfl rfl, rfl, rfl, rfl, rfl, rfl, rfl, rfl, rfl, rfl, rfl, rfl, rfl,
      rfl, List.countP_eq_length_filter, rfl, rfl, rfl, rfl, ?_, rfl⟩,
    fun l e he => ?_, fun l he => ?_, fun sel n e hsel hn he => ?_, fun sel n hsel hn he => ?_, fun first count => ?_⟩
  · change dialogueView s.dialogue = _
    unfold dialogueView
    cases s.dialogue <;> rfl
  · exact exec_eq_answered rfl hs rfl (readEntryAct_label (by exact he))
  · exact exec_eq_answered rfl hs rfl (readEntryAct_noLabel (by exact he))
  · exact exec_eq_answered rfl hs rfl (readEntryAct_slot hsel hn (by exact he))
  · exact exec_eq_answered rfl hs rfl (readEntryAct_free hsel hn (by exact he))
  · have hline : ∀ i < ((rosterSlots first.toNat count.toNat).map (rosterLine s)).length,
        ((rosterSlots first.toNat count.toNat).map (rosterLine s))[i]? = some (rosterLine s (first.toNat + i)) := by
      intro i hi
      have hi' : i < (List.range (min (min count.toNat 16) (slotCount - first.toNat))).length := by
        simpa [rosterSlots] using hi
      simp only [rosterSlots, List.map_map, List.getElem?_map, List.getElem?_eq_getElem hi', Option.map_some,
        List.getElem_range, Function.comp_apply]
    refine ⟨(rosterSlots first.toNat count.toNat).map (rosterLine s), exec_eq_answered rfl hs rfl rfl, ?_,
      fun i hi hfree => ?_, fun hp i hi k r hr hslot => ?_⟩
    · simp only [rosterSlots, List.length_map, List.length_range]
      rfl
    · rw [hline i hi, rosterLine_free hfree]
    · rw [hline i hi, ← hslot, rosterLine_occupied hp hr]

end Sys2Proof.Machine
end


section
/-! The receiver of the Batch Link: bytes one by one (R160). -/

namespace Sys2Proof.Machine

/-! ### The progress of a frame -/

theorem numAt_zero_two (bytes : List Byte) : numAt bytes 0 2 = natOfBytes (bytes.take 2) := rfl

theorem frameProgress_short {bytes : List Byte} (h : bytes.length < 2) (missing : Bool) :
    frameProgress bytes missing = .more := if_pos h

theorem frameProgress_bad {bytes : List Byte} (h : 2 ≤ bytes.length)
    (hn : natOfBytes (bytes.take 2) = 0 ∨ 255 < natOfBytes (bytes.take 2)) (missing : Bool) :
    frameProgress bytes missing = .ended ⟨0, [], false⟩ := by
  unfold frameProgress
  rw [if_neg (by omega)]
  exact if_pos hn

theorem frameProgress_more {bytes : List Byte} (hn : 1 ≤ natOfBytes (bytes.take 2))
    (hn' : natOfBytes (bytes.take 2) ≤ 255) (h : bytes.length < natOfBytes (bytes.take 2) + 4) (missing : Bool) :
    frameProgress bytes missing = .more := by
  unfold frameProgress
  split
  · rfl
  · dsimp only
    rw [numAt_zero_two, if_neg (by omega), if_pos h]

theorem frameProgress_ends {bytes : List Byte} (h2 : 2 ≤ bytes.length) (hn : 1 ≤ natOfBytes (bytes.take 2))
    (hn' : natOfBytes (bytes.take 2) ≤ 255) (h : natOfBytes (bytes.take 2) + 4 ≤ bytes.length) (missing : Bool) :
    frameProgress bytes missing = .ended ⟨bytes.getD 2 0, (bytes.drop 3).take (natOfBytes (bytes.take 2) - 1),
      linkCheckGood bytes && !missing⟩ := by
  unfold frameProgress
  rw [if_neg (by omega)]
  dsimp only
  rw [numAt_zero_two, if_neg (by omega), if_neg (by omega)]

/-! ### A received byte -/

theorem receiveByte_hunting {s : State} (h : s.receiver = .hunting) (b : Byte) (stop : Bool) :
    receiveByte b stop s = if b = 0xA5 then { s with receiver := .receiving [] (!stop) } else s := by
  unfold receiveByte
  rw [h]

theorem receiveByte_more {s : State} {bytes : List Byte} {missing : Bool} (h : s.receiver = .receiving bytes missing)
    {b : Byte} {stop : Bool} (hp : frameProgress (bytes ++ [b]) (missing || !stop) = .more) :
    receiveByte b stop s = { s with receiver := .receiving (bytes ++ [b]) (missing || !stop) } := by
  unfold receiveByte
  rw [h]
  dsimp only
  rw [hp]

theorem receiveByte_ends {s : State} {bytes : List Byte} {missing : Bool} (h : s.receiver = .receiving bytes missing)
    {b : Byte} {stop : Bool} {f : LinkFrame} (hp : frameProgress (bytes ++ [b]) (missing || !stop) = .ended f) :
    receiveByte b stop s = offerFrameToHolding f { s with receiver := .hunting } := by
  unfold receiveByte
  rw [h]
  dsimp only
  rw [hp]

/-! ### The bytes of a frame -/

/-- The bytes after the sync byte: the length, the kind, the body and the frame check (12.3). -/
def frameBytes (kind : Byte) (body : List Byte) (check : BitVec 16) : List Byte :=
  bytesOfNat 2 (body.length + 1) ++ kind :: body ++ bytesOfBits 2 check

section
variable {kind : Byte} {body : List Byte} {check : BitVec 16} (hbody : body.length ≤ 254)

theorem frameBytes_length : (frameBytes kind body check).length = body.length + 5 := by
  simp [frameBytes]
  omega

/-- The check is good exactly when it is that of 12.4. -/
theorem frameBytes_check : linkCheckGood (frameBytes kind body check) =
    decide (check = crc16 (bytesOfNat 2 (body.length + 1) ++ kind :: body)) := by
  have hlen : (frameBytes kind body check).length - 2 = (bytesOfNat 2 (body.length + 1) ++ kind :: body).length := by
    simp [frameBytes]
    omega
  have hdrop : numAt (frameBytes kind body check) ((frameBytes kind body check).length - 2) 2 = check.toNat := by
    rw [← natOfBytes_bytesOfBits check (n := 2) (by decide), hlen]
    unfold frameBytes
    rw [← List.append_nil (bytesOfBits 2 check)]
    exact (numAt_append rfl (Laws.bytesOfBits_length 2 check) []).trans (by rw [List.append_nil])
  have hchecked : checkedBytes (frameBytes kind body check) = bytesOfNat 2 (body.length + 1) ++ kind :: body := by
    unfold checkedBytes
    rw [hlen]
    exact List.take_left
  unfold linkCheckGood
  rw [hdrop, hchecked, Bool.eq_iff_iff, beq_iff_eq, decide_eq_true_iff, BitVec.toNat_inj]
  exact eq_comm

include hbody

theorem frameBytes_number : natOfBytes ((frameBytes kind body check).take 2) = body.length + 1 := by
  have h2 : (bytesOfNat 2 (body.length + 1)).length = 2 := Laws.bytesOfNat_length ..
  unfold frameBytes
  rw [List.append_assoc, List.take_left' h2]
  exact natOfBytes_bytesOfNat_of_lt (by omega)

/-- A beginning of the frame's bytes is a frame still awaited. -/
theorem frameProgress_prefix {p rest : List Byte} (hp : p ++ rest = frameBytes kind body check) (hrest : rest ≠ [])
    (missing : Bool) : frameProgress p missing = .more := by
  have hlen : p.length + rest.length = body.length + 5 := by
    rw [← List.length_append, hp, frameBytes_length]
  have hpos : 0 < rest.length := List.length_pos_iff.mpr hrest
  by_cases h2 : p.length < 2
  · exact frameProgress_short h2 missing
  · have hnum : natOfBytes (p.take 2) = body.length + 1 := by
      rw [← frameBytes_number hbody (kind := kind) (check := check), ← hp, List.take_append_of_le_length (by omega)]
    exact frameProgress_more (by omega) (by omega) (by omega) missing

/-- The whole of the frame's bytes ends the frame. -/
theorem frameProgress_whole (missing : Bool) : frameProgress (frameBytes kind body check) missing =
    .ended ⟨kind, body, decide (check = crc16 (bytesOfNat 2 (body.length + 1) ++ kind :: body)) && !missing⟩ := by
  have hlen := frameBytes_length (kind := kind) (body := body) (check := check)
  have hnum := frameBytes_number hbody (kind := kind) (check := check)
  rw [frameProgress_ends (by omega) (by omega) (by omega) (by omega), hnum, frameBytes_check]
  have hkind : (frameBytes kind body check).getD 2 0 = kind := by
    simp [frameBytes, bytesOfNat]
  have htake : ((frameBytes kind body check).drop 3).take (body.length + 1 - 1) = body := by
    simp [frameBytes, bytesOfNat]
  rw [hkind, htake]

/-- The rest of a frame's bytes, received one by one, end the frame. -/
theorem execAll_bytes : ∀ {rest p : List Byte} {stops : List Bool} {missing : Bool} {s : State},
    p ++ rest = frameBytes kind body check → rest ≠ [] → stops.length = rest.length →
    s.receiver = .receiving p missing →
    execAll ((rest.zip stops).map (fun q => .batchByteReceived q.1 q.2)) s =
      .next (offerFrameToHolding
        ⟨kind, body, decide (check = crc16 (bytesOfNat 2 (body.length + 1) ++ kind :: body)) &&
          !(missing || stops.any (fun b => !b))⟩
        { s with receiver := .hunting })
  | [], _, _, _, _, _, h, _, _ => absurd rfl h
  | b :: rest, p, [], _, _, _, _, hlen, _ => by simp at hlen
  | b :: rest, p, stop :: stops, missing, s, hp, _, hlen, hs => by
    have hp' : (p ++ [b]) ++ rest = frameBytes kind body check := by simpa using hp
    have hexec : exec (.batchByteReceived b stop) s = .next (receiveByte b stop s) := rfl
    rw [List.zip_cons_cons, List.map_cons, execAll, hexec]
    cases rest with
    | nil =>
      have hstops : stops = [] := by simpa using hlen
      rw [List.append_nil] at hp'
      have hend := frameProgress_whole hbody (kind := kind) (check := check) (missing || !stop)
      rw [← hp'] at hend
      rw [receiveByte_ends hs hend, hstops]
      simp [execAll]
    | cons c rest =>
      have hmore := receiveByte_more hs (frameProgress_prefix hbody hp' (by simp) (missing || !stop))
      have hnext := execAll_bytes (missing := missing || !stop)
        (s := { s with receiver := .receiving (p ++ [b]) (missing || !stop) }) hp' (by simp)
        (by simpa using hlen) rfl
      rw [hmore]
      refine hnext.trans ?_
      rw [List.any_cons, Bool.or_assoc]
end

/-- Settles O12. -/
theorem bytesEndAsFrame : Obligations.BytesEndAsFrame := by
  unfold Obligations.BytesEndAsFrame
  refine ⟨fun b stop s hs => congrArg Host.Outcome.next (receiveByte_hunting hs b stop),
    fun bytes missing b stop s hs => ⟨fun h => ?_, fun hne h => ?_⟩,
    fun kind body check stops s hbody hlen hs => ?_⟩
  · refine congrArg Host.Outcome.next (receiveByte_more hs ?_)
    rcases h with rfl | ⟨h1, h2, h3⟩
    · exact frameProgress_short (by simp) _
    · exact frameProgress_more h1 h2 (by simpa using h3) _
  · have hpos : 0 < bytes.length := List.length_pos_iff.mpr hne
    exact congrArg Host.Outcome.next (receiveByte_ends hs
      (frameProgress_bad (by simp only [List.length_append, List.length_singleton]; omega) h _))
  · intro checked
    obtain ⟨stop, stops, rfl⟩ := List.exists_cons_of_length_pos (l := stops) (by omega)
    have hsync : exec (.batchByteReceived 0xA5 stop) s = .next { s with receiver := .receiving [] (!stop) } :=
      congrArg Host.Outcome.next ((receiveByte_hunting hs 0xA5 stop).trans (if_pos rfl))
    have hstops : stops.length = (frameBytes kind body check).length := by
      rw [frameBytes_length]
      simpa using hlen
    rw [List.zip_cons_cons, List.map_cons, execAll, hsync]
    refine (execAll_bytes hbody (kind := kind) (check := check) (p := []) (missing := !stop) rfl ?_ hstops rfl).trans ?_
    · exact List.cons_ne_nil _ _
    · have hgood : (!(!stop || stops.any (fun b => !b))) = decide (∀ b ∈ stop :: stops, b = true) := by
        rw [Bool.eq_iff_iff]
        simp
      rw [hgood, ← Bool.decide_and]
      rfl

end Sys2Proof.Machine
end


section
/-! The items of a RECORD body (12.3.1), read back from their bytes. -/

namespace Sys2Proof.Machine

/-! ### One item -/

theorem numAt_bytesOfNat {n x : Nat} (h : x < 256 ^ n) (rest : List Byte) : numAt (bytesOfNat n x ++ rest) 0 n = x :=
  (numAt_append (bs := []) rfl (Laws.bytesOfNat_length n x) rest).trans (natOfBytes_bytesOfNat_of_lt h)

theorem numAt_skip (m y k n : Nat) (rest : List Byte) : numAt (bytesOfNat m y ++ rest) (m + k) n = numAt rest k n :=
  numAt_append_right (Laws.bytesOfNat_length m y) rest k n

/-- A number that ends the bytes. -/
theorem numAt_bytesOfNat_end {n x : Nat} (h : x < 256 ^ n) : numAt (bytesOfNat n x) 0 n = x := by
  simpa using numAt_bytesOfNat h []

/-- The contents of a price item, read back. -/
theorem rawItem_price {ticket kind value modulus ending floor : Nat} (h1 : ticket < 4294967296) (h2 : kind < 256)
    (h3 : value < 4294967296) (h4 : modulus < 65536) (h5 : ending < 65536) (h6 : floor < 4294967296) :
    rawItem 1 (bytesOfNat 4 ticket ++ (bytesOfNat 1 kind ++ (bytesOfNat 4 value ++ (bytesOfNat 2 modulus ++
      (bytesOfNat 2 ending ++ bytesOfNat 4 floor))))) = .price ticket kind value modulus ending floor := by
  let c5 := bytesOfNat 2 ending ++ bytesOfNat 4 floor
  let c4 := bytesOfNat 2 modulus ++ c5
  let c3 := bytesOfNat 4 value ++ c4
  let c2 := bytesOfNat 1 kind ++ c3
  have e1 : numAt (bytesOfNat 4 ticket ++ c2) 0 4 = ticket := numAt_bytesOfNat h1 _
  have e2 : numAt (bytesOfNat 4 ticket ++ c2) 4 1 = kind := (numAt_skip 4 ticket 0 1 c2).trans (numAt_bytesOfNat h2 _)
  have e3 : numAt (bytesOfNat 4 ticket ++ c2) 5 4 = value :=
    (numAt_skip 4 ticket 1 4 c2).trans <| (numAt_skip 1 kind 0 4 c3).trans (numAt_bytesOfNat h3 _)
  have e4 : numAt (bytesOfNat 4 ticket ++ c2) 9 2 = modulus :=
    (numAt_skip 4 ticket 5 2 c2).trans <| (numAt_skip 1 kind 4 2 c3).trans <|
      (numAt_skip 4 value 0 2 c4).trans (numAt_bytesOfNat h4 _)
  have e5 : numAt (bytesOfNat 4 ticket ++ c2) 11 2 = ending :=
    (numAt_skip 4 ticket 7 2 c2).trans <| (numAt_skip 1 kind 6 2 c3).trans <|
      (numAt_skip 4 value 2 2 c4).trans <| (numAt_skip 2 modulus 0 2 c5).trans (numAt_bytesOfNat h5 _)
  have e6 : numAt (bytesOfNat 4 ticket ++ c2) 13 4 = floor :=
    (numAt_skip 4 ticket 9 4 c2).trans <| (numAt_skip 1 kind 8 4 c3).trans <|
      (numAt_skip 4 value 4 4 c4).trans <| (numAt_skip 2 modulus 2 4 c5).trans <|
        (numAt_skip 2 ending 0 4 _).trans (numAt_bytesOfNat_end h6)
  change RawItem.price (numAt (bytesOfNat 4 ticket ++ c2) 0 4) _ _ _ _ _ = _
  rw [e1, e2, e3, e4, e5, e6]

theorem rawItem_unit {quantity basis code : Nat} (h1 : quantity < 4294967296) (h2 : basis < 4294967296)
    (h3 : code < 256) : rawItem 2 (bytesOfNat 4 quantity ++ (bytesOfNat 4 basis ++ bytesOfNat 1 code)) =
      .unit quantity basis code := by
  let c2 := bytesOfNat 4 basis ++ bytesOfNat 1 code
  have e1 : numAt (bytesOfNat 4 quantity ++ c2) 0 4 = quantity := numAt_bytesOfNat h1 _
  have e2 : numAt (bytesOfNat 4 quantity ++ c2) 4 4 = basis :=
    (numAt_skip 4 quantity 0 4 c2).trans (numAt_bytesOfNat h2 _)
  have e3 : numAt (bytesOfNat 4 quantity ++ c2) 8 1 = code :=
    (numAt_skip 4 quantity 4 1 c2).trans <| (numAt_skip 4 basis 0 1 _).trans (numAt_bytesOfNat_end h3)
  change RawItem.unit (numAt (bytesOfNat 4 quantity ++ c2) 0 4) _ _ = _
  rw [e1, e2, e3]

/-- The bytes of an item: its tag, and contents of the tag's length that read back as the item. -/
theorem rawItem_bytes {i : RawItem} (h : i.fits = true) :
    ∃ tag c, i.bytes = tag :: c ∧ contentsLength tag.toNat = some c.length ∧ rawItem tag.toNat c = i := by
  cases i with
  | price ticket kind value modulus ending floor =>
    obtain ⟨h1, h2, h3, h4, h5, h6⟩ := of_decide_eq_true h
    refine ⟨1, _, rfl, by simp [contentsLength], ?_⟩
    simp only [List.append_assoc]
    exact rawItem_price h1 h2 h3 h4 h5 h6
  | unit quantity basis code =>
    obtain ⟨h1, h2, h3⟩ := of_decide_eq_true h
    refine ⟨2, _, rfl, by simp [contentsLength], ?_⟩
    simp only [List.append_assoc]
    exact rawItem_unit h1 h2 h3
  | badge code =>
    exact ⟨3, _, rfl, rfl, congrArg RawItem.badge (numAt_bytesOfNat_end (n := 1) (of_decide_eq_true h))⟩
  | stock code =>
    exact ⟨4, _, rfl, rfl, congrArg RawItem.stock (numAt_bytesOfNat_end (n := 1) (of_decide_eq_true h))⟩
  | ends day =>
    exact ⟨5, _, rfl, rfl, congrArg RawItem.ends (numAt_bytesOfNat_end (n := 2) (of_decide_eq_true h))⟩
  | locate minutes =>
    exact ⟨6, _, rfl, rfl, congrArg RawItem.locate (numAt_bytesOfNat_end (n := 1) (of_decide_eq_true h))⟩
  | unknown => cases h

/-! ### Lists of items -/

theorem readItems_known {n : Nat} {tag : Byte} {c rest : List Byte} (h : contentsLength tag.toNat = some c.length) :
    readItems (n + 1) (tag :: (c ++ rest)) = (readItems n rest).map (fun is => rawItem tag.toNat c :: is) := by
  rw [readItems, h]
  dsimp only
  rw [if_neg (by simp), List.drop_left, List.take_left]

theorem readItems_short {n : Nat} {tag : Byte} {c : List Byte} {len : Nat} (h : contentsLength tag.toNat = some len)
    (hlen : c.length < len) : readItems (n + 1) (tag :: c) = none := by
  rw [readItems, h]
  exact if_pos hlen

theorem readItems_unknown {n : Nat} {tag : Byte} (h : tag = 0 ∨ 6 < tag.toNat) (rest : List Byte) :
    readItems (n + 1) (tag :: rest) = some [.unknown] := by
  have hnone : contentsLength tag.toNat = none := by
    unfold contentsLength
    split
    case h_7 => rfl
    all_goals
      rename_i hk
      rcases h with rfl | h
      · simp at hk
      · omega
  rw [readItems, hnone]

/-- The items of the bytes that stand before the rest. -/
theorem readItems_append : ∀ {is : List RawItem}, (∀ i ∈ is, i.fits = true) → ∀ (k : Nat) (rest : List Byte),
    readItems (is.length + k) (is.flatMap RawItem.bytes ++ rest) = (readItems k rest).map (is ++ ·)
  | [], _, k, rest => by simp
  | i :: is, h, k, rest => by
    obtain ⟨tag, c, hbytes, hlen, hraw⟩ := rawItem_bytes (h i List.mem_cons_self)
    rw [List.length_cons, Nat.add_right_comm, List.flatMap_cons, hbytes, List.cons_append, List.cons_append,
      List.append_assoc, readItems_known hlen, hraw, readItems_append fun x hx => h x (List.mem_cons_of_mem _ hx)]
    cases readItems k rest <;> rfl

theorem readItems_whole {is : List RawItem} (h : ∀ i ∈ is, i.fits = true) :
    readItems is.length (is.flatMap RawItem.bytes) = some is := by
  simpa [readItems] using readItems_append h 0 []

theorem readItems_longer {is : List RawItem} (h : ∀ i ∈ is, i.fits = true) (x : Byte) (xs : List Byte) :
    readItems is.length (is.flatMap RawItem.bytes ++ x :: xs) = none := by
  simpa [readItems] using readItems_append h 0 (x :: xs)

/-- A count other than the number of items fails (R25). -/
theorem readItems_miscounted {is : List RawItem} (h : ∀ i ∈ is, i.fits = true) {n : Nat} (hn : n ≠ is.length) :
    readItems n (is.flatMap RawItem.bytes) = none := by
  by_cases hlt : n < is.length
  · have htake : (is.take n).length = n := by simp; omega
    have hsplit := readItems_append (is := is.take n) (fun i hi => h i (List.mem_of_mem_take hi)) 0
      ((is.drop n).flatMap RawItem.bytes)
    rw [← List.flatMap_append, List.take_append_drop, htake, Nat.add_zero] at hsplit
    obtain ⟨i, rest, hdrop⟩ := List.exists_cons_of_ne_nil (l := is.drop n) (by simp; omega)
    obtain ⟨tag, c, hbytes, _⟩ := rawItem_bytes (h i (List.mem_of_mem_drop (hdrop ▸ List.mem_cons_self)))
    rw [hsplit, hdrop, List.flatMap_cons, hbytes]
    rfl
  · obtain ⟨k, rfl⟩ : ∃ k, n = is.length + (k + 1) := ⟨n - is.length - 1, by omega⟩
    simpa [readItems] using readItems_append h (k + 1) []

/-- A beginning of the items' bytes fails (R25). -/
theorem readItems_cut : ∀ {is : List RawItem}, (∀ i ∈ is, i.fits = true) → ∀ {k : Nat},
    k < (is.flatMap RawItem.bytes).length → readItems is.length ((is.flatMap RawItem.bytes).take k) = none
  | [], _, k, hk => by simp at hk
  | i :: is, h, k, hk => by
    obtain ⟨tag, c, hbytes, hlen, hraw⟩ := rawItem_bytes (h i List.mem_cons_self)
    rw [List.flatMap_cons, hbytes, List.cons_append, List.length_cons, List.length_append] at hk
    rw [List.flatMap_cons, hbytes, List.cons_append, List.length_cons]
    cases k with
    | zero => rfl
    | succ k =>
      rw [List.take_succ_cons]
      by_cases hc : k < c.length
      · rw [List.take_append_of_le_length (by omega)]
        exact readItems_short hlen (by simp only [List.length_take]; omega)
      · obtain ⟨j, rfl⟩ : ∃ j, k = c.length + j := ⟨k - c.length, by omega⟩
        rw [List.take_length_add_append, readItems_known hlen,
          readItems_cut (fun x hx => h x (List.mem_cons_of_mem _ hx)) (by omega)]
        rfl

/-- An unknown tag takes the rest of the body (R178). -/
theorem readItems_unknown_after {is : List RawItem} (h : ∀ i ∈ is, i.fits = true) {n : Nat} (hn : is.length < n)
    {tag : Byte} (htag : tag = 0 ∨ 6 < tag.toNat) (rest : List Byte) :
    readItems n (is.flatMap RawItem.bytes ++ tag :: rest) = some (is ++ [.unknown]) := by
  obtain ⟨k, rfl⟩ : ∃ k, n = is.length + (k + 1) := ⟨n - is.length - 1, by omega⟩
  rw [readItems_append h, readItems_unknown htag]
  rfl

/-! ### The body -/

/-- A RECORD body of these fields (12.3.1). -/
def recordBody (source : Byte) (label : LabelAddr) (baseKind : Byte) (version target : Version) (count : Byte)
    (items : List Byte) : List Byte :=
  source :: (bytesOfBits 3 label ++ [baseKind] ++ bytesOfBits 2 version ++ bytesOfBits 2 target ++ [count] ++ items)

section
variable (source : Byte) (label : LabelAddr) (baseKind : Byte) (version target : Version) (count : Byte)
  (items : List Byte)

theorem recordBody_length : (recordBody source label baseKind version target count items).length = 10 + items.length := by
  simp [recordBody]
  omega

theorem recordBody_count : numAt (recordBody source label baseKind version target count items) 9 1 = count.toNat := by
  simp [recordBody, bytesOfBits, bytesOfNat, numAt, natOfBytes]

theorem recordBody_items : (recordBody source label baseKind version target count items).drop 10 = items := by
  simp [recordBody, bytesOfBits, bytesOfNat]

/-- The fixed fields, read back. -/
theorem recordHead_recordBody : recordHead (recordBody source label baseKind version target count items) =
    ⟨source.toNat, label, baseKind.toNat, if baseKind = 1 then .any else .version version, target⟩ := by
  let body := recordBody source label baseKind version target count items
  have e0 : numAt body 0 1 = source.toNat := by
    simp [body, recordBody, bytesOfBits, bytesOfNat, numAt, natOfBytes]
  have e4 : numAt body 4 1 = baseKind.toNat := by
    simp [body, recordBody, bytesOfBits, bytesOfNat, numAt, natOfBytes]
  have e1 : numAt body 1 3 = label.toNat := by
    rw [← natOfBytes_bytesOfBits label (n := 3) (by decide)]
    simp [body, recordBody, bytesOfBits, bytesOfNat, numAt]
  have e5 : numAt body 5 2 = version.toNat := by
    rw [← natOfBytes_bytesOfBits version (n := 2) (by decide)]
    simp [body, recordBody, bytesOfBits, bytesOfNat, numAt]
  have e7 : numAt body 7 2 = target.toNat := by
    rw [← natOfBytes_bytesOfBits target (n := 2) (by decide)]
    simp [body, recordBody, bytesOfBits, bytesOfNat, numAt]
  have hkind : baseKind.toNat = 1 ↔ baseKind = 1 := by
    rw [← BitVec.toNat_inj]
    rfl
  unfold recordHead
  change RecordHead.mk (numAt body 0 1) (BitVec.ofNat 24 (numAt body 1 3)) (numAt body 4 1)
    (if numAt body 4 1 = 1 then .any else .version (BitVec.ofNat 16 (numAt body 5 2)))
    (BitVec.ofNat 16 (numAt body 7 2)) = _
  rw [e0, e1, e4, e5, e7]
  simp only [BitVec.ofNat_toNat, BitVec.setWidth_eq, hkind]

/-- The items of a body, by check 1 (R25). -/
theorem bodyItems_recordBody (h : count ≠ 0) :
    bodyItems (recordBody source label baseKind version target count items) =
      (readItems count.toNat items).bind (fun is => if noRepeat is then some is else none) := by
  have hcount : ¬ count.toNat = 0 := fun hc => h (BitVec.eq_of_toNat_eq hc)
  unfold bodyItems
  rw [recordBody_count, recordBody_items, recordBody_length, if_neg (by omega)]
  cases readItems count.toNat items <;> rfl

theorem bodyItems_no_items : bodyItems (recordBody source label baseKind version target 0 items) = none := by
  unfold bodyItems
  rw [recordBody_count]
  exact if_pos (.inr rfl)
end

theorem bodyItems_short {body : List Byte} (h : body.length < 10) : bodyItems body = none := if_pos (.inl h)

end Sys2Proof.Machine
end


section
/-! The checks of a RECORD body (R25): the codes, the ranges and the items of an accepted record. -/

namespace Sys2Proof.Machine

/-! ### Codes (checks 2 and 3) -/

theorem unitCode_some {code : Nat} (h : 1 ≤ code ∧ code ≤ 6) : ∃ c : UnitCode, UnitCode.ofNat? code = some c ∧ c.toNat = code := by
  obtain rfl | rfl | rfl | rfl | rfl | rfl :
    code = 1 ∨ code = 2 ∨ code = 3 ∨ code = 4 ∨ code = 5 ∨ code = 6 := by omega
  all_goals exact ⟨_, rfl, rfl⟩

theorem unitCode_none {code : Nat} (h : ¬ (1 ≤ code ∧ code ≤ 6)) : UnitCode.ofNat? code = none := by
  unfold UnitCode.ofNat?
  split <;> first | rfl | omega

theorem badge_some {code : Nat} (h : code ≤ 5) : ∃ c : Badge, Badge.ofNat? code = some c ∧ c.toNat = code := by
  obtain rfl | rfl | rfl | rfl | rfl | rfl :
    code = 0 ∨ code = 1 ∨ code = 2 ∨ code = 3 ∨ code = 4 ∨ code = 5 := by omega
  all_goals exact ⟨_, rfl, rfl⟩

theorem badge_none {code : Nat} (h : ¬ code ≤ 5) : Badge.ofNat? code = none := by
  unfold Badge.ofNat?
  split <;> first | rfl | omega

theorem stockMark_some {code : Nat} (h : code ≤ 3) : ∃ c : StockMark, StockMark.ofNat? code = some c ∧ c.toNat = code := by
  obtain rfl | rfl | rfl | rfl : code = 0 ∨ code = 1 ∨ code = 2 ∨ code = 3 := by omega
  all_goals exact ⟨_, rfl, rfl⟩

theorem stockMark_none {code : Nat} (h : ¬ code ≤ 3) : StockMark.ofNat? code = none := by
  unfold StockMark.ofNat?
  split <;> first | rfl | omega

/-- The sets of the codes as the statements give them. -/
theorem codesGood_eq (i : RawItem) : i.codesGood = i.codesInSets := by
  cases i with
  | unit quantity basis code =>
    by_cases h : 1 ≤ code ∧ code ≤ 6
    · obtain ⟨c, hc, _⟩ := unitCode_some h
      simp [RawItem.codesGood, RawItem.codesInSets, hc, h]
    · simp only [RawItem.codesGood, RawItem.codesInSets, unitCode_none h, decide_eq_false h]
      rfl
  | badge code =>
    by_cases h : code ≤ 5
    · obtain ⟨c, hc, _⟩ := badge_some h
      simp [RawItem.codesGood, RawItem.codesInSets, hc, h]
    · simp only [RawItem.codesGood, RawItem.codesInSets, badge_none h, decide_eq_false h]
      rfl
  | stock code =>
    by_cases h : code ≤ 3
    · obtain ⟨c, hc, _⟩ := stockMark_some h
      simp [RawItem.codesGood, RawItem.codesInSets, hc, h]
    · simp only [RawItem.codesGood, RawItem.codesInSets, stockMark_none h, decide_eq_false h]
      rfl
  | price | ends | locate | unknown => rfl

theorem not_isUnknown_of_fits {i : RawItem} (h : i.fits = true) : i.isUnknown = false := by
  cases i <;> first | rfl | cases h

/-! ### Ranges (check 7) -/

theorem moneyGood_iff {x : Nat} : moneyGood x = true ↔ 1 ≤ x ∧ x ≤ 9999999 := by simp [moneyGood]

theorem endingGood_iff {modulus ending : Nat} : endingGood modulus ending = true ↔
    (modulus = 0 ∧ ending = 0) ∨ ((modulus = 10 ∨ modulus = 100 ∨ modulus = 1000) ∧ ending < modulus) := by
  unfold endingGood
  by_cases h : modulus = 0
  · simp [h]
  · simp [h]

/-- The markdown value lies in its range. -/
def markdownGood (kind value : Nat) : Prop :=
  (kind = 1 → value ≤ 1000) ∧ (kind = 2 → value ≤ 9999999) ∧ (kind = 3 → 1 ≤ value ∧ value ≤ 9999999)

theorem markdownFault_none {kind value : Nat} (h : markdownGood kind value) : markdownFault kind value = none := by
  obtain ⟨h1, h2, h3⟩ := h
  unfold markdownFault
  split
  · exact if_pos (h1 rfl)
  · exact if_pos (h2 rfl)
  · exact if_pos (moneyGood_iff.mpr (h3 rfl))
  · rfl

theorem markdownFault_some {kind value : Nat} (h : ¬ markdownGood kind value) :
    markdownFault kind value = some (if kind = 1 then .d118 else .d112) := by
  unfold markdownFault
  split
  · exact if_neg fun hv => h ⟨fun _ => hv, by simp, by simp⟩
  · exact if_neg fun hv => h ⟨by simp, fun _ => hv, by simp⟩
  · exact if_neg fun hv => h ⟨by simp, by simp, fun _ => moneyGood_iff.mp hv⟩
  next h1 h2 h3 => exact absurd ⟨fun hk => absurd hk h1, fun hk => absurd hk h2, fun hk => absurd hk h3⟩ h

section
variable {ticket kind value modulus ending floor : Nat}

theorem rangeFault_ticket (h : ¬ (1 ≤ ticket ∧ ticket ≤ 9999999)) :
    (RawItem.price ticket kind value modulus ending floor).rangeFault = some .d112 := by
  have hm : moneyGood ticket = false := by simpa using mt moneyGood_iff.mp h
  exact if_pos (by simp [hm])

variable (ht : 1 ≤ ticket ∧ ticket ≤ 9999999)
include ht

theorem rangeFault_price : (RawItem.price ticket kind value modulus ending floor).rangeFault =
    match markdownFault kind value with
    | some d => some d
    | none => if !endingGood modulus ending then some .d114 else if ticket < floor then some .d113 else none :=
  if_neg (by simp [moneyGood_iff.mpr ht])

theorem rangeFault_markdown (h : ¬ markdownGood kind value) :
    (RawItem.price ticket kind value modulus ending floor).rangeFault = some (if kind = 1 then .d118 else .d112) := by
  rw [rangeFault_price ht, markdownFault_some h]

theorem rangeFault_ending (hm : markdownGood kind value)
    (h : ¬ ((modulus = 0 ∧ ending = 0) ∨ ((modulus = 10 ∨ modulus = 100 ∨ modulus = 1000) ∧ ending < modulus))) :
    (RawItem.price ticket kind value modulus ending floor).rangeFault = some .d114 := by
  have he : endingGood modulus ending = false := by simpa using mt endingGood_iff.mp h
  rw [rangeFault_price ht, markdownFault_none hm]
  exact if_pos (by simp [he])

theorem rangeFault_floor (hm : markdownGood kind value)
    (he : (modulus = 0 ∧ ending = 0) ∨ ((modulus = 10 ∨ modulus = 100 ∨ modulus = 1000) ∧ ending < modulus))
    (h : ticket < floor) : (RawItem.price ticket kind value modulus ending floor).rangeFault = some .d113 := by
  rw [rangeFault_price ht, markdownFault_none hm]
  exact (if_neg (by simp [endingGood_iff.mpr he])).trans (if_pos h)
end

/-- An item whose values lie in their ranges, and no other, passes check 7. -/
theorem rangeFault_none_iff (i : RawItem) : i.rangeFault = none ↔ i.valuesGood = true := by
  cases i with
  | price ticket kind value modulus ending floor =>
    rw [RawItem.valuesGood, decide_eq_true_iff]
    by_cases ht : 1 ≤ ticket ∧ ticket ≤ 9999999
    · by_cases hm : markdownGood kind value
      · by_cases he : (modulus = 0 ∧ ending = 0) ∨ ((modulus = 10 ∨ modulus = 100 ∨ modulus = 1000) ∧ ending < modulus)
        · obtain ⟨m1, m2, m3⟩ := hm
          by_cases hf : ticket < floor
          · rw [rangeFault_floor ht ⟨m1, m2, m3⟩ he hf]
            exact ⟨fun h => (by cases h), fun h => by omega⟩
          · rw [rangeFault_price ht, markdownFault_none ⟨m1, m2, m3⟩]
            dsimp only
            rw [if_neg (by simp [endingGood_iff.mpr he]), if_neg hf]
            exact ⟨fun _ => ⟨ht.1, ht.2, m1, m2, m3, he, by omega⟩, fun _ => rfl⟩
        · rw [rangeFault_ending ht hm he]
          exact ⟨fun h => (by cases h), fun h => absurd h.2.2.2.2.2.1 he⟩
      · rw [rangeFault_markdown ht hm]
        exact ⟨fun h => (by cases h), fun h => absurd ⟨h.2.2.1, h.2.2.2.1, h.2.2.2.2.1⟩ hm⟩
    · rw [rangeFault_ticket ht]
      exact ⟨fun h => (by cases h), fun h => absurd ⟨h.1, h.2.1⟩ ht⟩
  | unit quantity basis code =>
    simp only [RawItem.rangeFault, RawItem.valuesGood, decide_eq_true_iff, ite_eq_left_iff, reduceCtorEq, imp_false,
      Classical.not_not]
  | locate minutes =>
    simp only [RawItem.rangeFault, RawItem.valuesGood, decide_eq_true_iff, ite_eq_left_iff, reduceCtorEq, imp_false,
      Classical.not_not]
  | badge | stock | ends | unknown => simp [RawItem.rangeFault, RawItem.valuesGood]

/-- Every item but PRICE has one fault. -/
theorem rangeFault_other {i : RawItem} (h : i.tag ≠ some 1) {d : Detail} (hd : i.rangeFault = some d) : d = .d117 := by
  cases i with
  | price => simp [RawItem.tag] at h
  | unit quantity basis code =>
    simp only [RawItem.rangeFault] at hd
    split at hd
    · cases hd
    · exact (Option.some.inj hd).symm
  | locate minutes =>
    simp only [RawItem.rangeFault] at hd
    split at hd
    · cases hd
    · exact (Option.some.inj hd).symm
  | badge | stock | ends | unknown => cases hd

/-- With no kind repeated an item is the one found for its kind. -/
theorem find?_tag : ∀ {is : List RawItem}, (is.filterMap RawItem.tag).Nodup → ∀ {i : RawItem} {t : Nat}, i ∈ is →
    i.tag = some t → is.find? (fun x => x.tag == some t) = some i
  | [], _, _, _, hi, _ => absurd hi List.not_mem_nil
  | x :: xs, hnd, i, t, hi, ht => by
    by_cases hx : x.tag = some t
    · rw [List.find?_cons_of_pos (by simp [hx])]
      rcases List.mem_cons.mp hi with rfl | hi
      · rfl
      · rw [List.filterMap_cons, hx] at hnd
        exact absurd (List.mem_filterMap.mpr ⟨i, hi, ht⟩) (List.nodup_cons.mp hnd).1
    · rw [List.find?_cons_of_neg (by simpa using hx)]
      rcases List.mem_cons.mp hi with rfl | hi
      · exact absurd ht hx
      · refine find?_tag ?_ hi ht
        rw [List.filterMap_cons] at hnd
        cases htag : x.tag with
        | none => rwa [htag] at hnd
        | some u =>
          rw [htag] at hnd
          exact (List.nodup_cons.mp hnd).2

theorem tag_mem {i : RawItem} {t : Nat} (h : i.tag = some t) : t ∈ [1, 2, 3, 4, 5, 6] := by
  cases i <;> simp [RawItem.tag] at h <;> subst h <;> simp

theorem tag_of_rangeFault {i : RawItem} {d : Detail} (h : i.rangeFault = some d) : ∃ t, i.tag = some t := by
  cases i <;> first | exact ⟨_, rfl⟩ | cases h

section
variable {is : List RawItem} (hnd : (is.filterMap RawItem.tag).Nodup)

theorem rangeFaultOf_none (h : ∀ i ∈ is, i.rangeFault = none) : rangeFaultOf is = none := by
  refine List.findSome?_eq_none_iff.mpr fun t _ => ?_
  cases hf : is.find? (fun i => i.tag == some t) with
  | none => rfl
  | some i => exact h i (List.mem_of_find?_eq_some hf)

/-- Where check 7 names a fault, it is that of an item. -/
theorem rangeFaultOf_some {d : Detail} (h : rangeFaultOf is = some d) : ∃ i ∈ is, i.rangeFault = some d := by
  obtain ⟨t, _, ht⟩ := List.exists_of_findSome?_eq_some h
  obtain ⟨i, hi, hd⟩ := Option.bind_eq_some_iff.mp ht
  exact ⟨i, List.mem_of_find?_eq_some hi, hd⟩

include hnd

theorem rangeFaultOf_ne_none {i : RawItem} (hi : i ∈ is) {d : Detail} (hd : i.rangeFault = some d) :
    rangeFaultOf is ≠ none := by
  obtain ⟨t, ht⟩ := tag_of_rangeFault hd
  intro hnone
  have := List.findSome?_eq_none_iff.mp hnone t (tag_mem ht)
  rw [find?_tag hnd hi ht, Option.bind_some, hd] at this
  cases this

/-- A PRICE fault comes first. -/
theorem rangeFaultOf_price {i : RawItem} (hi : i ∈ is) (ht : i.tag = some 1) {d : Detail} (hd : i.rangeFault = some d) :
    rangeFaultOf is = some d := by
  unfold rangeFaultOf
  rw [List.findSome?_cons, find?_tag hnd hi ht, Option.bind_some, hd]

/-- With a good PRICE any other fault is 117. -/
theorem rangeFaultOf_other (hp : ∀ i ∈ is, i.tag = some 1 → i.rangeFault = none) {i : RawItem} (hi : i ∈ is)
    {d : Detail} (hd : i.rangeFault = some d) : rangeFaultOf is = some .d117 := by
  obtain ⟨d', hd'⟩ := Option.ne_none_iff_exists'.mp (rangeFaultOf_ne_none hnd hi hd)
  obtain ⟨x, hx, hxd⟩ := rangeFaultOf_some hd'
  have : d' = .d117 := rangeFault_other (fun ht => by
    have := hp x hx ht
    rw [hxd] at this
    cases this) hxd
  rw [hd', this]
end

/-! ### The items of a record -/

/-- A field that items of a kind set, and no other item. -/
structure FieldOf {α : Type} (φ : Items → α) (t : Nat) : Prop where
  other : ∀ items i, i.tag ≠ some t → φ (addItem items i) = φ items
  same : ∀ items items' i, i.tag = some t → φ (addItem items i) = φ (addItem items' i)

section
variable {α : Type} {φ : Items → α} {t : Nat} (hφ : FieldOf φ t)
include hφ

theorem FieldOf.absent : ∀ {is : List RawItem}, (∀ i ∈ is, i.tag ≠ some t) → ∀ items : Items,
    φ (is.foldl addItem items) = φ items
  | [], _, _ => rfl
  | i :: is, h, items => by
    rw [List.foldl_cons, FieldOf.absent fun x hx => h x (List.mem_cons_of_mem _ hx), hφ.other _ _ (h i List.mem_cons_self)]

/-- With no kind repeated the field is what the kind's item makes of it. -/
theorem FieldOf.present : ∀ {is : List RawItem}, (is.filterMap RawItem.tag).Nodup → ∀ {i : RawItem}, i ∈ is →
    i.tag = some t → ∀ items items' : Items, φ (is.foldl addItem items) = φ (addItem items' i)
  | [], _, _, hi, _, _, _ => absurd hi List.not_mem_nil
  | x :: xs, hnd, i, hi, ht, items, items' => by
    rw [List.foldl_cons]
    rw [List.filterMap_cons] at hnd
    rcases List.mem_cons.mp hi with rfl | hi
    · rw [ht] at hnd
      have hno : ∀ y ∈ xs, y.tag ≠ some t := fun y hy hyt =>
        (List.nodup_cons.mp hnd).1 (List.mem_filterMap.mpr ⟨y, hy, hyt⟩)
      rw [hφ.absent hno, hφ.same _ _ _ ht]
    · have hnd' : (xs.filterMap RawItem.tag).Nodup := by
        cases htag : x.tag with
        | none => rwa [htag] at hnd
        | some u =>
          rw [htag] at hnd
          exact (List.nodup_cons.mp hnd).2
      exact FieldOf.present hnd' hi ht _ _

/-- Without the kind's item the field is as it was. -/
theorem FieldOf.item_of_ne {is : List RawItem} {items : Items} (h : φ (is.foldl addItem items) ≠ φ items) :
    ∃ i ∈ is, i.tag = some t := by
  refine Classical.byContradiction fun hno => ?_
  simp only [not_exists, not_and] at hno
  exact h (hφ.absent hno items)
end

theorem fieldOf_price : FieldOf Items.price 1 :=
  ⟨fun _ i h => by cases i <;> first | rfl | exact absurd rfl h, fun _ _ i h => by cases i <;> first | rfl | cases h⟩

theorem fieldOf_unit : FieldOf Items.unit 2 :=
  ⟨fun _ i h => by cases i <;> first | rfl | exact absurd rfl h, fun _ _ i h => by cases i <;> first | rfl | cases h⟩

theorem fieldOf_badge : FieldOf Items.badge 3 :=
  ⟨fun _ i h => by cases i <;> first | rfl | exact absurd rfl h, fun _ _ i h => by cases i <;> first | rfl | cases h⟩

theorem fieldOf_stock : FieldOf Items.stock 4 :=
  ⟨fun _ i h => by cases i <;> first | rfl | exact absurd rfl h, fun _ _ i h => by cases i <;> first | rfl | cases h⟩

theorem fieldOf_ends : FieldOf Items.ends 5 :=
  ⟨fun _ i h => by cases i <;> first | rfl | exact absurd rfl h, fun _ _ i h => by cases i <;> first | rfl | cases h⟩

theorem fieldOf_locate : FieldOf Items.locate 6 :=
  ⟨fun _ i h => by cases i <;> first | rfl | exact absurd rfl h, fun _ _ i h => by cases i <;> first | rfl | cases h⟩

end Sys2Proof.Machine
end


section
/-! RECORD: the checks of a body in their order, and what an accepted record is. -/

namespace Sys2Proof.Machine

/-! ### The checks in order (R25) -/

theorem checkRecord_of_none {body : List Byte} (h : bodyItems body = none) (masks : Vector ItemSet 8) :
    checkRecord masks body = .refused .d101 := by
  unfold checkRecord
  rw [h]

theorem checkRecord_unknown {body : List Byte} {is : List RawItem} (h : bodyItems body = some is)
    (hu : is.any RawItem.isUnknown = true) (masks : Vector ItemSet 8) : checkRecord masks body = .refused .d102 := by
  unfold checkRecord
  rw [h]
  exact if_pos hu

section
variable {masks : Vector ItemSet 8} {body : List Byte} {is : List RawItem} (h : bodyItems body = some is)
  (hu : is.any RawItem.isUnknown = false)
include h hu

theorem checkRecord_codes (hc : 8 ≤ (recordHead body).source ∨ 1 < (recordHead body).baseKind ∨
    ∃ i ∈ is, i.codesInSets = false) : checkRecord masks body = .refused .d103 := by
  unfold checkRecord
  rw [h]
  dsimp only
  rw [if_neg (by simp [hu])]
  split
  next hs =>
    refine if_pos ?_
    rcases hc with hc | hc | ⟨i, hi, hc⟩
    · omega
    · simp [Nat.not_le.mpr hc]
    · have : is.all RawItem.codesGood = false := List.all_eq_false.mpr ⟨i, hi, by simp [codesGood_eq, hc]⟩
      simp [this]
  next => rfl

variable {hd : RecordHead} (hh : recordHead body = hd) (hs : hd.source < 8) (hb : hd.baseKind ≤ 1)
  (hc : ∀ i ∈ is, i.codesInSets = true)
include hh hs hb hc

/-- The checks after the codes. -/
theorem checkRecord_coded : checkRecord masks body =
    if !validLabel hd.label then .refused .d111
    else if !targetGood hd.base hd.target then .refused .d115
    else if (is.filter (RawItem.inMask masks[hd.source])).isEmpty then .refused .d116
    else
      ((rangeFaultOf (is.filter (RawItem.inMask masks[hd.source]))).map RecordCheck.refused).getD (.accepted
        { source := ⟨hd.source, hs⟩, label := hd.label, base := hd.base, target := hd.target
          items := (is.filter (RawItem.inMask masks[hd.source])).foldl addItem {}
          masked := decide ((is.filter (RawItem.inMask masks[hd.source])).length < is.length) }) := by
  have hall : is.all RawItem.codesGood = true := List.all_eq_true.mpr fun i hi => by rw [codesGood_eq, hc i hi]
  subst hh
  unfold checkRecord
  rw [h]
  dsimp only
  rw [if_neg (by simp [hu]), dif_pos hs, if_neg (by simp [hall, hb])]
  cases rangeFaultOf (is.filter (RawItem.inMask masks[(recordHead body).source])) <;> rfl
end

/-! ### An accepted record -/

/-- What an accepted body has passed (R25). -/
theorem checkRecord_accepted {masks : Vector ItemSet 8} {body : List Byte} {r : GatheredRecord}
    (h : checkRecord masks body = .accepted r) :
    ∃ is kept, bodyItems body = some is ∧ kept = is.filter (RawItem.inMask masks[r.source]) ∧ kept ≠ [] ∧
      validLabel r.label = true ∧ targetGood r.base r.target = true ∧ (∀ i ∈ is, i.isUnknown = false) ∧
      (∀ i ∈ is, i.codesInSets = true) ∧ rangeFaultOf kept = none ∧ r.items = kept.foldl addItem {} := by
  cases hi : bodyItems body with
  | none =>
    rw [checkRecord_of_none hi] at h
    cases h
  | some is =>
    cases hu : is.any RawItem.isUnknown with
    | true =>
      rw [checkRecord_unknown hi hu] at h
      cases h
    | false =>
      by_cases hc : 8 ≤ (recordHead body).source ∨ 1 < (recordHead body).baseKind ∨ ∃ i ∈ is, i.codesInSets = false
      · rw [checkRecord_codes hi hu hc] at h
        cases h
      · simp only [not_or, not_exists, not_and, Bool.not_eq_false] at hc
        obtain ⟨hs, hb, hc⟩ := hc
        rw [checkRecord_coded hi hu rfl (by omega) (by omega) hc] at h
        split at h
        · cases h
        next hl =>
          split at h
          · cases h
          next ht =>
            split at h
            · cases h
            next hk =>
              cases hr : rangeFaultOf (is.filter (RawItem.inMask masks[(recordHead body).source])) with
              | some d =>
                rw [hr] at h
                cases h
              | none =>
                rw [hr] at h
                cases h
                exact ⟨is, _, rfl, rfl, by simpa using hk, by simpa using hl, by simpa using ht,
                  by simpa using hu, hc, hr, rfl⟩

theorem bodyItems_nodup {body : List Byte} {is : List RawItem} (h : bodyItems body = some is) :
    (is.filterMap RawItem.tag).Nodup := by
  unfold bodyItems at h
  split at h
  · cases h
  · split at h
    · split at h
      next hr =>
        cases h
        exact of_decide_eq_true hr
      next => cases h
    · cases h

theorem filter_nodup {is : List RawItem} (h : (is.filterMap RawItem.tag).Nodup) (p : RawItem → Bool) :
    ((is.filter p).filterMap RawItem.tag).Nodup := by
  exact List.Nodup.sublist (List.Sublist.filterMap _ List.filter_sublist) h

theorem inMask_of_tag {i : RawItem} (m : ItemSet) :
    (i.tag = some 1 → i.inMask m = m.price) ∧ (i.tag = some 2 → i.inMask m = m.unit) ∧
    (i.tag = some 3 → i.inMask m = m.badge) ∧ (i.tag = some 4 → i.inMask m = m.stock) ∧
    (i.tag = some 5 → i.inMask m = m.ends) ∧ (i.tag = some 6 → i.inMask m = m.locate) := by
  cases i <;> simp [RawItem.tag, RawItem.inMask]

/-- An item with its code in its set sets the field of its kind. -/
theorem addItem_ne {i : RawItem} (hu : i.isUnknown = false) (hc : i.codesInSets = true) : addItem {} i ≠ {} := by
  cases i with
  | unit quantity basis code =>
    obtain ⟨c, hc, _⟩ := unitCode_some (of_decide_eq_true hc)
    simp [addItem, hc]
  | badge code =>
    obtain ⟨c, hc, _⟩ := badge_some (of_decide_eq_true hc)
    simp [addItem, hc]
  | stock code =>
    obtain ⟨c, hc, _⟩ := stockMark_some (of_decide_eq_true hc)
    simp [addItem, hc]
  | unknown => cases hu
  | price | ends | locate => simp [addItem]

theorem markdownOf_range {kind value : Nat} (h : markdownGood kind value) :
    (∀ k, markdownOf kind value = .percent k → k ≤ 1000) ∧ (∀ k, markdownOf kind value = .amount k → k ≤ 9999999) ∧
      (∀ k, markdownOf kind value = .set k → 1 ≤ k ∧ k ≤ 9999999) := by
  obtain ⟨h1, h2, h3⟩ := h
  unfold markdownOf
  split
  · exact ⟨fun k hk => Markdown.percent.inj hk ▸ h1 rfl, nofun, nofun⟩
  · exact ⟨nofun, fun k hk => Markdown.amount.inj hk ▸ h2 rfl, nofun⟩
  · exact ⟨nofun, nofun, fun k hk => Markdown.set.inj hk ▸ h3 rfl⟩
  · exact ⟨nofun, nofun, nofun⟩

theorem markdownOf_eq (kind value : Nat) : markdownOf kind value =
    if kind = 1 then .percent value else if kind = 2 then .amount value else if kind = 3 then .set value
    else .none := by
  unfold markdownOf
  split
  · rfl
  · rfl
  · rfl
  next h1 h2 h3 => rw [if_neg h1, if_neg h2, if_neg h3]

theorem items_ext {a b : Items} (h1 : a.price = b.price) (h2 : a.unit = b.unit) (h3 : a.badge = b.badge)
    (h4 : a.stock = b.stock) (h5 : a.ends = b.ends) (h6 : a.locate = b.locate) : a = b := by
  cases a
  cases b
  simp_all

/-- An accepted record is what R23 and R25 allow. -/
theorem accepted_record_allowed {masks : Vector ItemSet 8} {body : List Byte} {r : GatheredRecord}
    (h : checkRecord masks body = .accepted r) :
    1 ≤ r.label.toNat ∧ r.label.toNat ≤ 16777214 ∧
    (∀ b, r.base = .version b → newer r.target b = true) ∧
    r.items ≠ {} ∧
    (r.items.price.isSome = true → masks[r.source].price = true) ∧
    (r.items.unit.isSome = true → masks[r.source].unit = true) ∧
    (r.items.badge.isSome = true → masks[r.source].badge = true) ∧
    (r.items.stock.isSome = true → masks[r.source].stock = true) ∧
    (r.items.ends.isSome = true → masks[r.source].ends = true) ∧
    (r.items.locate.isSome = true → masks[r.source].locate = true) ∧
    (∀ p, r.items.price = some p →
      1 ≤ p.ticket ∧ p.ticket ≤ 9999999 ∧ p.floor ≤ p.ticket ∧
      (∀ e, p.ending = some e → (e.modulus = 10 ∨ e.modulus = 100 ∨ e.modulus = 1000) ∧ e.value < e.modulus) ∧
      (∀ k, p.markdown = .percent k → k ≤ 1000) ∧ (∀ k, p.markdown = .amount k → k ≤ 9999999) ∧
      (∀ k, p.markdown = .set k → 1 ≤ k ∧ k ≤ 9999999)) ∧
    (∀ u, r.items.unit = some u →
      1 ≤ u.quantity ∧ u.quantity ≤ 999999 ∧ 1 ≤ u.basis ∧ u.basis ≤ 100000) ∧
    (∀ m, r.items.locate = some m → m ≤ 240) := by
  obtain ⟨is, kept, hbody, hkept, hne, hl, ht, hu, hc, hr, hitems⟩ := checkRecord_accepted h
  have hnd : (kept.filterMap RawItem.tag).Nodup := hkept ▸ filter_nodup (bodyItems_nodup hbody) _
  have hmem : ∀ i ∈ kept, i ∈ is ∧ i.inMask masks[r.source] = true := fun i hi => List.mem_filter.mp (hkept ▸ hi)
  have hgood : ∀ i ∈ kept, i.valuesGood = true := fun i hi => by
    rw [← rangeFault_none_iff]
    cases hf : i.rangeFault with
    | none => rfl
    | some d => exact absurd hr (rangeFaultOf_ne_none hnd hi hf)
  have hitem : ∀ {α : Type} {φ : Items → Option α} {t : Nat}, FieldOf φ t → φ {} = none → ∀ {x}, φ r.items = some x →
      ∃ i ∈ kept, i.tag = some t ∧ φ (addItem {} i) = some x := by
    intro α φ t hφ h0 x hx
    obtain ⟨i, hi, hit⟩ := hφ.item_of_ne (is := kept) (items := {}) (by rw [← hitems, hx, h0]; simp)
    exact ⟨i, hi, hit, by rw [← hφ.present hnd hi hit {} {}, ← hitems, hx]⟩
  have hmask : ∀ {α : Type} {φ : Items → Option α} {t : Nat}, FieldOf φ t → φ {} = none → (φ r.items).isSome = true →
      ∃ i ∈ kept, i.tag = some t ∧ i.inMask masks[r.source] = true := by
    intro α φ t hφ h0 hx
    obtain ⟨x, hx⟩ := Option.isSome_iff_exists.mp hx
    obtain ⟨i, hi, hit, _⟩ := hitem hφ h0 hx
    exact ⟨i, hi, hit, (hmem i hi).2⟩
  have hlabel := validLabel_iff.mp hl
  simp only [LabelAddr.wf, Bool.and_eq_true, decide_eq_true_iff] at hlabel
  refine ⟨hlabel.1, hlabel.2, fun b hb => ?_, fun hempty => ?_, fun hx => ?_, fun hx => ?_, fun hx => ?_, fun hx => ?_,
    fun hx => ?_, fun hx => ?_, fun p hp => ?_, fun u hx => ?_, fun m hm => ?_⟩
  · rw [hb] at ht
    exact ht
  · obtain ⟨i, hi⟩ := List.exists_mem_of_ne_nil _ hne
    obtain ⟨hii, _⟩ := hmem i hi
    rw [hitems] at hempty
    have hfield : ∀ {α : Type} {φ : Items → α} {t : Nat}, FieldOf φ t → φ (addItem {} i) = φ {} := by
      intro α φ t hφ
      by_cases hit : i.tag = some t
      · rw [← hφ.present hnd hi hit {} {}, hempty]
      · exact hφ.other _ _ hit
    exact addItem_ne (hu i hii) (hc i hii) (items_ext (hfield fieldOf_price) (hfield fieldOf_unit)
      (hfield fieldOf_badge) (hfield fieldOf_stock) (hfield fieldOf_ends) (hfield fieldOf_locate))
  · obtain ⟨i, _, hit, hi⟩ := hmask fieldOf_price rfl hx
    rwa [(inMask_of_tag _).1 hit] at hi
  · obtain ⟨i, _, hit, hi⟩ := hmask fieldOf_unit rfl hx
    rwa [(inMask_of_tag _).2.1 hit] at hi
  · obtain ⟨i, _, hit, hi⟩ := hmask fieldOf_badge rfl hx
    rwa [(inMask_of_tag _).2.2.1 hit] at hi
  · obtain ⟨i, _, hit, hi⟩ := hmask fieldOf_stock rfl hx
    rwa [(inMask_of_tag _).2.2.2.1 hit] at hi
  · obtain ⟨i, _, hit, hi⟩ := hmask fieldOf_ends rfl hx
    rwa [(inMask_of_tag _).2.2.2.2.1 hit] at hi
  · obtain ⟨i, _, hit, hi⟩ := hmask fieldOf_locate rfl hx
    rwa [(inMask_of_tag _).2.2.2.2.2 hit] at hi
  · obtain ⟨i, hi, hit, hx⟩ := hitem fieldOf_price rfl hp
    cases i with
    | price ticket kind value modulus ending floor =>
      obtain ⟨h1, h2, m1, m2, m3, he, hf⟩ := of_decide_eq_true (hgood _ hi)
      obtain ⟨k1, k2, k3⟩ := markdownOf_range ⟨m1, m2, m3⟩
      cases hx
      refine ⟨h1, h2, hf, fun e hee => ?_, k1, k2, k3⟩
      dsimp only at hee
      split at hee
      · cases hee
      · cases hee
        rcases he with he | he
        · exact absurd he.1 ‹_›
        · exact he
    | unit | badge | stock | ends | locate | unknown => cases hit
  · obtain ⟨i, hi, hit, hux⟩ := hitem fieldOf_unit rfl hx
    cases i with
    | unit quantity basis code =>
      have hv := of_decide_eq_true (hgood _ hi)
      obtain ⟨c, _, rfl⟩ := Option.map_eq_some_iff.mp hux
      exact hv
    | price | badge | stock | ends | locate | unknown => cases hit
  · obtain ⟨i, hi, hit, hmx⟩ := hitem fieldOf_locate rfl hm
    cases i with
    | locate minutes =>
      cases hmx
      exact of_decide_eq_true (hgood _ hi)
    | price | unit | badge | stock | ends | unknown => cases hit

/-! ### A body of the layout of 12.3.1 -/

section
variable {masks : Vector ItemSet 8} {source : Byte} {label : LabelAddr} {baseKind : Byte} {version target : Version}
  {is : List RawItem} (hlen : is.length < 256) (hfits : ∀ i ∈ is, i.fits = true)

include hfits in
theorem no_unknown : is.any RawItem.isUnknown = false := by
  rw [List.any_eq_false]
  exact fun i hi => by simp [not_isUnknown_of_fits (hfits i hi)]

/-- A count of items that do not come out of the bytes is refused. -/
theorem checkRecord_unread {count : Byte} {items : List Byte} (h : readItems count.toNat items = none) :
    checkRecord masks (recordBody source label baseKind version target count items) = .refused .d101 := by
  refine checkRecord_of_none ?_ masks
  by_cases hc : count = 0
  · rw [hc]
    exact bodyItems_no_items ..
  · rw [bodyItems_recordBody _ _ _ _ _ _ _ hc, h]
    rfl

/-- A body that repeats a kind is refused (R23). -/
theorem checkRecord_repeats {count : Byte} {items : List Byte} {xs : List RawItem} (hc : count ≠ 0)
    (h : readItems count.toNat items = some xs) (hr : noRepeat xs = false) :
    checkRecord masks (recordBody source label baseKind version target count items) = .refused .d101 := by
  refine checkRecord_of_none ?_ masks
  rw [bodyItems_recordBody _ _ _ _ _ _ _ hc, h, Option.bind_some, hr]
  rfl

theorem noRepeat_unknown (xs : List RawItem) : noRepeat (xs ++ [.unknown]) = noRepeat xs := by
  unfold noRepeat
  rw [List.filterMap_append, show [RawItem.unknown].filterMap RawItem.tag = [] from rfl, List.append_nil]

include hlen in
theorem count_toNat : (BitVec.ofNat 8 is.length : Byte).toNat = is.length := by
  rw [BitVec.toNat_ofNat, Nat.mod_eq_of_lt (by omega)]

include hlen hfits

/-- A body of fitting items without a repeated kind is read as those items. -/
theorem bodyItems_fits (hne : is ≠ []) (hnd : (is.filterMap RawItem.tag).Nodup) :
    bodyItems (recordBody source label baseKind version target (BitVec.ofNat 8 is.length)
      (is.flatMap RawItem.bytes)) = some is := by
  have hcount := count_toNat hlen
  have hc : (BitVec.ofNat 8 is.length : Byte) ≠ 0 := by
    intro h0
    rw [h0] at hcount
    exact hne (List.length_eq_zero_iff.mp hcount.symm)
  rw [bodyItems_recordBody _ _ _ _ _ _ _ hc, hcount, readItems_whole hfits, Option.bind_some]
  exact if_pos (decide_eq_true hnd)
end

end Sys2Proof.Machine
end


section
/-! RECORD: the obligation about its checks. -/

namespace Sys2Proof.Machine

section
variable {masks : Vector ItemSet 8} {source : Byte} {label : LabelAddr} {baseKind : Byte} {version target : Version}
  {is : List RawItem}

/-- The base of a body's fields. -/
def bodyBase (baseKind : Byte) (version : Version) : Base := if baseKind = 1 then .any else .version version

/-- The whole of a body that passes checks 1 to 3: the checks that follow, in order. -/
theorem checkRecord_body (hlen : is.length < 256) (hfits : ∀ i ∈ is, i.fits = true) (hne : is ≠ [])
    (hnd : (is.filterMap RawItem.tag).Nodup) (hs : source.toNat < 8) (hb : baseKind.toNat ≤ 1)
    (hc : ∀ i ∈ is, i.codesInSets = true) :
    checkRecord masks (recordBody source label baseKind version target (BitVec.ofNat 8 is.length)
      (is.flatMap RawItem.bytes)) =
    if !validLabel label then .refused .d111
    else if !targetGood (bodyBase baseKind version) target then .refused .d115
    else if (is.filter (RawItem.inMask masks[source.toNat])).isEmpty then .refused .d116
    else
      ((rangeFaultOf (is.filter (RawItem.inMask masks[source.toNat]))).map RecordCheck.refused).getD (.accepted
        { source := ⟨source.toNat, hs⟩, label := label, base := bodyBase baseKind version, target := target
          items := (is.filter (RawItem.inMask masks[source.toNat])).foldl addItem {}
          masked := decide ((is.filter (RawItem.inMask masks[source.toNat])).length < is.length) }) :=
  checkRecord_coded (bodyItems_fits hlen hfits hne hnd) (no_unknown hfits) (recordHead_recordBody ..) hs hb hc

/-- A body with a code outside its set fails check 3. -/
theorem checkRecord_badCodes (hlen : is.length < 256) (hfits : ∀ i ∈ is, i.fits = true) (hne : is ≠ [])
    (hnd : (is.filterMap RawItem.tag).Nodup)
    (hbad : 8 ≤ source.toNat ∨ 1 < baseKind.toNat ∨ ∃ i ∈ is, i.codesInSets = false) :
    checkRecord masks (recordBody source label baseKind version target (BitVec.ofNat 8 is.length)
      (is.flatMap RawItem.bytes)) = .refused .d103 :=
  checkRecord_codes (bodyItems_fits hlen hfits hne hnd) (no_unknown hfits) (by rw [recordHead_recordBody]; exact hbad)

theorem targetGood_body : targetGood (bodyBase baseKind version) target = true ↔
    baseKind = 1 ∨ newer target version = true := by
  unfold bodyBase
  by_cases h : baseKind = 1
  · rw [if_pos h]
    exact ⟨fun _ => .inl h, fun _ => rfl⟩
  · rw [if_neg h]
    exact ⟨.inr, fun ht => ht.resolve_left h⟩

/-- The bodies that check 1 refuses, and those that check 2 does. -/
theorem recordBody_read (hlen : is.length < 256) (hfits : ∀ i ∈ is, i.fits = true) :
    let body := recordBody source label baseKind version target
    (is = [] → checkRecord masks (body (BitVec.ofNat 8 is.length) (is.flatMap RawItem.bytes)) = .refused .d101) ∧
    (∀ count : Byte, count.toNat ≠ is.length →
      checkRecord masks (body count (is.flatMap RawItem.bytes)) = .refused .d101) ∧
    (∀ (x : Byte) (xs : List Byte),
      checkRecord masks (body (BitVec.ofNat 8 is.length) (is.flatMap RawItem.bytes ++ x :: xs)) = .refused .d101) ∧
    (∀ k < (is.flatMap RawItem.bytes).length,
      checkRecord masks (body (BitVec.ofNat 8 is.length) ((is.flatMap RawItem.bytes).take k)) = .refused .d101) ∧
    (¬ (is.filterMap RawItem.tag).Nodup →
      checkRecord masks (body (BitVec.ofNat 8 is.length) (is.flatMap RawItem.bytes)) = .refused .d101 ∧
      (∀ (count tag : Byte) (rest : List Byte), is.length < count.toNat → tag = 0 ∨ 6 < tag.toNat →
        checkRecord masks (body count (is.flatMap RawItem.bytes ++ tag :: rest)) = .refused .d101)) ∧
    ((is.filterMap RawItem.tag).Nodup → ∀ (count tag : Byte) (rest : List Byte), is.length < count.toNat →
      tag = 0 ∨ 6 < tag.toNat →
      checkRecord masks (body count (is.flatMap RawItem.bytes ++ tag :: rest)) = .refused .d102) := by
  intro body
  have hcount := count_toNat hlen
  have hpos : ∀ {c : Byte}, is.length < c.toNat → c ≠ 0 := by
    rintro c h rfl
    simp at h
  refine ⟨fun hnil => ?_, fun count hc => checkRecord_unread (readItems_miscounted hfits hc),
    fun x xs => checkRecord_unread ?_, fun k hk => checkRecord_unread ?_, fun hrep => ⟨?_, fun count tag rest hc ht => ?_⟩,
    fun hnd count tag rest hc ht => ?_⟩
  · rw [hnil]
    exact checkRecord_of_none (bodyItems_no_items ..) masks
  · rw [hcount]
    exact readItems_longer hfits x xs
  · rw [hcount]
    exact readItems_cut hfits hk
  · refine checkRecord_repeats ?_ (by rw [hcount]; exact readItems_whole hfits) (decide_eq_false hrep)
    intro h0
    rw [h0] at hcount
    rw [List.length_eq_zero_iff.mp hcount.symm] at hrep
    exact hrep List.nodup_nil
  · refine checkRecord_repeats (hpos hc) (readItems_unknown_after hfits hc ht rest) ?_
    rw [noRepeat_unknown]
    exact decide_eq_false hrep
  · have hread := readItems_unknown_after hfits hc ht rest
    have hok : noRepeat (is ++ [.unknown]) = true := by
      rw [noRepeat_unknown]
      exact decide_eq_true hnd
    refine checkRecord_unknown (is := is ++ [.unknown]) ?_ (by simp [RawItem.isUnknown]) masks
    rw [bodyItems_recordBody _ _ _ _ _ _ _ (hpos hc), hread, Option.bind_some, hok]
    rfl
end

section
variable {kept : List RawItem} (hnd : (kept.filterMap RawItem.tag).Nodup) (hc : ∀ i ∈ kept, i.codesInSets = true)include hnd

/-- The faults of a PRICE item, in their order (R25, check 7). -/
theorem rangeFaultOf_price_cases {ticket kind value modulus ending floor : Nat}
    (hi : .price ticket kind value modulus ending floor ∈ kept) :
    (ticket = 0 ∨ 9999999 < ticket → rangeFaultOf kept = some .d112) ∧
    (1 ≤ ticket → ticket ≤ 9999999 →
      (¬ markdownGood kind value → rangeFaultOf kept = some (if kind = 1 then .d118 else .d112)) ∧
      (markdownGood kind value →
        ¬ ((modulus = 0 ∧ ending = 0) ∨ ((modulus = 10 ∨ modulus = 100 ∨ modulus = 1000) ∧ ending < modulus)) →
        rangeFaultOf kept = some .d114) ∧
      (markdownGood kind value →
        (modulus = 0 ∧ ending = 0) ∨ ((modulus = 10 ∨ modulus = 100 ∨ modulus = 1000) ∧ ending < modulus) →
        ticket < floor → rangeFaultOf kept = some .d113)) := by
  have hprice := fun {d} => rangeFaultOf_price hnd hi rfl (d := d)
  exact ⟨fun ht => hprice (rangeFault_ticket (by omega)), fun h1 h2 => ⟨fun hm => hprice (rangeFault_markdown ⟨h1, h2⟩ hm),
    fun hm he => hprice (rangeFault_ending ⟨h1, h2⟩ hm he),
    fun hm he hf => hprice (rangeFault_floor ⟨h1, h2⟩ hm he hf)⟩⟩

/-- With a good PRICE an item whose values lie outside their ranges is refused with 117. -/
theorem rangeFaultOf_d117 (hp : ∀ ticket kind value modulus ending floor,
      .price ticket kind value modulus ending floor ∈ kept →
      (RawItem.price ticket kind value modulus ending floor).valuesGood)
    {i : RawItem} (hi : i ∈ kept) (hv : ¬ i.valuesGood = true) : rangeFaultOf kept = some .d117 := by
  obtain ⟨d, hd⟩ := Option.ne_none_iff_exists'.mp (mt (rangeFault_none_iff i).mp hv)
  refine rangeFaultOf_other hnd (fun x hx ht => (rangeFault_none_iff x).mpr ?_) hi hd
  cases x with
  | price => exact hp _ _ _ _ _ _ hx
  | unit | badge | stock | ends | locate | unknown => cases ht

include hc

/-- The items that an accepted body leaves, kind by kind (R2 to R4, R23). -/
theorem keptItems_fields :
    let items := kept.foldl addItem {}
    (∀ ticket kind value modulus ending floor, .price ticket kind value modulus ending floor ∈ kept →
      items.price = some ⟨ticket,
        if kind = 1 then .percent value else if kind = 2 then .amount value else if kind = 3 then .set value else .none,
        if modulus = 0 then none else some ⟨modulus, ending⟩, floor⟩) ∧
    (∀ quantity basis code, .unit quantity basis code ∈ kept →
      ∃ c : UnitCode, c.toNat = code ∧ items.unit = some ⟨quantity, basis, c⟩) ∧
    (∀ code, .badge code ∈ kept → ∃ c : Badge, c.toNat = code ∧ items.badge = some c) ∧
    (∀ code, .stock code ∈ kept → ∃ c : StockMark, c.toNat = code ∧ items.stock = some c) ∧
    (∀ day, .ends day ∈ kept → items.ends = some day) ∧
    (∀ minutes, .locate minutes ∈ kept → items.locate = some minutes) := by
  intro items
  refine ⟨fun ticket kind value modulus ending floor hi => ?_, fun quantity basis code hi => ?_, fun code hi => ?_,
    fun code hi => ?_, fun day hi => ?_, fun minutes hi => ?_⟩
  · rw [← markdownOf_eq]
    exact fieldOf_price.present hnd hi rfl {} {}
  · obtain ⟨c, hc, hcode⟩ := unitCode_some (of_decide_eq_true (hc _ hi))
    refine ⟨c, hcode, (fieldOf_unit.present hnd hi rfl {} {}).trans ?_⟩
    simp [addItem, hc]
  · obtain ⟨c, hc, hcode⟩ := badge_some (of_decide_eq_true (hc _ hi))
    exact ⟨c, hcode, (fieldOf_badge.present hnd hi rfl {} {}).trans hc⟩
  · obtain ⟨c, hc, hcode⟩ := stockMark_some (of_decide_eq_true (hc _ hi))
    exact ⟨c, hcode, (fieldOf_stock.present hnd hi rfl {} {}).trans hc⟩
  · exact fieldOf_ends.present hnd hi rfl {} {}
  · exact fieldOf_locate.present hnd hi rfl {} {}

/-- A field is present exactly with an item of its kind. -/
theorem keptItems_isSome {α : Type} {φ : Items → Option α} {t : Nat} (hφ : FieldOf φ t) (h0 : φ {} = none)
    (hset : ∀ i, i.codesInSets = true → i.tag = some t → (φ (addItem {} i)).isSome = true) :
    (φ (kept.foldl addItem {})).isSome = true ↔ ∃ i ∈ kept, i.tag = some t := by
  refine ⟨fun h => hφ.item_of_ne (items := {}) ?_, fun ⟨i, hi, ht⟩ => ?_⟩
  · rw [h0]
    exact Option.ne_none_iff_isSome.mpr h
  · rw [hφ.present hnd hi ht {} {}]
    exact hset i (hc i hi) ht
end

/-- The item of a kind sets the field of the kind. -/
theorem addItem_sets {i : RawItem} (hc : i.codesInSets = true) :
    (i.tag = some 1 → (addItem {} i).price.isSome = true) ∧ (i.tag = some 2 → (addItem {} i).unit.isSome = true) ∧
    (i.tag = some 3 → (addItem {} i).badge.isSome = true) ∧ (i.tag = some 4 → (addItem {} i).stock.isSome = true) ∧
    (i.tag = some 5 → (addItem {} i).ends.isSome = true) ∧ (i.tag = some 6 → (addItem {} i).locate.isSome = true) := by
  cases i with
  | unit quantity basis code =>
    obtain ⟨c, hc, _⟩ := unitCode_some (of_decide_eq_true hc)
    simp [RawItem.tag, addItem, hc]
  | badge code =>
    obtain ⟨c, hc, _⟩ := badge_some (of_decide_eq_true hc)
    simp [RawItem.tag, addItem, hc]
  | stock code =>
    obtain ⟨c, hc, _⟩ := stockMark_some (of_decide_eq_true hc)
    simp [RawItem.tag, addItem, hc]
  | price | ends | locate | unknown => simp [RawItem.tag, addItem]

/-- Settles O17: a body of the layout is read as its items, and the checks follow in their order. -/
theorem recordChecks : Obligations.RecordChecks := by
  unfold Obligations.RecordChecks
  refine ⟨fun masks body h => checkRecord_of_none (bodyItems_short h) masks,
    fun masks source label baseKind version target is hlen hfits => ?_,
    fun masks body r h => accepted_record_allowed h⟩
  obtain ⟨h1, h2, h3, h4, h5, h6⟩ := recordBody_read (masks := masks) (source := source) (label := label)
    (baseKind := baseKind) (version := version) (target := target) hlen hfits
  refine ⟨h1, h2, h3, h4, h5, fun hnd => ⟨h6 hnd, fun hne hbad => ?_, fun hne hs hb hc => ?_⟩⟩
  · exact checkRecord_badCodes hlen hfits hne hnd hbad
  intro base kept
  have hcheck := checkRecord_body (masks := masks) (source := source) (label := label) (baseKind := baseKind)
    (version := version) (target := target) hlen hfits hne hnd hs hb hc
  have hkeptnd : (kept.filterMap RawItem.tag).Nodup := filter_nodup hnd _
  have hkeptc : ∀ i ∈ kept, i.codesInSets = true := fun i hi => hc i ((List.mem_filter.mp hi).1)
  refine ⟨fun hl => ?_, fun hl => ⟨fun h0 ht => ?_, fun ht => ?_⟩⟩
  · refine hcheck.trans (if_pos ?_)
    have : validLabel label = false := by
      rw [Bool.eq_false_iff, ne_eq, validLabel_iff, hl]
      simp
    simp [this]
  · refine hcheck.trans ((if_neg (by simp [validLabel_iff.mpr hl])).trans (if_pos ?_))
    have : ¬ targetGood (bodyBase baseKind version) target = true := by
      rw [targetGood_body, h0, ht]
      simp
    simpa using this
  · have hrest := hcheck.trans ((if_neg (by simp [validLabel_iff.mpr hl])).trans
      (if_neg (by simp [targetGood_body.mpr ht])))
    have hranges := fun hk : kept ≠ [] => hrest.trans (if_neg (mt List.isEmpty_iff.mp hk))
    have hrefused : ∀ {i d}, i ∈ kept → rangeFaultOf kept = some d → _ = RecordCheck.refused d := fun hi hr =>
      (hranges (List.ne_nil_of_mem hi)).trans (congrArg (fun f => (Option.map RecordCheck.refused f).getD _) hr)
    refine ⟨fun hk => hrest.trans (if_pos (List.isEmpty_iff.mpr hk)), ?_, fun hp => ⟨?_, ?_, fun hk hv => ?_⟩⟩
    · intro ticket kind value modulus ending floor hi valueGood endingGood
      obtain ⟨hticket, hrest⟩ := rangeFaultOf_price_cases hkeptnd hi
      refine ⟨fun ht => hrefused hi (hticket ht), fun h1 h2 => ?_⟩
      obtain ⟨hvalue, hending, hfloor⟩ := hrest h1 h2
      exact ⟨fun hm => hrefused hi (hvalue hm), fun hm he => hrefused hi (hending hm he),
        fun hm he hf => hrefused hi (hfloor hm he hf)⟩
    · intro quantity basis code hi hbad
      refine hrefused hi (rangeFaultOf_d117 hkeptnd hp hi ?_)
      simp only [RawItem.valuesGood, decide_eq_true_iff]
      omega
    · intro minutes hi hbad
      refine hrefused hi (rangeFaultOf_d117 hkeptnd hp hi ?_)
      simp only [RawItem.valuesGood, decide_eq_true_iff]
      omega
    · have hnone := rangeFaultOf_none fun i hi => (rangeFault_none_iff i).mpr (hv i hi)
      obtain ⟨k1, k2, k3, k4, k5, k6⟩ := keptItems_fields hkeptnd hkeptc
      exact ⟨_, (hranges hk).trans (congrArg (fun f => (Option.map RecordCheck.refused f).getD _) hnone),
        rfl, rfl, rfl, rfl, rfl, k1, k2, k3, k4, k5, k6,
        keptItems_isSome hkeptnd hkeptc fieldOf_price rfl fun _ hi => (addItem_sets hi).1,
        keptItems_isSome hkeptnd hkeptc fieldOf_unit rfl fun _ hi => (addItem_sets hi).2.1,
        keptItems_isSome hkeptnd hkeptc fieldOf_badge rfl fun _ hi => (addItem_sets hi).2.2.1,
        keptItems_isSome hkeptnd hkeptc fieldOf_stock rfl fun _ hi => (addItem_sets hi).2.2.2.1,
        keptItems_isSome hkeptnd hkeptc fieldOf_ends rfl fun _ hi => (addItem_sets hi).2.2.2.2.1,
        keptItems_isSome hkeptnd hkeptc fieldOf_locate rfl fun _ hi => (addItem_sets hi).2.2.2.2.2⟩

end Sys2Proof.Machine
end


section
/-! The contents of configuration groups: bytes and offsets, and each group read from and written to its contents
(11.2, 12.4). -/

namespace Sys2Proof.Machine

/-! ### Bytes at offsets -/

theorem natOfBytes_lt (bs : List Byte) : natOfBytes bs < 256 ^ bs.length := by
  induction bs using snoc_induction with
  | nil => decide
  | append_singleton bs b ih =>
    rw [natOfBytes_append_singleton, List.length_append, List.length_singleton, Nat.pow_succ]
    have := b.isLt
    omega

/-- Bytes written back from the number they make. -/
theorem bytesOfNat_natOfBytes (bs : List Byte) : bytesOfNat bs.length (natOfBytes bs) = bs := by
  induction bs using snoc_induction with
  | nil => rfl
  | append_singleton bs b ih =>
    have hb := b.isLt
    rw [List.length_append, List.length_singleton, bytesOfNat, natOfBytes_append_singleton,
      show (natOfBytes bs * 256 + b.toNat) / 256 = natOfBytes bs by omega, ih]
    congr 2
    refine BitVec.eq_of_toNat_eq ?_
    rw [BitVec.toNat_ofNat]
    omega

section
variable {c : List Byte} {i n : Nat}

theorem take_drop_eq_map (h : i + n ≤ c.length) :
    (c.drop i).take n = (List.range n).map (fun j => contentAt c (i + j)) := by
  refine List.ext_getElem (by simp; omega) fun j h1 h2 => ?_
  have hj : i + j < c.length := by
    simp only [List.length_map, List.length_range] at h2
    omega
  simp [contentAt, List.getElem?_eq_getElem hj]

theorem bytesOfNat_numAt (h : i + n ≤ c.length) :
    bytesOfNat n (numAt c i n) = (List.range n).map (fun j => contentAt c (i + j)) := by
  have hlen : ((c.drop i).take n).length = n := by simp; omega
  have hback := bytesOfNat_natOfBytes ((c.drop i).take n)
  rw [hlen] at hback
  exact hback.trans (take_drop_eq_map h)

theorem numAt_lt : numAt c i n < 256 ^ n :=
  Nat.lt_of_lt_of_le (natOfBytes_lt _) (Nat.pow_le_pow_right (by omega) (List.length_take_le _ _))

theorem eq_map_contentAt (h : c.length = n) : c = (List.range n).map (contentAt c) := by
  have := take_drop_eq_map (c := c) (i := 0) (n := n) (by omega)
  simpa [← h] using this

theorem allAtMost_iff {m : Nat} (h : i + n ≤ c.length) :
    allAtMost c i n m = true ↔ ∀ j < n, (contentAt c (i + j)).toNat ≤ m := by
  rw [allAtMost, take_drop_eq_map h]
  simp
end

/-! ### Codes -/

theorem itemSet_ofByte_toByte (m : ItemSet) : ItemSet.ofByte m.toByte = m := by
  obtain ⟨a, b, c, d, e, f⟩ := m
  revert a b c d e f
  decide

theorem fieldSet_ofByte_toByte (m : FieldSet) : FieldSet.ofByte m.toByte = m := by
  obtain ⟨a, b, c, d, e, f, g⟩ := m
  revert a b c d e f g
  decide

theorem flagSet_ofByte_toByte (m : FlagSet) : FlagSet.ofByte m.toByte = m := by
  obtain ⟨a, b, c, d, e, f⟩ := m
  revert a b c d e f
  decide

/-- A byte below a bound, as a number of the bound. -/
theorem byte_eq_ofNat {b : Byte} {m : Nat} (h : b.toNat < m) : ∃ n : Fin m, b = BitVec.ofNat 8 n :=
  ⟨⟨b.toNat, h⟩, by simp⟩

theorem itemSet_toByte_ofByte {b : Byte} (h : b.toNat < 64) : (ItemSet.ofByte b).toByte = b := by
  obtain ⟨n, rfl⟩ := byte_eq_ofNat h
  revert n
  decide

theorem fieldSet_toByte_ofByte {b : Byte} (h : b.toNat < 128) : (FieldSet.ofByte b).toByte = b := by
  obtain ⟨n, rfl⟩ := byte_eq_ofNat h
  clear h
  revert n
  decide

theorem flagSet_toByte_ofByte {b : Byte} (h : b.toNat < 64) : (FlagSet.ofByte b).toByte = b := by
  obtain ⟨n, rfl⟩ := byte_eq_ofNat h
  revert n
  decide

theorem itemSet_toByte_lt (m : ItemSet) : m.toByte.toNat < 64 := by
  obtain ⟨a, b, c, d, e, f⟩ := m
  revert a b c d e f
  decide

theorem fieldSet_toByte_lt (m : FieldSet) : m.toByte.toNat < 128 := by
  obtain ⟨a, b, c, d, e, f, g⟩ := m
  revert a b c d e f g
  decide

theorem flagSet_toByte_lt (m : FlagSet) : m.toByte.toNat < 64 := by
  obtain ⟨a, b, c, d, e, f⟩ := m
  revert a b c d e f
  decide

section
variable {b : Byte} (h : b.toNat ≤ 1)
include h

theorem byte_of_le_one : b = 0 ∨ b = 1 := by
  obtain ⟨n, rfl⟩ := byte_eq_ofNat (m := 2) (Nat.lt_succ_of_le h)
  clear h
  revert n
  decide

theorem severity_byte_severityOf : (severityOf b).byte = b := by
  rcases byte_of_le_one h with rfl | rfl <;> rfl

theorem kindMask_byte_kindMaskOf : (kindMaskOf b).byte = b := by
  rcases byte_of_le_one h with rfl | rfl <;> rfl

theorem lane_byte_of_zero : (if b = 0 then Lane.night else Lane.urgent).byte = b := by
  rcases byte_of_le_one h with rfl | rfl <;> rfl
end

theorem severityOf_byte (v : Severity) : severityOf v.byte = v := by cases v <;> rfl

theorem kindMaskOf_byte (v : KindMask) : kindMaskOf v.byte = v := by cases v <;> rfl

theorem lane_of_byte (l : Lane) : (if l.byte = 0 then Lane.night else Lane.urgent) = l := by cases l <;> rfl

theorem severity_byte_le (v : Severity) : v.byte.toNat ≤ 1 := by cases v <;> decide

theorem kindMask_byte_le (v : KindMask) : v.byte.toNat ≤ 1 := by cases v <;> decide

theorem lane_byte_le (l : Lane) : l.byte.toNat ≤ 1 := by cases l <;> decide

end Sys2Proof.Machine
end


section
/-! The four configuration groups: which contents are in range, and each group read from its contents and written
back (R174, 12.4). -/

namespace Sys2Proof.Machine

/-- A value that a test guards is absent exactly when the test fails. -/
theorem ite_eq_none_iff {α : Type} {p : Prop} [Decidable p] {a : α} {b : Bool} (h : p ↔ b = true) :
    (if p then some a else none) = none ↔ b = false := by
  rw [ite_eq_right_iff, h]
  cases b <;> simp

theorem ofNat_toNat_of_lt {w x : Nat} (h : x < 2 ^ w) : (BitVec.ofNat w x).toNat = x := by
  rw [BitVec.toNat_ofNat, Nat.mod_eq_of_lt h]

theorem rate_byte_of_zero {b : Byte} (h : b.toNat ≤ 1) :
    (if (if b.toNat = 0 then LinkRate.r115200 else .r460800) = .r115200 then (0 : Byte) else 1) = b := by
  rcases byte_of_le_one h with rfl | rfl <;> rfl

theorem rate_of_byte (r : LinkRate) :
    (if (if r = .r115200 then (0 : Byte) else 1).toNat = 0 then LinkRate.r115200 else .r460800) = r := by
  cases r <;> rfl

theorem numAt_contentAt (c : List Byte) (i : Nat) : numAt c i 1 = (contentAt c i).toNat := numAt_one c i

/-- The first bytes of some contents, and the bytes that follow. -/
theorem map_range_add {α : Type} (f : Nat → α) (m n : Nat) :
    (List.range m).map f ++ (List.range n).map (fun j => f (m + j)) = (List.range (m + n)).map f := by
  rw [List.range_add, List.map_append, List.map_map]
  rfl

/-! ### Contents read -/

section
variable {c : List Byte} {p : StationConfig}

theorem readIdentity_none : readIdentity c = none ↔ groupInRange 1 c = false := by
  refine ite_eq_none_iff ?_
  simp only [groupInRange, numAt_one, decide_eq_true_iff]

theorem readIdentity_back {g : Identity} (hlen : c.length = 5) (h : readIdentity c = some g) :
    imageContents { p with identity := g } 1 = c := by
  unfold readIdentity at h
  split at h
  next hr =>
    cases h
    obtain ⟨_, _, hch, hrate⟩ := hr
    rw [numAt_one] at hrate
    simp only [imageContents, bytesOfBits, ofNat_toNat_of_lt (w := 16) (numAt_lt (c := c) (i := 1) (n := 2)),
      bytesOfNat_numAt (c := c) (i := 1) (n := 2) (by omega), numAt_one, BitVec.ofNat_toNat, BitVec.setWidth_eq]
    rw [rate_byte_of_zero hrate]
    exact (eq_map_contentAt hlen).symm
  next => cases h

theorem readSources_none (hlen : c.length = 16) : readSources c = none ↔ groupInRange 2 c = false := by
  refine ite_eq_none_iff ?_
  rw [Bool.and_eq_true, allAtMost_iff (by omega), allAtMost_iff (by omega)]
  simp only [groupInRange, decide_eq_true_iff, Nat.zero_add]
  exact and_congr_left' (forall₂_congr fun i _ => Nat.lt_succ_iff.symm)

theorem readSources_back {g : Sources} (hlen : c.length = 16) (h : readSources c = some g) :
    imageContents { p with sources := g } 2 = c := by
  unfold readSources at h
  split at h
  next hr =>
    cases h
    rw [Bool.and_eq_true, allAtMost_iff (by omega), allAtMost_iff (by omega)] at hr
    obtain ⟨hmasks, hlanes⟩ := hr
    refine Eq.trans ?_ (eq_map_contentAt hlen).symm
    rw [show 16 = 8 + 8 from rfl, ← map_range_add]
    simp only [imageContents]
    congr 1
    · refine List.ext_getElem (by simp) fun i h1 h2 => ?_
      have hi : i < 8 := by simpa using h2
      have := hmasks i hi
      rw [Nat.zero_add] at this
      simp [itemSet_toByte_ofByte (Nat.lt_succ_of_le this)]
    · refine List.ext_getElem (by simp) fun i h1 h2 => ?_
      have hi : i < 8 := by simpa using h2
      simpa using lane_byte_of_zero (hlanes i hi)
  next => cases h

theorem readModels_none : readModels c = none ↔ groupInRange 3 c = false := by
  refine ite_eq_none_iff ?_
  simp only [groupInRange, List.all_eq_true, List.mem_range, modelGood, Bool.and_eq_true, decide_eq_true_iff, numAt_one]
  exact forall₂_congr fun i _ => ⟨fun ⟨⟨⟨h1, h2⟩, h3⟩, h4⟩ => ⟨h1, h2, h3, Nat.lt_succ_of_le h4⟩,
    fun ⟨h1, h2, h3, h4⟩ => ⟨⟨⟨h1, h2⟩, h3⟩, Nat.le_of_lt_succ h4⟩⟩

theorem ofFn_eq_map_range {α : Type} {n : Nat} (f : Nat → α) : List.ofFn (fun i : Fin n => f i) = (List.range n).map f :=
  List.ext_getElem (by simp) fun i _ _ => by simp

/-- Pieces of three. -/
theorem flatMap_three {α : Type} (f : Nat → α) : ∀ n : Nat,
    (List.range n).flatMap (fun i => [f (3 * i), f (3 * i + 1), f (3 * i + 2)]) = (List.range (3 * n)).map f
  | 0 => rfl
  | n + 1 => by
    rw [List.range_succ, List.flatMap_append, flatMap_three f n, show 3 * (n + 1) = 3 * n + 3 by omega, ← map_range_add]
    rfl

theorem readModels_back {g : Vector ModelRecord 16} (hlen : c.length = 48) (h : readModels c = some g) :
    imageContents { p with models := g } 3 = c := by
  unfold readModels at h
  split at h
  next hr =>
    cases h
    refine Eq.trans ?_ (eq_map_contentAt hlen).symm
    rw [show 48 = 3 * 16 from rfl, ← flatMap_three]
    simp only [imageContents, Vector.toList_ofFn, ofFn_eq_map_range fun i : Nat => (⟨numAt c (3 * i) 1,
      numAt c (3 * i + 1) 1, FieldSet.ofByte (contentAt c (3 * i + 2))⟩ : ModelRecord), List.flatMap_map]
    rw [List.flatMap_def, List.flatMap_def]
    refine congrArg List.flatten (List.map_congr_left fun i hi => ?_)
    have hgood := List.all_eq_true.mp hr i hi
    simp only [modelGood, Bool.and_eq_true, decide_eq_true_iff, numAt_contentAt] at hgood
    simp only [numAt_contentAt, BitVec.ofNat_toNat, BitVec.setWidth_eq]
    rw [fieldSet_toByte_ofByte (Nat.lt_succ_of_le hgood.2)]
  next => cases h

theorem readPolicy_none (hlen : c.length = 28) : readPolicy c = none ↔ groupInRange 4 c = false := by
  refine ite_eq_none_iff ?_
  rw [Bool.and_eq_true, allAtMost_iff (by omega), allAtMost_iff (by omega)]
  simp only [groupInRange, decide_eq_true_iff, Nat.zero_add, numAt_one, and_assoc]
  refine and_congr_right' (and_congr_left' ?_)
  simp [contentAt, Nat.lt_succ_iff]

/-- One byte for each fault kind, read and written back. -/
theorem perKind_back {α : Type} {f : α → Byte} {g : Byte → α} {i : Nat} (h : ∀ b, b.toNat ≤ 1 → f (g b) = b)
    (hb : ∀ j < 6, (contentAt c (i + j)).toNat ≤ 1) :
    perKindBytes f (perKindAt g c i) = (List.range 6).map (fun j => contentAt c (i + j)) := by
  have hback := fun j hj => h _ (hb j hj)
  change [f (g (contentAt c (i + 0))), f (g (contentAt c (i + 1))), f (g (contentAt c (i + 2))),
    f (g (contentAt c (i + 3))), f (g (contentAt c (i + 4))), f (g (contentAt c (i + 5)))] = _
  rw [hback 0 (by omega), hback 1 (by omega), hback 2 (by omega), hback 3 (by omega), hback 4 (by omega),
    hback 5 (by omega)]
  rfl

theorem readPolicy_back {g : Policy} (hlen : c.length = 28) (h : readPolicy c = some g) :
    imageContents { p with policy := g } 4 = c := by
  unfold readPolicy at h
  dsimp only at h
  split at h
  next hr =>
    cases h
    obtain ⟨hr, -⟩ := hr
    rw [Bool.and_eq_true, allAtMost_iff (by omega), allAtMost_iff (by omega)] at hr
    obtain ⟨hbits, hflags⟩ := hr
    have hbits' : ∀ j < 6, (contentAt c (6 + j)).toNat ≤ 1 := fun j hj => by
      simpa using hbits (6 + j) (by omega)
    simp only [imageContents, perKind_back (fun _ => severity_byte_severityOf) fun j hj => hbits j (by omega),
      perKind_back (fun _ => kindMask_byte_kindMaskOf) hbits', flagSet_toByte_ofByte (Nat.lt_succ_of_le (hflags 0 (by omega))),
      numAt_contentAt c 13, BitVec.ofNat_toNat, BitVec.setWidth_eq, bytesOfNat_numAt (c := c) (i := 14) (n := 4) (by omega),
      bytesOfNat_numAt (c := c) (i := 18) (n := 4) (by omega), bytesOfNat_numAt (c := c) (i := 22) (n := 2) (by omega),
      bytesOfNat_numAt (c := c) (i := 24) (n := 4) (by omega)]
    exact (eq_map_contentAt hlen).symm
  next => cases h

end

end Sys2Proof.Machine
end


section
/-! The four configuration groups of an image, read as the configuration that it holds (R174, 12.4). -/

namespace Sys2Proof.Machine

/-! ### The group that a read takes -/

/-- A group of good length is refused exactly when it is out of range. -/
theorem takeGroup_none {k : Nat} {contents : List Byte} (p : StationConfig) (hk : k ∈ [1, 2, 3, 4])
    (hlen : contents.length = groupLength k) : takeGroup k contents p = none ↔ groupInRange k contents = false := by
  simp only [List.mem_cons, List.not_mem_nil, or_false] at hk
  rcases hk with rfl | rfl | rfl | rfl
  · exact Option.map_eq_none_iff.trans readIdentity_none
  · exact Option.map_eq_none_iff.trans (readSources_none hlen)
  · exact Option.map_eq_none_iff.trans readModels_none
  · exact Option.map_eq_none_iff.trans (readPolicy_none hlen)

/-- A group that is taken is the one of the configuration whose image it is, and the other groups stay. -/
theorem takeGroup_some {k : Nat} {contents : List Byte} {p q : StationConfig} (hk : k ∈ [1, 2, 3, 4])
    (hlen : contents.length = groupLength k) (h : takeGroup k contents p = some q) :
    imageContents q k = contents ∧ (k ≠ 1 → q.identity = p.identity) ∧ (k ≠ 2 → q.sources = p.sources) ∧
      (k ≠ 3 → q.models = p.models) ∧ (k ≠ 4 → q.policy = p.policy) := by
  simp only [List.mem_cons, List.not_mem_nil, or_false] at hk
  rcases hk with rfl | rfl | rfl | rfl
  · obtain ⟨g, hg, rfl⟩ := Option.map_eq_some_iff.mp h
    exact ⟨readIdentity_back hlen hg, by simp⟩
  · obtain ⟨g, hg, rfl⟩ := Option.map_eq_some_iff.mp h
    exact ⟨readSources_back hlen hg, by simp⟩
  · obtain ⟨g, hg, rfl⟩ := Option.map_eq_some_iff.mp h
    exact ⟨readModels_back hlen hg, by simp⟩
  · obtain ⟨g, hg, rfl⟩ := Option.map_eq_some_iff.mp h
    exact ⟨readPolicy_back hlen hg, by simp⟩

/-! ### The groups of an image -/

section
variable {c : StationConfig}

theorem length_flatMap_three {α : Type} {φ : α → List Byte} (h : ∀ a, (φ a).length = 3) :
    ∀ as : List α, (as.flatMap φ).length = 3 * as.length
  | [] => rfl
  | a :: as => by
    rw [List.flatMap_cons, List.length_append, h, length_flatMap_three h as, List.length_cons, Nat.mul_succ, Nat.add_comm]

theorem imageContents_length {k : Nat} (hk : k ∈ [1, 2, 3, 4]) : (imageContents c k).length = groupLength k := by
  simp only [List.mem_cons, List.not_mem_nil, or_false] at hk
  rcases hk with rfl | rfl | rfl | rfl
  · rfl
  · simp [imageContents, groupLength]
  · exact (length_flatMap_three (fun _ => rfl) c.models.toList).trans (by rw [Vector.length_toList]; rfl)
  · rfl

theorem readIdentity_image (hr : ConfigInRange c) (hs : c.identity.station ≠ 0) :
    readIdentity (imageContents c 1) = some c.identity := by
  obtain ⟨h1, h2, -⟩ := hr
  have hstation : c.identity.station.toNat ≠ 0 := fun h => hs (BitVec.eq_of_toNat_eq h)
  have hsite : numAt (imageContents c 1) 1 2 = c.identity.site.toNat :=
    (numAt_append (bs := [c.identity.station]) rfl rfl _).trans (natOfBytes_bytesOfBits (n := 2) c.identity.site (by omega))
  have hchannel : numAt (imageContents c 1) 3 1 = c.identity.channel :=
    (numAt_contentAt _ 3).trans (ofNat_toNat_of_lt (w := 8) (Nat.lt_of_le_of_lt h2 (by decide)))
  have hrate : numAt (imageContents c 1) 4 1 = (if c.identity.rate = .r115200 then (0 : Byte) else 1).toNat :=
    numAt_contentAt _ 4
  have hst : numAt (imageContents c 1) 0 1 = c.identity.station.toNat := numAt_contentAt _ 0
  unfold readIdentity
  rw [hst, hsite, hchannel, hrate, rate_of_byte, if_pos]
  · simp [contentAt, imageContents]
  · refine ⟨by omega, h1, h2, ?_⟩
    split <;> decide

/-- A byte of what follows other bytes. -/
theorem contentAt_append_right {as : List Byte} {n : Nat} (h : as.length = n) (bs : List Byte) (i : Nat) :
    contentAt (as ++ bs) (n + i) = contentAt bs i := by
  unfold contentAt
  rw [List.getD_eq_getElem?_getD, List.getD_eq_getElem?_getD, List.getElem?_append_right (by omega),
    show n + i - as.length = i by omega]

theorem contentAt_mask (i : Fin 8) : contentAt (imageContents c 2) i = c.sources.masks[i].toByte := by
  simp [contentAt, imageContents, List.getElem?_append]

theorem contentAt_lane (i : Fin 8) : contentAt (imageContents c 2) (8 + i) = c.sources.classMap[i].byte := by
  have hright : contentAt (imageContents c 2) (8 + i) = contentAt (c.sources.classMap.toList.map Lane.byte) i :=
    contentAt_append_right (as := c.sources.masks.toList.map ItemSet.toByte) (by simp) _ i
  rw [hright]
  simp [contentAt]

theorem readSources_image : readSources (imageContents c 2) = some c.sources := by
  have hlen : (imageContents c 2).length = 16 := imageContents_length (by decide)
  unfold readSources
  rw [if_pos]
  · simp only [contentAt_mask, contentAt_lane, itemSet_ofByte_toByte, lane_of_byte]
    simp
  · rw [Bool.and_eq_true, allAtMost_iff (by omega), allAtMost_iff (by omega)]
    refine ⟨fun j hj => ?_, fun j hj => ?_⟩
    · rw [Nat.zero_add, show j = (⟨j, hj⟩ : Fin 8).val from rfl, contentAt_mask]
      exact Nat.le_of_lt_succ (itemSet_toByte_lt _)
    · rw [show j = (⟨j, hj⟩ : Fin 8).val from rfl, contentAt_lane]
      exact lane_byte_le _

/-- Pieces of three, one after another. -/
theorem flatMap_three_getD {α : Type} (f g h : α → Byte) : ∀ (l : List α) (i : Nat) (hi : i < l.length),
    contentAt (l.flatMap fun m => [f m, g m, h m]) (3 * i) = f l[i] ∧
    contentAt (l.flatMap fun m => [f m, g m, h m]) (3 * i + 1) = g l[i] ∧
    contentAt (l.flatMap fun m => [f m, g m, h m]) (3 * i + 2) = h l[i]
  | [], _, hi => absurd hi (Nat.not_lt_zero _)
  | _ :: _, 0, _ => ⟨rfl, rfl, rfl⟩
  | _ :: l, i + 1, hi => flatMap_three_getD f g h l i (Nat.lt_of_succ_lt_succ hi)

theorem contentAt_model (i : Fin 16) :
    contentAt (imageContents c 3) (3 * i) = BitVec.ofNat 8 c.models[i].priceDigits ∧
    contentAt (imageContents c 3) (3 * i + 1) = BitVec.ofNat 8 c.models[i].unitDigits ∧
    contentAt (imageContents c 3) (3 * i + 2) = c.models[i].fields.toByte :=
  flatMap_three_getD (fun m : ModelRecord => BitVec.ofNat 8 m.priceDigits) (fun m => BitVec.ofNat 8 m.unitDigits)
    (fun m => m.fields.toByte) c.models.toList i (by simp)

theorem readModels_image (hr : ConfigInRange c) : readModels (imageContents c 3) = some c.models := by
  obtain ⟨-, -, hm, -⟩ := hr
  have hprice : ∀ i : Fin 16, numAt (imageContents c 3) (3 * i) 1 = c.models[i].priceDigits := fun i => by
    rw [numAt_contentAt, (contentAt_model i).1]
    exact ofNat_toNat_of_lt (Nat.lt_of_le_of_lt (hm i).2.1 (by decide))
  have hunit : ∀ i : Fin 16, numAt (imageContents c 3) (3 * i + 1) 1 = c.models[i].unitDigits := fun i => by
    rw [numAt_contentAt, (contentAt_model i).2.1]
    exact ofNat_toNat_of_lt (Nat.lt_of_le_of_lt (hm i).2.2 (by decide))
  have hfields : ∀ i : Fin 16, contentAt (imageContents c 3) (3 * i + 2) = c.models[i].fields.toByte := fun i =>
    (contentAt_model i).2.2
  unfold readModels
  rw [if_pos]
  · simp only [hprice, hunit, hfields, fieldSet_ofByte_toByte]
    simp
  · refine List.all_eq_true.mpr fun j hj => ?_
    obtain ⟨h4, h7, h6⟩ := hm ⟨j, List.mem_range.mp hj⟩
    have hp := hprice ⟨j, List.mem_range.mp hj⟩
    have hu := hunit ⟨j, List.mem_range.mp hj⟩
    have hf := hfields ⟨j, List.mem_range.mp hj⟩
    dsimp only at hp hu hf
    simp only [modelGood, hp, hu, numAt_contentAt, hf, Bool.and_eq_true, decide_eq_true_iff]
    exact ⟨⟨⟨h4, h7⟩, h6⟩, Nat.le_of_lt_succ (fieldSet_toByte_lt _)⟩

theorem perKindAt_image {α : Type} {f : α → Byte} {g : Byte → α} (h : ∀ v, g (f v) = v) (p : PerKind α)
    (bs rest : List Byte) : perKindAt g (bs ++ (perKindBytes f p ++ rest)) bs.length = p := by
  have hat : ∀ j, contentAt (bs ++ (perKindBytes f p ++ rest)) (bs.length + j) = contentAt (perKindBytes f p ++ rest) j :=
    fun j => by simp [contentAt, List.getElem?_append_right]
  have h0 := hat 0
  rw [Nat.add_zero] at h0
  simp only [perKindAt, h0, hat]
  simp [contentAt, perKindBytes, h]

theorem readPolicy_image (hr : ConfigInRange c) : readPolicy (imageContents c 4) = some c.policy := by
  obtain ⟨-, -, -, r1, r2, r3, r4, r5, r6, r7, r8⟩ := hr
  have hlen : (imageContents c 4).length = 28 := rfl
  let b4 := bytesOfNat 4 c.policy.reserve
  let b3 := bytesOfNat 2 c.policy.refill ++ b4
  let b2 := bytesOfNat 4 c.policy.capacity ++ b3
  let b1 := bytesOfNat 4 c.policy.lateMargin ++ b2
  let head := perKindBytes Severity.byte c.policy.severity ++ perKindBytes KindMask.byte c.policy.mask ++
    [c.policy.enable.toByte, BitVec.ofNat 8 c.policy.attemptLimit]
  have himage : imageContents c 4 = head ++ b1 := by simp [imageContents, head, b1, b2, b3, b4]
  have hskip : ∀ k n, numAt (imageContents c 4) (14 + k) n = numAt b1 k n := fun k n => by
    rw [himage]
    exact numAt_append_right rfl _ _ _
  have hlimit : numAt (imageContents c 4) 13 1 = c.policy.attemptLimit :=
    (numAt_contentAt _ _).trans (ofNat_toNat_of_lt (w := 8) (Nat.lt_of_le_of_lt r2 (by decide)))
  have hmargin : numAt (imageContents c 4) 14 4 = c.policy.lateMargin :=
    (hskip 0 4).trans (numAt_bytesOfNat (Nat.lt_of_le_of_lt r3 (by decide)) _)
  have hcapacity : numAt (imageContents c 4) 18 4 = c.policy.capacity :=
    (hskip 4 4).trans <| (numAt_skip 4 _ 0 4 b2).trans (numAt_bytesOfNat (Nat.lt_of_le_of_lt r5 (by decide)) _)
  have hrefill : numAt (imageContents c 4) 22 2 = c.policy.refill :=
    (hskip 8 2).trans <| (numAt_skip 4 _ 4 2 b2).trans <| (numAt_skip 4 _ 0 2 b3).trans
      (numAt_bytesOfNat (Nat.lt_of_le_of_lt r7 (by decide)) _)
  have hreserve : numAt (imageContents c 4) 24 4 = c.policy.reserve :=
    (hskip 10 4).trans <| (numAt_skip 4 _ 6 4 b2).trans <| (numAt_skip 4 _ 2 4 b3).trans <|
      (numAt_skip 2 _ 0 4 b4).trans (numAt_bytesOfNat_end (Nat.lt_of_le_of_lt (Nat.le_trans r8 r5) (by decide)))
  have hseverity : perKindAt severityOf (imageContents c 4) 0 = c.policy.severity := by
    rw [himage]
    exact (perKindAt_image severityOf_byte c.policy.severity [] _)
  have hmask : perKindAt kindMaskOf (imageContents c 4) 6 = c.policy.mask := by
    rw [himage]
    exact (perKindAt_image kindMaskOf_byte c.policy.mask (perKindBytes Severity.byte c.policy.severity) _)
  have hflags : contentAt (imageContents c 4) 12 = c.policy.enable.toByte := rfl
  unfold readPolicy
  dsimp only
  rw [hlimit, hmargin, hcapacity, hrefill, hreserve, hseverity, hmask, hflags, flagSet_ofByte_toByte, if_pos]
  refine ⟨?_, r1, r2, r3, r4, r5, r6, r7, r8⟩
  rw [Bool.and_eq_true, allAtMost_iff (by omega), allAtMost_iff (by omega)]
  refine ⟨fun j hj => ?_, fun j hj => ?_⟩
  · obtain rfl | rfl | rfl | rfl | rfl | rfl | rfl | rfl | rfl | rfl | rfl | rfl :
      j = 0 ∨ j = 1 ∨ j = 2 ∨ j = 3 ∨ j = 4 ∨ j = 5 ∨ j = 6 ∨ j = 7 ∨ j = 8 ∨ j = 9 ∨ j = 10 ∨ j = 11 := by omega
    all_goals first | exact severity_byte_le _ | exact kindMask_byte_le _
  · obtain rfl : j = 0 := by omega
    exact Nat.le_of_lt_succ (flagSet_toByte_lt _)

/-- A group of an image takes the place of its defaults. -/
theorem takeGroup_image (hr : ConfigInRange c) (hs : c.identity.station ≠ 0) (p : StationConfig) :
    takeGroup 1 (imageContents c 1) p = some { p with identity := c.identity } ∧
    takeGroup 2 (imageContents c 2) p = some { p with sources := c.sources } ∧
    takeGroup 3 (imageContents c 3) p = some { p with models := c.models } ∧
    takeGroup 4 (imageContents c 4) p = some { p with policy := c.policy } :=
  ⟨by rw [takeGroup, readIdentity_image hr hs, Option.map_some], by rw [takeGroup, readSources_image, Option.map_some],
    by rw [takeGroup, readModels_image hr, Option.map_some], by rw [takeGroup, readPolicy_image hr, Option.map_some]⟩

end

end Sys2Proof.Machine
end


section
/-! The autoload: its reads and its end, and the image that loads as itself (chapter 11). -/

namespace Sys2Proof.Machine

/-! ### The end of the autoload (R175) -/

/-- What an autoload that ends with a configuration leaves. -/
def LoadEnds (s t : State) (c : StationConfig) (faults : List FaultLog) : Prop :=
  t.autoload = none ∧ t.config = c ∧ t.lineRate = c.identity.rate ∧ t.enable = c.policy.enable ∧
  t.receiver = (if s.lineRate = c.identity.rate then s.receiver else .hunting) ∧
  t.opState = (if t.latched.anyWith (c.policy.severity.map (fun v => v == Severity.stop)) then
    OpState.halted else OpState.idle) ∧
  Latches s t faults ∧
  t = { s with
    config := t.config, autoload := t.autoload, lineRate := t.lineRate, receiver := t.receiver,
    enable := t.enable, opState := t.opState, latched := t.latched, firstFault := t.firstFault,
    halt := t.halt }

theorem endAutoload_ends (c : StationConfig) (s : State) : LoadEnds s (endAutoload c s) c [] :=
  ⟨rfl, rfl, rfl, rfl, rfl, rfl, .refl s, rfl⟩

theorem endAutoload_latchConfig_ends (c : StationConfig) (d : Detail) (k : Nat) (s : State) :
    LoadEnds s (endAutoload c (latchConfig d k s)) c [⟨d, 0, 0, BitVec.ofNat 16 k, s.clock⟩] :=
  ⟨rfl, rfl, rfl, rfl, rfl, rfl, (latch_announces d 0 0 (BitVec.ofNat 16 k) s).latches, rfl⟩

/-- A latched kind of severity STOP is found. -/
theorem anyWith_insert {p test : PerKind Bool} {k : FaultKind} (h : test.get k = true) : (p.insert k).anyWith test = true := by
  cases k <;> simp only [PerKind.get] at h <;> simp [PerKind.insert, PerKind.anyWith, h]

/-- A fault of the Configuration Loader with every default in force halts the station (R172, R174). -/
theorem LoadEnds.halted {s t : State} {d : Detail} {k : GroupNo} {time : StoreTime} (hd : d.kind = .config)
    (h : LoadEnds s t defaultConfig [⟨d, 0, 0, k, time⟩]) : t.opState = .halted := by
  obtain ⟨-, -, -, -, -, hop, ⟨hlatched, -⟩, -⟩ := h
  rw [hop, hlatched, if_pos]
  refine anyWith_insert ?_
  simp only [hd]
  rfl

/-! ### The reads (R172 to R175) -/

section
variable {s : State} {p : StationConfig}

theorem headerRead_good {count : Byte} (ha : s.autoload = some ⟨.header, p⟩) (h1 : 1 ≤ count.toNat) (h4 : count.toNat ≤ 4) :
    exec (.headerRead 0x5A1E count) s = .next { s with autoload := some ⟨.group 1 count.toNat, p⟩ } := by
  change execHeaderRead 0x5A1E count s = _
  unfold execHeaderRead
  rw [ha]
  exact if_pos ⟨rfl, h1, h4⟩

theorem headerRead_bad {signature : BitVec 16} {count : Byte} (ha : s.autoload = some ⟨.header, p⟩)
    (h : signature ≠ 0x5A1E ∨ count = 0 ∨ 4 < count.toNat) :
    exec (.headerRead signature count) s = .next (endAutoload defaultConfig (latchConfig .d402 0 s)) := by
  change execHeaderRead signature count s = _
  unfold execHeaderRead
  rw [ha]
  refine if_neg ?_
  rintro ⟨hsig, h1, h4⟩
  rcases h with h | rfl | h
  · exact h hsig
  · exact absurd h1 (by decide)
  · omega

theorem configReadTimeout_unanswered {stage : LoadStage} (ha : s.autoload = some ⟨stage, p⟩) :
    exec .configReadTimeout s = .next (endAutoload defaultConfig (latchConfig .d401 0 s)) := by
  change execConfigReadTimeout s = _
  unfold execConfigReadTimeout
  rw [ha]

theorem groupCheckGood_iff {k : Nat} {length : Byte} {contents : List Byte} {check : BitVec 16} :
    groupCheckGood k length contents check = true ↔ length.toNat = groupLength k ∧ contents.length = groupLength k ∧
      (length.toNat + byteSum contents + check.toNat) % 65536 = 0 := by
  simp [groupCheckGood, and_assoc]

section
variable {k count : Nat} {length : Byte} {contents : List Byte} {check : BitVec 16}
  (ha : s.autoload = some ⟨.group k count, p⟩)
include ha

theorem groupRead_bad (h : ¬ groupCheckGood k length contents check = true) :
    exec (.groupRead length contents check) s = .next (endAutoload p (latchConfig .d403 k s)) := by
  change execGroupRead length contents check s = _
  unfold execGroupRead
  rw [ha]
  exact if_neg h

variable (h : groupCheckGood k length contents check = true)
include h

theorem groupRead_taken {q : StationConfig} (hq : takeGroup k contents p = some q) :
    exec (.groupRead length contents check) s = .next (afterGroup k count q s) := by
  change execGroupRead length contents check s = _
  unfold execGroupRead
  rw [ha]
  dsimp only
  rw [if_pos h, hq]

theorem groupRead_outOfRange (hq : takeGroup k contents p = none) :
    exec (.groupRead length contents check) s = .next (afterGroup k count p (latchConfig .d404 k s)) := by
  change execGroupRead length contents check s = _
  unfold execGroupRead
  rw [ha]
  dsimp only
  rw [if_pos h, hq]
end
end

theorem groupLength_lt (k : Nat) : groupLength k < 256 := by
  unfold groupLength
  split <;> decide

/-- Settles O5: each read in its cases, and each end of the autoload by what `endAutoload` leaves. -/
theorem autoloadReads : Obligations.AutoloadReads := by
  unfold Obligations.AutoloadReads
  refine ⟨fun k contents p hk hlen => ⟨takeGroup_none p hk hlen, fun q hq => takeGroup_some hk hlen hq⟩,
    fun s p => ⟨fun count ha h1 h4 => headerRead_good ha h1 h4, fun signature count ha hbad => ?_, fun stage ha => ?_,
      fun k count length contents check ha hbad => ?_, fun k count contents check ha hlen hsum => ?_⟩⟩
  · have hexec := headerRead_bad ha hbad
    have hends := endAutoload_latchConfig_ends defaultConfig .d402 0 s
    refine ⟨⟨_, hexec, hends⟩, fun t ht => ?_⟩
    cases hexec.symm.trans ht
    exact hends.halted rfl
  · have hexec := configReadTimeout_unanswered ha
    have hends := endAutoload_latchConfig_ends defaultConfig .d401 0 s
    refine ⟨⟨_, hexec, hends⟩, fun t ht => ?_⟩
    cases hexec.symm.trans ht
    exact hends.halted rfl
  · refine ⟨_, groupRead_bad ha fun hgood => ?_, endAutoload_latchConfig_ends p .d403 k s⟩
    obtain ⟨h1, h2, h3⟩ := groupCheckGood_iff.mp hgood
    rcases hbad with h | h | h
    · exact h h1
    · exact h h2
    · exact h h3
  · have hlength : (BitVec.ofNat 8 contents.length : Byte).toNat = contents.length :=
      ofNat_toNat_of_lt (hlen ▸ groupLength_lt k)
    have hgood : groupCheckGood k (BitVec.ofNat 8 contents.length) contents check = true :=
      groupCheckGood_iff.mpr ⟨hlength.trans hlen, hlen, by rw [hlength]; exact hsum⟩
    refine ⟨fun q hq => ⟨fun hk => ?_, fun hk => ?_⟩, fun hq => ⟨fun hk => ?_, fun hk => ?_⟩⟩
    · exact (groupRead_taken ha hgood hq).trans (congrArg _ (if_pos hk))
    · exact ⟨_, (groupRead_taken ha hgood hq).trans (congrArg _ (if_neg (Nat.not_lt.mpr hk))), endAutoload_ends q s⟩
    · exact ⟨_, (groupRead_outOfRange ha hgood hq).trans (congrArg _ (if_pos hk)), rfl,
        (latch_announces .d404 0 0 (BitVec.ofNat 16 k) s).latches, rfl⟩
    · exact ⟨_, (groupRead_outOfRange ha hgood hq).trans (congrArg _ (if_neg (Nat.not_lt.mpr hk))),
        endAutoload_latchConfig_ends p .d404 k s⟩

/-! ### The image -/

theorem execAll_cons {i : Instr} {is : List Instr} {s t : State} (h : exec i s = .next t) :
    execAll (i :: is) s = execAll is t := by
  rw [execAll, h]

theorem imageSum_good (contents : List Byte) :
    (contents.length + byteSum contents + (imageSum contents).toNat) % 65536 = 0 := by
  unfold imageSum
  generalize contents.length + byteSum contents = n
  have h0 : (0 : BitVec 16).toNat = 0 := rfl
  simp only [BitVec.toNat_sub, BitVec.toNat_ofNat]
  omega

section
variable {c p q : StationConfig} {s : State} {k : Nat} (hk : k ∈ [1, 2, 3, 4])
  (ha : s.autoload = some ⟨.group k 4, p⟩) (hq : takeGroup k (imageContents c k) p = some q)
include hk ha hq

/-- A group of the image passes its check and is taken. -/
theorem groupReadOf_image : exec (groupReadOf (imageContents c k)) s = .next (afterGroup k 4 q s) := by
  have hlen : (imageContents c k).length = groupLength k := imageContents_length hk
  have hlength : (BitVec.ofNat 8 (imageContents c k).length : Byte).toNat = (imageContents c k).length :=
    ofNat_toNat_of_lt (hlen ▸ groupLength_lt k)
  exact groupRead_taken ha
    (groupCheckGood_iff.mpr ⟨hlength.trans hlen, hlen, by rw [hlength]; exact imageSum_good _⟩) hq
end

/-- Settles O4: the header and the four groups, one read after another. -/
theorem imageLoadsAsItself : Obligations.ImageLoadsAsItself := by
  unfold Obligations.ImageLoadsAsItself
  intro c s hr hs ha
  let p1 := { defaultConfig with identity := c.identity }
  let p2 := { p1 with sources := c.sources }
  let p3 := { p2 with models := c.models }
  have hheader := headerRead_good (count := 4) ha (by decide) (by decide)
  have h1 := groupReadOf_image (s := { s with autoload := some ⟨.group 1 4, defaultConfig⟩ }) (k := 1) (by decide) rfl
    (takeGroup_image hr hs defaultConfig).1
  have h2 := groupReadOf_image (s := { s with autoload := some ⟨.group 2 4, p1⟩ }) (k := 2) (by decide) rfl
    (takeGroup_image hr hs p1).2.1
  have h3 := groupReadOf_image (s := { s with autoload := some ⟨.group 3 4, p2⟩ }) (k := 3) (by decide) rfl
    (takeGroup_image hr hs p2).2.2.1
  have h4 := groupReadOf_image (s := { s with autoload := some ⟨.group 4 4, p3⟩ }) (k := 4) (by decide) rfl
    (takeGroup_image hr hs p3).2.2.2
  refine ⟨endAutoload c { s with autoload := some ⟨.group 4 4, p3⟩ }, ?_, rfl, rfl, rfl, rfl, rfl, rfl⟩
  exact (execAll_cons hheader).trans <| (execAll_cons h1).trans <| (execAll_cons h2).trans <| (execAll_cons h3).trans
    (execAll_cons h4)

end Sys2Proof.Machine
end


section
/-! The fields of air frames: each kind written and read back (12.1.1, R104). -/

namespace Sys2Proof.Machine

/-! ### Words and pairs -/

/-- A word that stands in the bytes is read as itself. -/
theorem ofNat_numAt {w n i : Nat} {x : BitVec w} {bs : List Byte} (h : (bs.drop i).take n = bytesOfBits n x)
    (hw : w ≤ 8 * n) : BitVec.ofNat w (numAt bs i n) = x := by
  rw [numAt, h, natOfBytes_bytesOfBits x hw, BitVec.ofNat_toNat, BitVec.setWidth_eq]

/-- A word that was read, written back. -/
theorem bytesOfBits_numAt {w n i : Nat} {bs : List Byte} (hw : w = 8 * n) (h : i + n ≤ bs.length) :
    bytesOfBits n (BitVec.ofNat w (numAt bs i n)) = (List.range n).map (fun j => contentAt bs (i + j)) := by
  subst hw
  have hlt : numAt bs i n < 2 ^ (8 * n) := by
    rw [Nat.pow_mul]
    exact numAt_lt
  rw [bytesOfBits, ofNat_toNat_of_lt hlt, bytesOfNat_numAt h]

theorem pairBytes_length : ∀ ps : List (LabelAddr × Version), (pairBytes ps).length = 5 * ps.length
  | [] => rfl
  | p :: ps => by
    change (bytesOfBits 3 p.1 ++ bytesOfBits 2 p.2 ++ pairBytes ps).length = _
    rw [List.length_append, pairBytes_length ps, List.length_cons]
    simp
    omega

theorem readPairs_short (n : Nat) : ∀ {bs : List Byte}, bs.length < 5 → readPairs (n + 1) bs = none
  | [], _ | [_], _ | [_, _], _ | [_, _, _], _ | [_, _, _, _], _ => rfl
  | _ :: _ :: _ :: _ :: _ :: _, h => absurd h (by simp)

theorem exists_five : ∀ {bs : List Byte}, ¬ bs.length < 5 → ∃ a b c d e rest, bs = a :: b :: c :: d :: e :: rest
  | [], h | [_], h | [_, _], h | [_, _, _], h | [_, _, _, _], h => absurd (by simp) h
  | a :: b :: c :: d :: e :: rest, _ => ⟨a, b, c, d, e, rest, rfl⟩

/-- Pairs are read exactly from the bytes that they write. -/
theorem readPairs_iff {n : Nat} {bs : List Byte} {ps : List (LabelAddr × Version)} :
    readPairs n bs = some ps ↔ ps.length = n ∧ bs = pairBytes ps := by
  induction n generalizing bs ps with
  | zero =>
    cases bs with
    | nil =>
      rw [readPairs, Option.some.injEq, List.length_eq_zero_iff]
      exact ⟨fun h => ⟨h.symm, by rw [← h]; rfl⟩, fun h => h.1.symm⟩
    | cons b bs =>
      refine ⟨nofun, fun ⟨h, hb⟩ => ?_⟩
      rw [List.length_eq_zero_iff.mp h] at hb
      cases hb
  | succ n ih =>
    by_cases hshort : bs.length < 5
    · rw [readPairs_short n hshort]
      refine ⟨nofun, fun ⟨h, hb⟩ => ?_⟩
      rw [hb, pairBytes_length, h] at hshort
      omega
    · obtain ⟨a, b, c, d, e, rest, rfl⟩ := exists_five hshort
      have hlabel : bytesOfBits 3 (BitVec.ofNat 24 (natOfBytes [a, b, c]) : LabelAddr) = [a, b, c] :=
        bytesOfBits_numAt (bs := [a, b, c]) (i := 0) (n := 3) rfl (Nat.le_refl 3)
      have hversion : bytesOfBits 2 (BitVec.ofNat 16 (natOfBytes [d, e]) : Version) = [d, e] :=
        bytesOfBits_numAt (bs := [d, e]) (i := 0) (n := 2) rfl (Nat.le_refl 2)
      rw [readPairs, Option.map_eq_some_iff]
      constructor
      · rintro ⟨qs, hqs, rfl⟩
        obtain ⟨rfl, rfl⟩ := ih.mp hqs
        refine ⟨rfl, ?_⟩
        change _ = bytesOfBits 3 _ ++ bytesOfBits 2 _ ++ pairBytes qs
        rw [hlabel, hversion]
        rfl
      · rintro ⟨hlen, hbytes⟩
        cases ps with
        | nil => cases hlen
        | cons p qs =>
          obtain ⟨l, v⟩ := p
          have hl : [a, b, c] = bytesOfBits 3 l := congrArg (List.take 3) hbytes
          have hv : [d, e] = bytesOfBits 2 v := congrArg (fun x => (List.drop 3 x).take 2) hbytes
          have hr : rest = pairBytes qs := congrArg (List.drop 5) hbytes
          refine ⟨qs, ih.mpr ⟨Nat.succ.inj hlen, hr⟩, ?_⟩
          rw [hl, hv, natOfBytes_bytesOfBits l (by omega), natOfBytes_bytesOfBits v (by omega)]
          simp

/-! ### Each kind, written and read -/

theorem readyReasonOf_code (r : ReadyReason) : readyReasonOf? (readyCode r) = some r := by cases r <;> rfl

theorem readyCode_of_reason {q : Nat} {r : ReadyReason} (h : readyReasonOf? q = some r) : readyCode r = q := by
  unfold readyReasonOf? at h
  split at h <;> cases h <;> rfl

/-- A nibble pair in one byte. -/
theorem nibbles (m b : BitVec 4) : BitVec.ofNat 4 ((BitVec.ofNat 8 (m.toNat * 16 + b.toNat)).toNat / 16) = m ∧
    BitVec.ofNat 4 (BitVec.ofNat 8 (m.toNat * 16 + b.toNat)).toNat = b := by
  have hm := m.isLt
  have hb := b.isLt
  rw [ofNat_toNat_of_lt (by omega)]
  constructor <;> refine BitVec.eq_of_toNat_eq ?_ <;> rw [BitVec.toNat_ofNat] <;> omega

theorem nibbles_back (x : Byte) : BitVec.ofNat 8 ((BitVec.ofNat 4 (x.toNat / 16)).toNat * 16 + (BitVec.ofNat 4 x.toNat).toNat) = x := by
  have hx := x.isLt
  refine BitVec.eq_of_toNat_eq ?_
  simp only [BitVec.toNat_ofNat]
  omega

theorem readFields_call (x : CallFrame) : readFields 1 0 (AirFrame.call x).fields = some (.call x) := by
  obtain ⟨hm, hb⟩ := nibbles x.model x.battery
  have hbyte : numAt (AirFrame.call x).fields 5 1 = (BitVec.ofNat 8 (x.model.toNat * 16 + x.battery.toNat)).toNat :=
    numAt_contentAt _ 5
  simp only [readFields, true_and]
  rw [if_pos (show (AirFrame.call x).fields.length = 7 from rfl), ofNat_numAt (x := x.label) rfl (by omega), ofNat_numAt (x := x.held) rfl (by omega), hbyte, hm, hb]
  rfl

theorem readFields_offer (x : OfferFrame) :
    readFields 2 (AirFrame.offer x).qualifier (AirFrame.offer x).fields = some (.offer x) := by
  obtain ⟨sender, label, base, target, effective, clock, faceLength, fragments, faceCheck⟩ := x
  simp only [readFields]
  cases base with
  | any =>
    rw [if_pos ⟨Nat.le_refl 1, rfl⟩, ofNat_numAt (x := label) rfl (by omega), ofNat_numAt (i := 6) (x := target) rfl (by omega),
      ofNat_numAt (x := effective) rfl (by omega), ofNat_numAt (x := clock) rfl (by omega),
      ofNat_numAt (i := 18) (x := faceCheck) rfl (by omega)]
    rfl
  | version v =>
    rw [if_pos ⟨Nat.zero_le 1, rfl⟩, ofNat_numAt (x := label) rfl (by omega), ofNat_numAt (x := v) rfl (by omega),
      ofNat_numAt (x := target) rfl (by omega), ofNat_numAt (x := effective) rfl (by omega),
      ofNat_numAt (x := clock) rfl (by omega), ofNat_numAt (x := faceCheck) rfl (by omega)]
    rfl

theorem readFields_ready (x : ReadyFrame) :
    readFields 3 (readyCode x.reason) (AirFrame.ready x).fields = some (.ready x) := by
  simp only [readFields, readyReasonOf_code]
  rw [if_pos (show (AirFrame.ready x).fields.length = 6 from rfl), ofNat_numAt (x := x.label) rfl (by omega), ofNat_numAt (x := x.held) rfl (by omega)]
  rfl

theorem readFields_frag (x : FragFrame) (h : x.payload.length ≤ 16) :
    readFields 4 0 (AirFrame.frag x).fields = some (.frag x) := by
  have hlen : (AirFrame.frag x).fields.length = 7 + x.payload.length := by simp [AirFrame.fields]; omega
  have hbyte : numAt (AirFrame.frag x).fields 6 1 = x.payload.length :=
    (numAt_contentAt _ 6).trans (ofNat_toNat_of_lt (w := 8) (Nat.lt_of_le_of_lt h (by decide)))
  simp only [readFields, true_and]
  rw [if_pos (by omega), ofNat_numAt (x := x.label) rfl (by omega)]
  rfl

theorem readFields_fragAck (x : FragAckFrame) : readFields 5 0 (AirFrame.fragAck x).fields = some (.fragAck x) := by
  simp only [readFields, true_and]
  rw [if_pos (show (AirFrame.fragAck x).fields.length = 5 from rfl), ofNat_numAt (x := x.label) rfl (by omega)]
  rfl

theorem readFields_done (x : DoneFrame) : readFields 6 0 (AirFrame.done x).fields = some (.done x) := by
  simp only [readFields, true_and]
  rw [if_pos (show (AirFrame.done x).fields.length = 8 from rfl), ofNat_numAt (x := x.label) rfl (by omega), ofNat_numAt (x := x.held) rfl (by omega),
    ofNat_numAt (x := x.faceCheck) rfl (by omega)]
  rfl

theorem readFields_refuse (x : RefuseFrame) : readFields 7 1 (AirFrame.refuse x).fields = some (.refuse x) := by
  simp only [readFields, true_and]
  rw [if_pos (show (AirFrame.refuse x).fields.length = 7 from rfl), ofNat_numAt (x := x.label) rfl (by omega), ofNat_numAt (x := x.faceCheck) rfl (by omega)]
  rfl

theorem readFields_tally (x : TallyFrame) (h : x.pairs.length ≤ 16) :
    readFields 8 0 (AirFrame.tally x).fields = some (.tally x) := by
  have hlen : (AirFrame.tally x).fields.length = 10 + (pairBytes x.pairs).length := by simp [AirFrame.fields]; omega
  have hbyte : numAt (AirFrame.tally x).fields 5 1 = x.pairs.length :=
    (numAt_contentAt _ 5).trans (ofNat_toNat_of_lt (w := 8) (Nat.lt_of_le_of_lt h (by decide)))
  have hpairs : readPairs x.pairs.length ((AirFrame.tally x).fields.drop 10) = some x.pairs :=
    readPairs_iff.mpr ⟨rfl, rfl⟩
  simp only [readFields, true_and]
  rw [if_pos (by omega), hbyte, hpairs, Option.map_some, ofNat_numAt (x := x.clock) rfl (by omega),
    ofNat_numAt (x := x.freeSlots) rfl (by omega)]
  rfl

/-- The fields that a frame writes are read as the frame. -/
theorem readFields_fields {f : AirFrame} {own : StationNo} (h : f.admissible own = true) :
    readFields f.kindCode f.qualifier f.fields = some f := by
  cases f with
  | call x => exact readFields_call x
  | offer x => exact readFields_offer x
  | ready x => exact readFields_ready x
  | frag x =>
    simp only [AirFrame.admissible, Bool.and_eq_true, decide_eq_true_iff] at h
    exact readFields_frag x h.1.1.1
  | fragAck x => exact readFields_fragAck x
  | done x => exact readFields_done x
  | refuse x => exact readFields_refuse x
  | tally x =>
    simp only [AirFrame.admissible, Bool.and_eq_true, decide_eq_true_iff] at h
    exact readFields_tally x h.1.1

/-! ### What is read was written -/

/-- The bytes of a frame's fields, but for the two that a base ANY leaves unread. -/
def Wrote (b : List Byte) (f : AirFrame) : Prop :=
  b = f.fields ∨ ∃ (x : OfferFrame) (v : Version), f = .offer x ∧ x.base = .any ∧
    b = (AirFrame.offer { x with base := .version v }).fields

theorem readFields_wrote {k q : Nat} {b : List Byte} {f : AirFrame} (h : readFields k q b = some f) :
    f.kindCode = k ∧ f.qualifier = q ∧ Wrote b f := by
  have hword := fun {w n i : Nat} => bytesOfBits_numAt (w := w) (n := n) (i := i) (bs := b)
  unfold readFields at h
  dsimp only at h
  split at h
  · split at h
    next hg =>
      obtain ⟨rfl, hlen⟩ := hg
      cases h
      refine ⟨rfl, rfl, .inl ?_⟩
      simp only [AirFrame.fields, hword (w := 24) (n := 3) rfl (i := 0) (by omega),
        hword (w := 16) (n := 2) (i := 3) rfl (by omega), numAt_contentAt, nibbles_back]
      exact eq_map_contentAt hlen
    next => cases h
  · split at h
    next hg =>
      obtain ⟨hq, hlen⟩ := hg
      cases h
      have hfields : ∀ base : Base, bytesOfBits 2 (versionOfBase base) = (List.range 2).map (fun j => contentAt b (4 + j)) →
          b = (AirFrame.offer ⟨b.getD 0 0, BitVec.ofNat 24 (numAt b 1 3), base, BitVec.ofNat 16 (numAt b 6 2),
            BitVec.ofNat 32 (numAt b 8 4), BitVec.ofNat 32 (numAt b 12 4), b.getD 16 0, b.getD 17 0,
            BitVec.ofNat 16 (numAt b 18 2)⟩).fields := by
        intro base hbase
        simp only [AirFrame.fields, hbase, hword (w := 24) (n := 3) rfl (i := 1) (by omega),
          hword (w := 16) (n := 2) (i := 6) rfl (by omega), hword (w := 32) (n := 4) (i := 8) rfl (by omega),
          hword (w := 32) (n := 4) (i := 12) rfl (by omega), hword (w := 16) (n := 2) (i := 18) rfl (by omega)]
        exact eq_map_contentAt hlen
      have hbase := hword (w := 16) (n := 2) (i := 4) rfl (by omega)
      by_cases h1 : q = 1
      · subst h1
        exact ⟨rfl, rfl, .inr ⟨_, BitVec.ofNat 16 (numAt b 4 2), rfl, rfl, hfields (.version _) hbase⟩⟩
      · obtain rfl : q = 0 := by omega
        exact ⟨rfl, rfl, .inl (hfields (.version _) hbase)⟩
    next => cases h
  · split at h
    next reason hreason =>
      split at h
      next hlen =>
        cases h
        refine ⟨rfl, readyCode_of_reason hreason, .inl ?_⟩
        simp only [AirFrame.fields, hword (w := 24) (n := 3) rfl (i := 1) (by omega),
          hword (w := 16) (n := 2) (i := 4) rfl (by omega)]
        exact eq_map_contentAt hlen
      next => cases h
    next => cases h
  · split at h
    next hg =>
      obtain ⟨rfl, h7, h23, hlen⟩ := hg
      cases h
      refine ⟨rfl, rfl, .inl ?_⟩
      have hcount : BitVec.ofNat 8 (b.drop 7).length = contentAt b 6 := by
        rw [List.length_drop, ← hlen, numAt_contentAt, BitVec.ofNat_toNat, BitVec.setWidth_eq]
      simp only [AirFrame.fields, hword (w := 24) (n := 3) rfl (i := 1) (by omega), hcount]
      exact (List.take_append_drop 7 b).symm.trans (congrArg (· ++ b.drop 7) (take_drop_eq_map (i := 0) (by omega)))
    next => cases h
  · split at h
    next hg =>
      obtain ⟨rfl, hlen⟩ := hg
      cases h
      refine ⟨rfl, rfl, .inl ?_⟩
      simp only [AirFrame.fields, hword (w := 24) (n := 3) rfl (i := 1) (by omega)]
      exact eq_map_contentAt hlen
    next => cases h
  · split at h
    next hg =>
      obtain ⟨rfl, hlen⟩ := hg
      cases h
      refine ⟨rfl, rfl, .inl ?_⟩
      simp only [AirFrame.fields, hword (w := 24) (n := 3) rfl (i := 1) (by omega),
        hword (w := 16) (n := 2) (i := 4) rfl (by omega), hword (w := 16) (n := 2) (i := 6) rfl (by omega)]
      exact eq_map_contentAt hlen
    next => cases h
  · split at h
    next hg =>
      obtain ⟨rfl, hlen⟩ := hg
      cases h
      refine ⟨rfl, rfl, .inl ?_⟩
      simp only [AirFrame.fields, hword (w := 24) (n := 3) rfl (i := 1) (by omega),
        hword (w := 16) (n := 2) (i := 4) rfl (by omega)]
      exact eq_map_contentAt hlen
    next => cases h
  · split at h
    next hg =>
      obtain ⟨rfl, h10, h16⟩ := hg
      obtain ⟨pairs, hpairs, rfl⟩ := Option.map_eq_some_iff.mp h
      obtain ⟨hcount, hbytes⟩ := readPairs_iff.mp hpairs
      refine ⟨rfl, rfl, .inl ?_⟩
      have hbyte : BitVec.ofNat 8 pairs.length = contentAt b 5 := by
        rw [hcount, numAt_contentAt, BitVec.ofNat_toNat, BitVec.setWidth_eq]
      simp only [AirFrame.fields, hword (w := 32) (n := 4) rfl (i := 1) (by omega),
        hword (w := 16) (n := 2) (i := 8) rfl (by omega), hbyte, ← hbytes]
      exact (List.take_append_drop 10 b).symm.trans (congrArg (· ++ b.drop 10) (take_drop_eq_map (i := 0) (by omega)))
    next => cases h
  · cases h

end Sys2Proof.Machine
end


section
/-! A received frame and its checks (R104, R177): the header, the site code and the frame check around the fields. -/

namespace Sys2Proof.Machine

/-! ### The bytes around the fields -/

/-- The bytes that a frame check is computed over. -/
def framed (h n : Byte) (site : SiteCode) (fields : List Byte) : List Byte := h :: n :: (bytesOfBits 2 site ++ fields)

/-- A whole frame around its fields, with the check over all the bytes before it (12.1). -/
def frameOf (h n : Byte) (site : SiteCode) (fields : List Byte) : List Byte :=
  framed h n site fields ++ bytesOfBits 2 (crc16 (framed h n site fields))

section
variable {own : StationNo} {site : SiteCode} {h n : Byte} {fields : List Byte}

theorem framed_length : (framed h n site fields).length = fields.length + 4 := by
  simp [framed]
  omega

theorem frameOf_length : (frameOf h n site fields).length = fields.length + 6 := by
  rw [frameOf, List.length_append, framed_length, Laws.bytesOfBits_length]

theorem checkedBytes_frameOf : checkedBytes (frameOf h n site fields) = framed h n site fields := by
  rw [checkedBytes, frameOf_length, frameOf]
  exact List.take_left' (by rw [framed_length]; omega)

/-- A frame whose check, site code and size are good is received as what its fields are read as. -/
theorem receive_frameOf (hn : n.toNat = fields.length + 4) :
    receive own site (frameOf h n site fields) =
      (readFields (h.toNat / 16) (h.toNat % 16) fields).filter (fun f => f.admissible own) := by
  have hcheck : numAt (frameOf h n site fields) ((frameOf h n site fields).length - 2) 2 =
      (crc16 (framed h n site fields)).toNat := by
    rw [frameOf_length]
    have := numAt_append_right (bs := framed h n site fields) (i := fields.length + 4) framed_length
      (bytesOfBits 2 (crc16 (framed h n site fields))) 0 2
    exact this.trans (numAt_bytesOfBits_end _ (by omega))
  have hsite : numAt (frameOf h n site fields) 2 2 = site.toNat := natOfBytes_bytesOfBits (n := 2) site (by omega)
  have hsize : numAt (frameOf h n site fields) 1 1 = (frameOf h n site fields).length - 2 := by
    rw [frameOf_length]
    exact (numAt_contentAt _ 1).trans hn
  have hhead : numAt (frameOf h n site fields) 0 1 = h.toNat := numAt_contentAt _ 0
  have hlen : ¬ (frameOf h n site fields).length < 6 := by
    rw [frameOf_length]
    omega
  unfold receive
  rw [if_neg hlen, checkedBytes_frameOf, hcheck, if_neg (not_not_intro rfl), hsite, if_neg (not_not_intro rfl), hsize,
    if_neg (not_not_intro rfl), hhead, show (framed h n site fields).drop 4 = fields from rfl]
  cases readFields (h.toNat / 16) (h.toNat % 16) fields with
  | none => rfl
  | some f => exact (Option.filter_some ..).symm
end

/-- A word, written as the bytes that it was read from. -/
theorem bytesOfBits_word {w n i : Nat} {x : BitVec w} {bs : List Byte} (h : numAt bs i n = x.toNat) (hw : w = 8 * n)
    (hi : i + n ≤ bs.length) : bytesOfBits n x = (List.range n).map (fun j => contentAt bs (i + j)) := by
  rw [← bytesOfBits_numAt hw hi, h, BitVec.ofNat_toNat, BitVec.setWidth_eq]

/-- Bytes that are received are a frame of the own site whose size and check are good (R104, checks 1 and 2). -/
theorem frameOf_of_receive {own : StationNo} {site : SiteCode} {bs : List Byte} {f : AirFrame}
    (hf : receive own site bs = some f) : ∃ h n fields, bs = frameOf h n site fields ∧ n.toNat = fields.length + 4 := by
  unfold receive at hf
  split at hf
  · cases hf
  next hlen =>
    split at hf
    · cases hf
    next hcheck =>
      split at hf
      · cases hf
      next hsite =>
        split at hf
        · cases hf
        next hsize =>
          rw [Classical.not_not] at hcheck hsite hsize
          have hframed : checkedBytes bs = framed (contentAt bs 0) (contentAt bs 1) site ((checkedBytes bs).drop 4) := by
            rw [framed, bytesOfBits_word hsite rfl (by omega)]
            have htake : (checkedBytes bs).take 4 = (List.range 4).map (fun j => contentAt bs (0 + j)) := by
              rw [checkedBytes, List.take_take, Nat.min_eq_left (by omega)]
              exact take_drop_eq_map (i := 0) (n := 4) (by omega)
            exact (List.take_append_drop 4 _).symm.trans (congrArg (· ++ (checkedBytes bs).drop 4) htake)
          refine ⟨contentAt bs 0, contentAt bs 1, (checkedBytes bs).drop 4, ?_, ?_⟩
          · rw [frameOf, ← hframed, bytesOfBits_word hcheck.symm rfl (by omega), ← take_drop_eq_map (by omega)]
            rw [List.take_of_length_le (by rw [List.length_drop]; omega)]
            exact (List.take_append_drop _ bs).symm
          · rw [← numAt_contentAt, hsize, checkedBytes, List.length_drop, List.length_take]
            omega

/-! ### Admissible fields -/

theorem validStation_range {n : StationNo} : validStation n = true ↔ 1 ≤ n.toNat ∧ n.toNat ≤ 250 := by
  simp [validStation]

theorem validLabel_range {l : LabelAddr} : validLabel l = true ↔ 1 ≤ l.toNat ∧ l.toNat ≤ 16777214 := by
  simp [validLabel_iff, LabelAddr.wf]

/-- The size byte of an admissible frame is its size. -/
theorem fields_length_lt {f : AirFrame} {own : StationNo} (h : f.admissible own = true) : f.fields.length + 4 < 256 := by
  cases f with
  | frag x =>
    simp only [AirFrame.admissible, Bool.and_eq_true, decide_eq_true_iff] at h
    have := h.1.1.1
    simp [AirFrame.fields]
    omega
  | tally x =>
    simp only [AirFrame.admissible, Bool.and_eq_true, decide_eq_true_iff] at h
    have := h.1.1
    simp [AirFrame.fields, pairBytes_length]
    omega
  | call | offer | ready | fragAck | done | refuse => simp [AirFrame.fields]

theorem kind_qualifier_lt (f : AirFrame) : f.kindCode < 16 ∧ f.qualifier < 16 := by
  cases f with
  | offer x => cases hx : x.base <;> simp [AirFrame.kindCode, AirFrame.qualifier, hx]
  | ready x => cases hx : x.reason <;> simp [AirFrame.kindCode, AirFrame.qualifier, hx, readyCode]
  | call | frag | fragAck | done | refuse | tally => simp [AirFrame.kindCode, AirFrame.qualifier]

/-- Settles O47: the header, the site and the check around the fields, and the fields kind by kind. -/
theorem airFramesReadBack : Obligations.AirFramesReadBack := by
  unfold Obligations.AirFramesReadBack
  refine ⟨fun f own site h => ?_, fun f own site bs h => ?_, fun f own => ?_⟩
  · obtain ⟨hk, hq⟩ := kind_qualifier_lt f
    have hhead : (BitVec.ofNat 8 (f.kindCode * 16 + f.qualifier)).toNat = f.kindCode * 16 + f.qualifier :=
      ofNat_toNat_of_lt (by omega)
    refine (receive_frameOf (ofNat_toNat_of_lt (fields_length_lt h))).trans ?_
    rw [hhead, show (f.kindCode * 16 + f.qualifier) / 16 = f.kindCode by omega,
      show (f.kindCode * 16 + f.qualifier) % 16 = f.qualifier by omega, readFields_fields h, Option.filter_some, if_pos h]
  · obtain ⟨head, n, fields, rfl, hn⟩ := frameOf_of_receive h
    rw [receive_frameOf hn, Option.filter_eq_some_iff] at h
    obtain ⟨hread, hadm⟩ := h
    obtain ⟨hk, hq, hwrote⟩ := readFields_wrote hread
    have hhead : head = BitVec.ofNat 8 (f.kindCode * 16 + f.qualifier) := by
      refine BitVec.eq_of_toNat_eq ?_
      rw [ofNat_toNat_of_lt (by omega)]
      omega
    have hsize : n = BitVec.ofNat 8 (fields.length + 4) := by
      rw [← hn, BitVec.ofNat_toNat, BitVec.setWidth_eq]
    refine ⟨hadm, ?_⟩
    subst hhead hsize
    rcases hwrote with rfl | ⟨x, v, rfl, hbase, rfl⟩
    · exact .inl rfl
    · refine .inr ⟨x, v, rfl, hbase, ?_⟩
      rw [show (AirFrame.offer x).qualifier = 1 by simp [AirFrame.qualifier, hbase]]
      rfl
  · cases f with
    | call x => exact validLabel_range
    | offer x => simp [AirFrame.admissible, validStation_range, validLabel_range, and_assoc]
    | ready x => simp [AirFrame.admissible, validStation_range, validLabel_range]
    | frag x => simp [AirFrame.admissible, validStation_range, validLabel_range, and_assoc]
    | fragAck x => simp [AirFrame.admissible, validStation_range, validLabel_range]
    | done x => simp [AirFrame.admissible, validStation_range, validLabel_range]
    | refuse x => simp [AirFrame.admissible, validStation_range, validLabel_range]
    | tally x => simp [AirFrame.admissible, validStation_range, and_assoc]

end Sys2Proof.Machine
end


section
/-! What the blocks do whatever the severities: a fault's severity decides nothing but whether a halt is handed on
(R141, R147). The operations of the Engine, which also move the exchange on the air. -/

namespace Sys2Proof.Machine

/-- The state with another halt waiting and other severities. -/
def recast (_ : Unit) (b : Bool) (v : PerKind Severity) (s : State) : State := dress ⟨s.dialogue, s.carriers⟩ b v s

/-- The operation does the same under any severities, and hands on the halt of the kinds that it latches. -/
abbrev SeverityBlind (F : State → State) : Prop := BlindTo recast F

theorem Indifferent.severityBlind {F : State → State} (hF : Indifferent F) : SeverityBlind F := by
  intro s
  obtain ⟨k, h⟩ := hF s
  have hd : (F s).dialogue = s.dialogue := by
    have := h.dressed ⟨s.dialogue, s.carriers⟩ s.halt s.config.policy.severity
    rw [dress_self] at this
    rw [this]
    rfl
  refine ⟨k, h.latched, h.opState, fun _ b v => (h.dressed ⟨s.dialogue, s.carriers⟩ b v).trans ?_⟩
  unfold recast
  rw [hd, h.carriers]

/-- A change that latches nothing and does not read the severities. -/
theorem SeverityBlind.edit {F : State → State} (hl : ∀ s, (F s).latched = s.latched)
    (ho : ∀ s, (F s).opState = s.opState) (h : ∀ b v s, F (recast () b v s) = recast () b v (F s)) : SeverityBlind F :=
  .silent hl ho fun _ b v s => h b v s

/-- An operation that goes by what the severities do not change. -/
theorem SeverityBlind.on {γ : Type} {g : State → γ} (hg : ∀ b v s, g (recast () b v s) = g s) {F : γ → State → State}
    (h : ∀ c, SeverityBlind (F c)) : SeverityBlind (fun s => F (g s) s) := by
  intro s
  obtain ⟨k, hk⟩ := h (g s) s
  exact ⟨k, hk.congr rfl fun _ b v => by rw [hg]⟩

/-- A choice between two operations, by a condition that the severities do not change. -/
theorem SeverityBlind.choice {p : State → Prop} [DecidablePred p] (hp : ∀ b v s, p (recast () b v s) ↔ p s)
    {F G : State → State} (hF : SeverityBlind F) (hG : SeverityBlind G) :
    SeverityBlind (fun s => if p s then F s else G s) := by
  intro s
  by_cases hs : p s
  · obtain ⟨k, hk⟩ := hF s
    exact ⟨k, hk.congr (if_pos hs) fun _ b v => if_pos ((hp b v s).mpr hs)⟩
  · obtain ⟨k, hk⟩ := hG s
    exact ⟨k, hk.congr (if_neg hs) fun _ b v => if_neg (mt (hp b v s).mp hs)⟩

/-- An operation that does the same as a blind one in every case of what the severities do not change. -/
theorem SeverityBlind.cases {γ : Type} {g : State → γ} (hg : ∀ b v s, g (recast () b v s) = g s) {F : State → State}
    (h : ∀ c, ∃ G, SeverityBlind G ∧ ∀ s, g s = c → F s = G s) : SeverityBlind F := by
  intro s
  obtain ⟨G, hG, heq⟩ := h (g s)
  obtain ⟨k, hk⟩ := hG s
  exact ⟨k, hk.congr (heq s rfl) fun _ b v => heq _ (hg b v s)⟩

theorem SeverityBlind.id : SeverityBlind (fun s => s) := BlindTo.id

theorem SeverityBlind.comp {F G : State → State} (hF : SeverityBlind F) (hG : SeverityBlind G) :
    SeverityBlind (fun s => F (G s)) := BlindTo.comp hF hG

theorem SeverityBlind.foldl {α : Type} {f : State → α → State} (h : ∀ a, SeverityBlind (fun s => f s a)) (as : List α) :
    SeverityBlind (fun s => as.foldl f s) := BlindTo.foldl h as

theorem SeverityBlind.eitherOrder {F G : State → State} (hF : SeverityBlind F) (hG : SeverityBlind G) :
    SeverityBlind (fun s => Machine.eitherOrder (F s) (G s)) :=
  BlindTo.eitherOrder (fun _ _ _ _ => rfl) (fun _ _ _ _ => rfl) (fun _ _ _ _ _ => rfl) hF hG

/-! ### The end of a transfer -/

theorem endTransfer_blind (p : Phase) (c : TransferContext) (o : TransferOutcome) (held : Version) :
    SeverityBlind (endTransfer p c o held) := by
  refine .cases (g := fun s => s.transmitting.isSome) (fun _ _ _ => rfl) fun on => ?_
  have hreturn : SeverityBlind (fun s => toListening (credit (estimateOf c.face - coveredAtEnd p c on) s)) :=
    .edit (fun _ => rfl) (fun _ => rfl) fun _ _ _ => rfl
  exact ⟨_, hreturn.comp (transferOutcome_indifferent c.slot o held).severityBlind, fun s hs => by
    rw [endTransfer, ← hs]⟩

theorem sendFragment_blind (c : TransferContext) (r : Bool) : SeverityBlind (sendFragment c r) :=
  .edit (fun _ => rfl) (fun _ => rfl) fun _ _ _ => rfl

theorem waitExpires_blind (p : Phase) (c : TransferContext) : SeverityBlind (waitExpires p c) := by
  cases p with
  | awaitReady => exact endTransfer_blind .awaitReady c .noAnswer 0
  | sending r => exact .id
  | awaitAck =>
    have hpaid : SeverityBlind (deduct c.fragmentTime) := .edit (fun _ => rfl) (fun _ => rfl) fun _ _ _ => rfl
    exact SeverityBlind.choice (p := fun s => c.resends < 2 ∧ covers c.fragmentTime s = true) (fun _ _ _ => Iff.rfl)
      ((sendFragment_blind { c with resends := c.resends + 1 } true).comp hpaid) (endTransfer_blind .awaitAck c .lost 0)
  | awaitDone => exact endTransfer_blind .awaitDone c .uncertain 0

theorem setDialogue_blind (d : Dialogue) : SeverityBlind (fun s => { s with dialogue := d }) :=
  .edit (fun _ => rfl) (fun _ => rfl) fun _ _ _ => rfl

theorem deadline_blind (p : Phase) (c : TransferContext) : SeverityBlind (deadline p c) := by
  unfold deadline
  cases c.wait with
  | none => exact .id
  | some w =>
    exact SeverityBlind.choice (p := fun _ => w.met = true) (fun _ _ _ => Iff.rfl) (setDialogue_blind _)
      (waitExpires_blind p c)

theorem unawaited_blind : SeverityBlind unawaited := by
  refine .cases (g := State.dialogue) (fun _ _ _ => rfl) fun d => ?_
  cases d with
  | listening | standingOff | tallying => exact ⟨_, .id, fun s hs => by simp only [unawaited, hs]⟩
  | transferring p c =>
    cases hw : c.wait with
    | none => exact ⟨_, .id, fun s hs => by simp only [unawaited, hs, hw]⟩
    | some w =>
      refine ⟨_, SeverityBlind.choice (p := fun _ => w.met = true) (fun _ _ _ => Iff.rfl)
        (SeverityBlind.choice (p := fun _ => w.passed = true) (fun _ _ _ => Iff.rfl) (waitExpires_blind p c)
          (setDialogue_blind (.transferring p { c with wait := some { w with met := false } }))) .id, fun s hs => by simp only [unawaited, hs, hw]⟩

theorem frameHeard_blind : SeverityBlind frameHeard := by
  refine .edit (fun s => ?_) (fun s => ?_) fun b v s => ?_
  all_goals simp only [frameHeard_eq]
  all_goals rfl

/-! ### The Change Book and the Roster -/

theorem confirm_blind (l : LabelAddr) (v : Version) (o : ClosingOutcome) (d : Deliverer) :
    SeverityBlind (confirm l v o d) := by
  refine .cases (g := fun s => s.entryOf l) (fun _ _ _ => rfl) fun x => ?_
  cases x with
  | none => exact ⟨_, .id, fun s hs => by simp only [confirm, hs]⟩
  | some e =>
    exact ⟨_, SeverityBlind.choice (p := fun _ => (e.isOpen && atLeast v e.target) = true) (fun _ _ _ => Iff.rfl)
      (enterClosing_indifferent e o d v).severityBlind .id, fun s hs => by simp only [confirm, hs]⟩

theorem yieldLabel_blind (l : LabelAddr) : SeverityBlind (yieldLabel l) := by
  refine .cases (g := fun s => s.entryOf l) (fun _ _ _ => rfl) fun x => ?_
  cases x with
  | none => exact ⟨_, .id, fun s hs => by simp only [yieldLabel, hs]⟩
  | some e =>
    have hyield : SeverityBlind (fun s => s.setEntry { e with state := .yielded (s.clock + 32) }) :=
      .edit (fun _ => rfl) (fun _ => rfl) fun _ _ _ => rfl
    exact ⟨_, SeverityBlind.choice (p := fun _ => e.isOpen = true) (fun _ _ _ => Iff.rfl) hyield .id, fun s hs => by
      simp only [yieldLabel, hs]⟩

theorem recheckModel_blind (l : LabelAddr) (m : BitVec 4) : SeverityBlind (recheckModel l m) := by
  refine .cases (g := fun s => s.entryOf l) (fun _ _ _ => rfl) fun x => ?_
  cases x with
  | none => exact ⟨_, .id, fun s hs => by simp only [recheckModel, hs]⟩
  | some e =>
    exact ⟨_, SeverityBlind.choice (p := fun _ => e.state = .waiting ∨ e.state = .held) (fun _ _ _ => Iff.rfl)
      (refit_indifferent m e).severityBlind .id, fun s hs => by simp only [recheckModel, hs]⟩

theorem modelChange_blind (f : CallFrame) : SeverityBlind (modelChange f) := by
  refine .cases (g := lastGroupOf f.label) (fun _ _ _ => rfl) fun g => ?_
  have hreport : SeverityBlind (fun s => eventReport (modelReport f s) s) :=
    (eventReport_indifferent (r := modelReport f) fun _ _ _ _ => rfl).severityBlind
  exact ⟨_, (recheckModel_blind f.label f.model).comp
    (hreport.comp (latch_indifferent .d202 f.label 0 g).severityBlind), fun s hs => by rw [modelChange, hs]⟩

theorem rosterCall_blind (f : CallFrame) (rssi : Int) (busy : Bool) : SeverityBlind (rosterCall f rssi busy) := by
  refine .cases (g := fun s => (s.recordOf f.label, decide (s.roster.length < slotCount), replaceable s))
    (fun _ _ _ => rfl) fun ⟨x, room, y⟩ => ?_
  cases x with
  | some r =>
    have hmove : SeverityBlind (fun s => s.moveToHead { r with
        model := f.model, held := f.held, battery := f.battery, signal := clampSignal rssi
        lastHeard := s.clock, calls := min (r.calls + 1) 65535, busy := busy }) :=
      .edit (fun _ => rfl) (fun _ => rfl) fun _ _ _ => rfl
    refine ⟨_, SeverityBlind.choice (p := fun _ => r.model = f.model) (fun _ _ _ => Iff.rfl) hmove
      ((modelChange_blind f).comp hmove), fun s hs => ?_⟩
    obtain ⟨hrecord, -⟩ := Prod.mk.inj hs
    simp only [rosterCall, hrecord]
  | none =>
    have hnew : ∀ (slot : List RosterRecord → Nat) (rs : List RosterRecord → List RosterRecord), SeverityBlind (fun s => { s with
        roster := newRecord (slot s.roster) f rssi busy s.clock :: rs s.roster }) := fun slot rs =>
      .edit (fun _ => rfl) (fun _ => rfl) fun _ _ _ => rfl
    cases room with
    | true =>
      refine ⟨_, hnew rosterFree id, fun s hs => ?_⟩
      obtain ⟨hrecord, hroom, -⟩ := by simpa only [Prod.mk.injEq, decide_eq_true_iff] using hs
      simp only [rosterCall, hrecord, if_pos hroom, id]
    | false =>
      cases y with
      | some old =>
        refine ⟨_, hnew (fun _ => old.slot) (without old.label), fun s hs => ?_⟩
        obtain ⟨hrecord, hroom, hold⟩ := by simpa only [Prod.mk.injEq, decide_eq_false_iff_not] using hs
        simp only [rosterCall, hrecord, if_neg hroom, hold]
      | none =>
        refine ⟨_, .id, fun s hs => ?_⟩
        obtain ⟨hrecord, hroom, hold⟩ := by simpa only [Prod.mk.injEq, decide_eq_false_iff_not] using hs
        simp only [rosterCall, hrecord, if_neg hroom, hold]

theorem rosterHeard_blind (l : LabelAddr) (v : Option Version) (rssi : Int) : SeverityBlind (rosterHeard l v rssi) := by
  refine .cases (g := fun s => s.recordOf l) (fun _ _ _ => rfl) fun x => ?_
  cases x with
  | none => exact ⟨_, .id, fun s hs => by simp only [rosterHeard, hs]⟩
  | some r =>
    exact ⟨_, .edit (F := fun s => s.moveToHead { r with
      held := v.getD r.held, signal := clampSignal rssi, lastHeard := s.clock }) (fun _ => rfl) (fun _ => rfl)
      fun _ _ _ => rfl, fun s hs => by simp only [rosterHeard, hs]⟩

theorem rosterTally_blind (l : LabelAddr) (v : Version) : SeverityBlind (rosterTally l v) :=
  .edit (fun _ => rfl) (fun _ => rfl) fun _ _ _ => rfl

theorem joinTally_blind (p : LabelAddr × Version) : SeverityBlind (joinTally p) :=
  SeverityBlind.choice (p := fun s => p ∈ s.tally) (fun _ _ _ => Iff.rfl) .id
    (.edit (F := fun s => { s with tally := (if s.tally.length < 64 then s.tally else s.tally.drop 1) ++ [p] })
      (fun _ => rfl) (fun _ => rfl) fun _ _ _ => rfl)

/-! ### A frame heard -/

theorem enterStandoff_blind (c : TransferContext) : SeverityBlind (enterStandoff c) :=
  SeverityBlind.choice (p := fun s => s.carriers = 0) (fun _ _ _ => Iff.rfl) (setDialogue_blind (.standingOff c)) .id

theorem budgetTest_blind (e : Entry) (face : List Byte) (rssi : Int) : SeverityBlind (budgetTest e face rssi) := by
  refine .cases (g := fun s => (covers (offerNeed e.lane (estimateOf face) s) s, contextFor e face rssi s))
    (fun _ _ _ => rfl) fun ⟨covered, c⟩ => ?_
  refine ⟨_, SeverityBlind.choice (p := fun _ => covered = true) (fun _ _ _ => Iff.rfl) (enterStandoff_blind c) .id,
    fun s hs => ?_⟩
  obtain ⟨hcovered, hcontext⟩ := Prod.mk.inj hs
  rw [budgetTest, hcovered, hcontext]

theorem offerDecision_blind (f : CallFrame) (rssi : Int) (e : Entry) : SeverityBlind (offerDecision f rssi e) := by
  refine .cases (g := fun s => s.modelRecord f.model) (fun _ _ _ => rfl) fun m => ?_
  unfold offerDecision
  by_cases hbase : baseMatches e.base f.held = true
  · cases hfit : fit e.face m with
    | none =>
      refine ⟨_, (enterHeld_indifferent e).severityBlind, fun s hs => ?_⟩
      rw [if_pos hbase]
      simp only [hs, hfit]
    | some x =>
      obtain ⟨d, n⟩ := x
      refine ⟨_, (budgetTest_blind (withFit n e) (encodeFace d) rssi).comp (setEntry_indifferent (withFit n e)).severityBlind,
        fun s hs => ?_⟩
      rw [if_pos hbase]
      simp only [hs, hfit]
  · exact ⟨_, (enterClosing_indifferent e .mismatch .label f.held).severityBlind, fun s _ => if_neg hbase⟩

theorem thirdDecision_blind (f : CallFrame) (rssi : Int) : SeverityBlind (thirdDecision f rssi) := by
  refine .cases (g := fun s => s.entryOf f.label) (fun _ _ _ => rfl) fun x => ?_
  cases x with
  | none => exact ⟨_, .id, fun s hs => by simp only [thirdDecision, hs]⟩
  | some e =>
    exact ⟨_, SeverityBlind.choice (p := fun s => s.opState = .run ∧ f.flags.getLsbD 0 = true ∧ e.state = .waiting)
      (fun _ _ _ => Iff.rfl) (offerDecision_blind f rssi e) .id, fun s hs => by simp only [thirdDecision, hs]⟩

theorem evaluateCall_blind (f : CallFrame) (rssi : Int) : SeverityBlind (evaluateCall f rssi) := by
  refine .cases (g := fun s => s.entryOf f.label) (fun _ _ _ => rfl) fun x => ?_
  cases x with
  | none => exact ⟨_, .id, fun s hs => by simp only [evaluateCall, hs]⟩
  | some e =>
    exact ⟨_, SeverityBlind.choice (p := fun _ => (e.isOpen && atLeast f.held e.target) = true) (fun _ _ _ => Iff.rfl)
      (enterClosing_indifferent e .seenCurrent .label f.held).severityBlind
      ((thirdDecision_blind f rssi).comp (heldDecision_indifferent f e).severityBlind),
      fun s hs => by simp only [evaluateCall, hs]⟩

theorem callRest_blind (f : CallFrame) (rssi : Int) : SeverityBlind (callRest f rssi) :=
  SeverityBlind.choice (p := fun s => s.isListening = true) (fun _ _ _ => Iff.rfl) (evaluateCall_blind f rssi)
    unawaited_blind

theorem callReceived_blind (f : CallFrame) (rssi : Int) : SeverityBlind (callReceived f rssi) := by
  refine .cases (g := State.isTransferring) (fun _ _ _ => rfl) fun busy => ?_
  exact ⟨_, (callRest_blind f rssi).comp (rosterCall_blind f rssi busy), fun s hs => by
    rw [callReceived, callRest, hs]⟩

theorem readyOverheard_blind (f : ReadyFrame) : SeverityBlind (readyOverheard f) :=
  unawaited_blind.comp (SeverityBlind.choice (p := fun s => f.reason = .current ∧ s.inTransferWith f.label = false)
    (fun _ _ _ => Iff.rfl) (confirm_blind f.label f.held .seenCurrent .label) .id)

theorem readyAwaited_blind (f : ReadyFrame) (c : TransferContext) : SeverityBlind (readyAwaited f c) := by
  unfold readyAwaited
  cases f.reason with
  | ready => exact sendFragment_blind _ _
  | current => exact endTransfer_blind _ _ _ _
  | mismatch => exact endTransfer_blind _ _ _ _
  | lowPower => exact endTransfer_blind _ _ _ _

/-- What a READY does after the Roster (R87, R88). -/
def readyRest (f : ReadyFrame) (t : State) : State :=
  match t.dialogue with
  | .transferring .awaitReady c =>
    if f.label = c.label ∧ f.station = t.config.identity.station then readyAwaited f c t else readyOverheard f t
  | _ => readyOverheard f t

theorem readyRest_blind (f : ReadyFrame) : SeverityBlind (readyRest f) := by
  refine .cases (g := State.dialogue) (fun _ _ _ => rfl) fun d => ?_
  cases d with
  | transferring p c =>
    cases p with
    | awaitReady =>
      exact ⟨_, SeverityBlind.choice (p := fun s => f.label = c.label ∧ f.station = s.config.identity.station)
        (fun _ _ _ => Iff.rfl) (readyAwaited_blind f c) (readyOverheard_blind f), fun s hs => by
          simp only [readyRest, hs]⟩
    | sending | awaitAck | awaitDone => exact ⟨_, readyOverheard_blind f, fun s hs => by simp only [readyRest, hs]⟩
  | listening | standingOff | tallying => exact ⟨_, readyOverheard_blind f, fun s hs => by simp only [readyRest, hs]⟩

theorem readyReceived_blind (f : ReadyFrame) (rssi : Int) : SeverityBlind (readyReceived f rssi) :=
  (readyRest_blind f).comp (rosterHeard_blind f.label (some f.held) rssi)

theorem ackAwaited_blind (c : TransferContext) : SeverityBlind (ackAwaited c) :=
  SeverityBlind.choice (p := fun _ => c.fragment < fragmentCount c.face) (fun _ _ _ => Iff.rfl) (sendFragment_blind _ _)
    (setDialogue_blind _)

theorem fragAckReceived_blind (f : FragAckFrame) : SeverityBlind (fragAckReceived f) := by
  refine .cases (g := State.dialogue) (fun _ _ _ => rfl) fun d => ?_
  cases d with
  | transferring p c =>
    cases p with
    | awaitAck =>
      exact ⟨_, SeverityBlind.choice
        (p := fun s => f.label = c.label ∧ f.station = s.config.identity.station ∧ f.index.toNat = c.fragment)
        (fun _ _ _ => Iff.rfl) (ackAwaited_blind c) unawaited_blind, fun s hs => by simp only [fragAckReceived, hs]⟩
    | sending | awaitReady | awaitDone => exact ⟨_, unawaited_blind, fun s hs => by simp only [fragAckReceived, hs]⟩
  | listening | standingOff | tallying => exact ⟨_, unawaited_blind, fun s hs => by simp only [fragAckReceived, hs]⟩

theorem doneOverheard_blind (f : DoneFrame) : SeverityBlind (doneOverheard f) := by
  have hown : SeverityBlind (fun s => confirm f.label f.held .delivered s.own s) :=
    .cases (g := State.own) (fun _ _ _ => rfl) fun own => ⟨_, confirm_blind f.label f.held .delivered own, fun s hs => by
      rw [hs]⟩
  exact unawaited_blind.comp (SeverityBlind.choice (p := fun s => s.inTransferWith f.label = true)
    (fun _ _ _ => Iff.rfl) .id (SeverityBlind.choice (p := fun s => f.station = s.config.identity.station)
      (fun _ _ _ => Iff.rfl) ((joinTally_blind (f.label, f.held)).comp hown)
      (confirm_blind f.label f.held .peerDelivered (.station f.station))))

/-- What a DONE does after the Roster (R92, R112). -/
def doneRest (f : DoneFrame) (t : State) : State :=
  match t.endedBy f.label f.station with
  | some (p, c) => joinTally (c.label, c.target) (endTransfer p c .done f.held t)
  | none => doneOverheard f t

theorem doneRest_blind (f : DoneFrame) : SeverityBlind (doneRest f) := by
  refine .cases (g := fun s => s.endedBy f.label f.station) (fun _ _ _ => rfl) fun x => ?_
  cases x with
  | none => exact ⟨_, doneOverheard_blind f, fun s hs => by simp only [doneRest, hs]⟩
  | some pc =>
    exact ⟨_, (joinTally_blind (pc.2.label, pc.2.target)).comp (endTransfer_blind pc.1 pc.2 .done f.held),
      fun s hs => by simp only [doneRest, hs]⟩

theorem doneReceived_blind (f : DoneFrame) (rssi : Int) : SeverityBlind (doneReceived f rssi) :=
  (doneRest_blind f).comp (rosterHeard_blind f.label (some f.held) rssi)

theorem endBadFace_blind (p : Phase) (c : TransferContext) : SeverityBlind (endBadFace p c) := by
  refine .cases (g := groupAt c.slot) (fun _ _ _ => rfl) fun g => ?_
  have hfault : SeverityBlind (latchBadFace c g) := (latch_indifferent .d204 c.label 0 g).severityBlind
  have hend := endTransfer_blind p c .badFace 0
  exact ⟨_, SeverityBlind.eitherOrder (hend.comp hfault) (hfault.comp hend), fun s hs => by rw [endBadFace, hs]⟩

/-- What a REFUSE does after the Roster (R92, R113). -/
def refuseRest (f : RefuseFrame) (t : State) : State :=
  match t.endedBy f.label f.station with
  | some (p, c) => endBadFace p c t
  | none => unawaited t

theorem refuseRest_blind (f : RefuseFrame) : SeverityBlind (refuseRest f) := by
  refine .cases (g := fun s => s.endedBy f.label f.station) (fun _ _ _ => rfl) fun x => ?_
  cases x with
  | none => exact ⟨_, unawaited_blind, fun s hs => by simp only [refuseRest, hs]⟩
  | some pc => exact ⟨_, endBadFace_blind pc.1 pc.2, fun s hs => by simp only [refuseRest, hs]⟩

theorem refuseReceived_blind (f : RefuseFrame) (rssi : Int) : SeverityBlind (refuseReceived f rssi) :=
  (refuseRest_blind f).comp (rosterHeard_blind f.label none rssi)

theorem tallyPair_blind (sender : StationNo) (p : LabelAddr × Version) : SeverityBlind (tallyPair sender p) := by
  unfold tallyPair
  have hpair := SeverityBlind.choice (p := fun s => s.inTransferWith p.1 = true) (fun _ _ _ => Iff.rfl) .id
    (confirm_blind p.1 p.2 .peerDelivered (.station sender))
  exact SeverityBlind.choice (p := fun _ => validLabel p.1 = true) (fun _ _ _ => Iff.rfl)
    (hpair.comp (rosterTally_blind p.1 p.2)) .id

theorem handleFrame_blind (f : AirFrame) (rssi : Int) : SeverityBlind (handleFrame f rssi) := by
  cases f with
  | call f => exact callReceived_blind f rssi
  | offer f => exact unawaited_blind.comp (yieldLabel_blind f.label)
  | ready f => exact readyReceived_blind f rssi
  | frag f => exact unawaited_blind
  | fragAck f => exact fragAckReceived_blind f
  | done f => exact doneReceived_blind f rssi
  | refuse f => exact refuseReceived_blind f rssi
  | tally f =>
    exact unawaited_blind.comp (SeverityBlind.foldl (f := fun t p => tallyPair f.sender p t) (tallyPair_blind f.sender) f.pairs)

end Sys2Proof.Machine
end


section
/-! A halt taken at a command's end, against the same command with every severity CONTINUE (R98, R141, R147). -/

namespace Sys2Proof.Machine

/-- A kind of severity STOP is latched. -/
def StopsIn (v : PerKind Severity) (u : State) : Prop := ∃ k : FaultKind, u.latched.get k = true ∧ v.get k = .stop

/-- `t` is `u`, or `u` with a halt taken, as the kinds latched in `u` say. -/
def HaltsAs (s u t : State) : Prop :=
  (s.opState = .halted ∨ ¬ StopsIn s.config.policy.severity u → t = u) ∧
  (s.opState ≠ .halted → StopsIn s.config.policy.severity u → HaltsWork u t)

/-- The operation halts the station as its kinds of severity STOP say, and otherwise acts as with every severity
CONTINUE. -/
def HaltsBySeverity (E : State → State) : Prop :=
  ∀ s, s.opState ≠ .starting → StopFaultHalts s → (E s).config = s.config →
    HaltsAs s { E (unstopped s) with config := s.config } (E s)

theorem not_starting_cases {s : State} (h : s.opState ≠ .starting) :
    (s.opState = .idle ∨ s.opState = .run ∨ s.opState = .paused) ∨ s.opState = .halted := by
  cases ho : s.opState <;> simp_all

/-! ### The cut (R99, R128) -/

/-- The airtime of a frame that a cut finds on the air. -/
theorem coveredAtEnd_cut (p : Phase) (c : TransferContext) : coveredAtEnd p c true = c.covered + cutAirtime c p := by
  cases p with
  | sending r =>
    cases r with
    | true => rfl
    | false =>
      simp only [coveredAtEnd, cutAirtime, TransferContext.fragmentTime, fragAirtime, airtime, fragmentPayload]
      rw [if_pos trivial]
      omega
  | awaitReady | awaitAck | awaitDone => simp [coveredAtEnd, cutAirtime, offerAirtime, airtime]

theorem coveredAtEnd_none (p : Phase) (c : TransferContext) : coveredAtEnd p c false = c.covered := by
  cases p with
  | sending r => cases r <;> rfl
  | awaitReady | awaitAck | awaitDone => rfl

/-- What a cut covers: the frame on the air whole, or, before the OFFER has been sent, perhaps none of it. -/
theorem coveredAtEnd_airAtCut (p : Phase) (c : TransferContext) (s : State) :
    coveredAtEnd p c (airAtCut p s).transmitting.isSome =
        c.covered + (if s.transmitting = none then 0 else cutAirtime c p) ∨
      (p = .awaitReady ∧ s.transmitting ≠ none ∧ coveredAtEnd p c (airAtCut p s).transmitting.isSome = c.covered + 0) := by
  cases hx : s.transmitting with
  | none =>
    left
    have : (airAtCut p s).transmitting = none := by
      unfold airAtCut
      split
      · rw [if_neg (by simp [hx]), hx]
      · exact hx
      · exact hx
      · exact hx
    rw [this, if_pos rfl]
    exact coveredAtEnd_none p c
  | some f =>
    rw [if_neg (by simp)]
    cases p with
    | awaitReady =>
      cases hcut : Config.cutAtStart s.choices with
      | true => exact .inr ⟨rfl, by simp, by simp [airAtCut, hx, hcut, coveredAtEnd]⟩
      | false =>
        left
        rw [← coveredAtEnd_cut]
        simp [airAtCut, hx, hcut]
    | sending r | awaitAck | awaitDone =>
      left
      rw [← coveredAtEnd_cut]
      simp [airAtCut, hx]

/-! ### A halt taken -/

/-- What the book does with a transfer that is cut off (R57, R98). -/
theorem transferOutcome_cutOff (slot : Nat) (s : State) : ∃ book reports seq latched log h,
    transferOutcome slot .cutOff 0 s = { s with
      book := book, reports := reports, nextSeq := seq, latched := latched, firstFault := log, halt := h } ∧
    ∀ e, s.entryAt slot = some e →
      ReturnsToWaiting s (transferOutcome slot .cutOff 0 s) { e with lastOutcome := some .cutOff } ∧
      Latches s (transferOutcome slot .cutOff 0 s)
        ((waitingLate s { e with lastOutcome := some .cutOff }).map (lateFault s)) := by
  cases he : s.entryAt slot with
  | none =>
    refine ⟨s.book, s.reports, s.nextSeq, s.latched, s.firstFault, s.halt, ?_, fun _ hx => absurd hx (by simp)⟩
    unfold transferOutcome
    rw [he]
  | some e =>
    obtain ⟨ha, hb, hc⟩ := returnToWaiting_returns { e with lastOutcome := some .cutOff } s
    rw [(transferOutcome_of_entry he .cutOff 0).trans
      (show _ = returnToWaiting { e with lastOutcome := some .cutOff } s from rfl)]
    generalize returnToWaiting { e with lastOutcome := some .cutOff } s = a at ha hb hc
    refine ⟨a.book, a.reports, a.nextSeq, a.latched, a.firstFault, a.halt, ?_, fun x hx => ?_⟩
    · have hframe := ha.frame
      rwa [hc] at hframe
    · cases hx
      exact ⟨⟨hb, ha.queues⟩, ha.latches⟩

/-- A transfer cut off at a command's end. -/
theorem cutOff_haltsWork {s : State} {p : Phase} {c : TransferContext} (hd : s.dialogue = .transferring p c) :
    HaltsWork { s with halt := false, quietWait := quietAfter s }
      (settleQuiet { endTransfer p c .cutOff 0 (airAtCut p { s with opState := .halted }) with halt := false }) := by
  have hsent := coveredAtEnd_airAtCut p c { s with opState := .halted }
  obtain ⟨x, n, hair⟩ : ∃ x n, airAtCut p { s with opState := .halted } =
      { s with opState := .halted, transmitting := x, choices := n } := ⟨_, _, airAtCut_eq p { s with opState := .halted }⟩
  rw [hair] at hsent ⊢
  obtain ⟨book, reports, seq, latched, log, h, hout, hback⟩ :=
    transferOutcome_cutOff c.slot { s with opState := .halted, transmitting := x, choices := n }
  rw [hout] at hback
  unfold endTransfer
  dsimp only
  rw [hout, settleQuiet_halted rfl]
  refine ⟨rfl, rfl, rfl, rfl, rfl, fun hn => ?_, fun p' c' e hd' he => ?_⟩
  · unfold State.isTransferring at hn
    simp only [hd] at hn
    cases hn
  · cases hd.symm.trans hd'
    obtain ⟨hreturn, hlatch⟩ := hback e he
    refine ⟨hreturn, hlatch, ?_⟩
    rcases hsent with hs | ⟨hp, hx, hs⟩
    · left
      change min _ _ = _
      rw [hs]
      rfl
    · right
      refine ⟨hp, hx, ?_⟩
      change min _ _ = _
      rw [hs]
      rfl

/-- The end of a command that halts the station, against the state it would have left without the halt. -/
theorem settle_haltsWork {s : State} (h : s.halt = true)
    (ho : s.opState = .idle ∨ s.opState = .run ∨ s.opState = .paused) :
    HaltsWork { s with halt := false, quietWait := quietAfter s } (settle s) := by
  rw [settle_halts h ho]
  by_cases hd : ∃ p c, s.dialogue = .transferring p c
  · obtain ⟨p, c, hd⟩ := hd
    rw [cutWork_transferring (s := { s with opState := .halted }) hd]
    exact cutOff_haltsWork hd
  · have hd : ∀ p c, s.dialogue ≠ .transferring p c := fun p c h => hd ⟨p, c, h⟩
    rw [cutWork_other (s := { s with opState := .halted }) hd, settleQuiet_halted rfl]
    exact ⟨rfl, rfl, rfl, rfl, rfl, fun _ => ⟨rfl, rfl, ⟨rfl, rfl⟩, ⟨rfl, rfl⟩, rfl⟩, fun p c _ h => absurd h (hd p c)⟩

/-! ### Commands, by their form -/

theorem unstopped_eq (s : State) : unstopped s =
    recast () s.halt ⟨.continue_, .continue_, .continue_, .continue_, .continue_, .continue_⟩ s := rfl

/-- A state is its own under its own severities. -/
theorem recast_self (s : State) : recast () s.halt s.config.policy.severity s = s := rfl

theorem settle_config (s : State) : (settle s).config = s.config := by
  obtain ⟨u, _, _, _, _, _, _, ⟨_, _, _, _, _, _, _, _, rfl⟩, heq⟩ := settle_changes s
  rw [heq]

/-- The kinds latched are those that were and those taken. -/
theorem get_foldl_insert {k : FaultKind} : ∀ {ks : List FaultKind} {p : PerKind Bool},
    (ks.foldl PerKind.insert p).get k = true ↔ p.get k = true ∨ k ∈ ks
  | [], p => by simp
  | x :: ks, p => by
    rw [List.foldl_cons, get_foldl_insert, PerKind.get_insert, Bool.or_eq_true, decide_eq_true_iff, List.mem_cons]
    exact (or_congr_left or_comm).trans or_assoc

/-- The halt that an operation leaves, outside STARTING. -/
theorem haltAfter_iff {kinds : List FaultKind} {v : PerKind Severity} {o : OpState} (ho : o ≠ .starting) :
    haltAfter false kinds v o = true ↔ ∃ k ∈ kinds, v.get k = .stop := by
  simp [haltAfter, ho]

/-- An operation that does the same under any severities, and then the end of the command. -/
theorem SeverityBlind.settles {F : State → State} (hF : SeverityBlind F) : HaltsBySeverity (fun s => settle (F s)) := by
  intro s hs hf hc
  obtain ⟨hclear, hstop, -⟩ := hf
  obtain ⟨k, h⟩ := hF s
  have hc : (F s).config = s.config := (settle_config (F s)).symm.trans hc
  change HaltsAs s { settle (F (unstopped s)) with config := s.config } (settle (F s))
  have hhalt : (F s).halt = haltAfter false k s.config.policy.severity s.opState := by
    have hown := h.dressed () s.halt s.config.policy.severity
    rw [recast_self, hclear] at hown
    rw [hown]
    rfl
  have hun : settle (F (unstopped s)) =
      { recast () false ⟨.continue_, .continue_, .continue_, .continue_, .continue_, .continue_⟩ (F s) with
        quietWait := quietAfter (F s) } := by
    have hnone : haltAfter false k ⟨.continue_, .continue_, .continue_, .continue_, .continue_, .continue_⟩ s.opState =
        false := by
      rw [Bool.eq_false_iff, ne_eq, haltAfter_iff hs]
      rintro ⟨x, -, hx⟩
      cases x <;> cases hx
    rw [unstopped_eq, h.dressed, hclear, hnone]
    exact settle_of_no_halt rfl
  have hu : { settle (F (unstopped s)) with config := s.config } =
      { F s with halt := false, quietWait := quietAfter (F s) } := by
    rw [hun, ← hc]
    rfl
  rw [hu]
  refine ⟨fun hno => ?_, fun hrun hstops => ?_⟩
  · rcases not_starting_cases hs with ho | ho
    · have : (F s).halt = false := by
        rw [hhalt, Bool.eq_false_iff, ne_eq, haltAfter_iff hs]
        rintro ⟨x, hx, hv⟩
        rcases hno with hno | hno
        · simp [hno] at ho
        · exact hno ⟨x, by rw [h.latched]; exact get_foldl_insert.mpr (.inr hx), hv⟩
      rw [settle_of_no_halt this, ← this]
    · exact settle_of_halted (h.opState.trans ho)
  · obtain ⟨x, hx, hv⟩ := hstops
    have hnew : x ∈ k := by
      rw [h.latched] at hx
      refine (get_foldl_insert.mp hx).resolve_left fun hold => ?_
      rcases hstop (stopLatched_iff.mpr ⟨x, hold, hv⟩) with ho | ho
      · exact hrun ho
      · exact hs ho
    have ho := (not_starting_cases hs).resolve_right hrun
    rw [← h.opState] at ho
    exact settle_haltsWork (hhalt.trans ((haltAfter_iff hs).mpr ⟨x, hnew, hv⟩)) ho

/-- An operation that latches nothing and does not read the severities. -/
theorem HaltsBySeverity.quiet {E : State → State} (hE : ∀ s, E (unstopped s) = unstopped (E s))
    (hl : ∀ s, ∀ k, (E s).latched.get k = true → s.latched.get k = true) : HaltsBySeverity E := by
  intro s hs hf hc
  have hu : { E (unstopped s) with config := s.config } = E s := by
    rw [hE, ← hc]
    rfl
  rw [hu]
  refine ⟨fun _ => rfl, fun hrun ⟨k, hk, hv⟩ => ?_⟩
  obtain ⟨-, hstop, -⟩ := hf
  rcases hstop (stopLatched_iff.mpr ⟨k, hl s k hk, hv⟩) with ho | ho
  · exact absurd ho hrun
  · exact absurd ho hs

/-- An operation that goes by what the severities do not change. -/
theorem HaltsBySeverity.cases {γ : Type} {g : State → γ} (hg : ∀ s, g (unstopped s) = g s) {E : State → State}
    (h : ∀ c, ∃ G, HaltsBySeverity G ∧ ∀ s, g s = c → E s = G s) : HaltsBySeverity E := by
  intro s hs hf hc
  obtain ⟨G, hG, heq⟩ := h (g s)
  rw [heq s rfl] at hc ⊢
  rw [heq _ (hg s)]
  exact hG s hs hf hc

theorem HaltsWork.beginResponse {u t : State} (h : HaltsWork u t) (k : Byte) (a : Answer) :
    HaltsWork (beginResponse k a u) (beginResponse k a t) := by
  obtain ⟨ho, hd, hx, hq, hframe, hidle, hcut⟩ := h
  refine ⟨ho, hd, hx, hq, ?_, hidle, hcut⟩
  conv => lhs; rw [hframe]
  rfl

/-- An operation, and then its answer. -/
theorem HaltsBySeverity.answers {E : State → State} (hE : HaltsBySeverity E) (k : Byte) {a : State → Answer}
    (ha : ∀ s, a (unstopped s) = a s) : HaltsBySeverity (fun s => beginResponse k (a s) (E s)) := by
  intro s hs hf hc
  obtain ⟨hsame, hwork⟩ := hE s hs hf hc
  change HaltsAs s { beginResponse k (a (unstopped s)) (E (unstopped s)) with config := s.config }
    (beginResponse k (a s) (E s))
  rw [ha]
  refine ⟨fun h => ?_, fun hrun hstops => ?_⟩
  · rw [hsame h]
    rfl
  · have := (hwork hrun hstops).beginResponse k (a s)
    exact this

/-- A step before the operation that moves nothing that the halt goes by. -/
theorem HaltsBySeverity.after {E G : State → State} (hE : HaltsBySeverity E)
    (hu : ∀ s, G (unstopped s) = unstopped (G s)) (ho : ∀ s, (G s).opState = s.opState)
    (hf : ∀ s, StopFaultHalts s → StopFaultHalts (G s)) (hc : ∀ s, (G s).config = s.config) :
    HaltsBySeverity (fun s => E (G s)) := by
  intro s hs hstop hconfig
  have h := hE (G s) (by rwa [ho]) (hf s hstop) (hconfig.trans (hc s).symm)
  unfold HaltsAs at h
  rw [ho, hc] at h
  change HaltsAs s { E (G (unstopped s)) with config := s.config } (E (G s))
  rw [hu]
  exact h

end Sys2Proof.Machine
end


section
/-! The clock, the closing order list and the fold do the same under any severities. -/

namespace Sys2Proof.Machine

/-! ### Operations that read a state beside the one that they change -/

/-- An operation whose readings no severity changes. -/
theorem SeverityBlind.reads {H : State → State → State} (hr : ∀ b v c t, H (recast () b v c) t = H c t)
    (h : ∀ c, SeverityBlind (H c)) : SeverityBlind (fun s => H s s) := by
  intro s
  obtain ⟨k, hk⟩ := h s s
  exact ⟨k, hk.congr rfl fun _ b v => hr b v s _⟩

/-! ### Time (R133, R134) -/

theorem evaluateAll_blind : SeverityBlind evaluateAll := by
  refine SeverityBlind.reads (H := fun c t =>
    c.book.foldl (fun u e => noteLate e.late (evaluateOpen c.config c.clock e) u)
      { t with book := c.book.map (evaluateOpen c.config c.clock) }) (fun _ _ _ _ => rfl) fun c => ?_
  have hbook : SeverityBlind (fun t => { t with book := c.book.map (evaluateOpen c.config c.clock) }) :=
    .edit (fun _ => rfl) (fun _ => rfl) fun _ _ _ => rfl
  exact (SeverityBlind.foldl (f := fun u e => noteLate e.late (evaluateOpen c.config c.clock e) u)
    (fun e => (noteLate_indifferent e.late _).severityBlind) c.book).comp hbook

theorem setClock_blind (value : StoreTime) : SeverityBlind (setClock value) :=
  evaluateAll_blind.comp (.edit (F := fun s => { s with
    clock := value, clockSet := true, timebase := 0, book := s.book.map (moveYield (value - s.clock)) })
    (fun _ => rfl) (fun _ => rfl) fun _ _ _ => rfl)

theorem endYields_blind : SeverityBlind endYields := .edit (fun _ => rfl) (fun _ => rfl) fun _ _ _ => rfl

theorem bookSecond_blind : SeverityBlind bookSecond := evaluateAll_blind.comp endYields_blind

theorem closeTheGroup_blind : SeverityBlind closeTheGroup := .edit (fun _ => rfl) (fun _ => rfl) fun _ _ _ => rfl

theorem restartIdle_blind : SeverityBlind restartIdle := .edit (fun _ => rfl) (fun _ => rfl) fun _ _ _ => rfl

theorem expireGroup_blind : SeverityBlind expireGroup := by
  refine .cases (g := State.group) (fun _ _ _ => rfl) fun x => ?_
  cases x with
  | none => exact ⟨_, .id, fun s hs => by simp only [expireGroup, hs]⟩
  | some g =>
    exact ⟨_, (latch_indifferent .d126 0 0 g.number).severityBlind.comp closeTheGroup_blind, fun s hs => by
      simp only [expireGroup, hs]⟩

theorem idleSecond_blind : SeverityBlind idleSecond := by
  refine .cases (g := State.group) (fun _ _ _ => rfl) fun x => ?_
  cases x with
  | none => exact ⟨_, .id, fun s hs => by simp only [idleSecond, hs]⟩
  | some g =>
    have hidle : SeverityBlind (fun s => { s with group := some { g with idle := g.idle - 1 } }) :=
      .edit (fun _ => rfl) (fun _ => rfl) fun _ _ _ => rfl
    exact ⟨_, SeverityBlind.choice (p := fun _ => g.idle ≤ 1) (fun _ _ _ => Iff.rfl) expireGroup_blind hidle,
      fun s hs => by simp only [idleSecond, hs]⟩

theorem blocksSecond_blind : SeverityBlind blocksSecond := by
  have hrest : SeverityBlind (fun s => tallySecond (refill s)) := .edit (fun _ => rfl) (fun _ => rfl) fun _ _ _ => rfl
  exact hrest.comp (SeverityBlind.eitherOrder (idleSecond_blind.comp bookSecond_blind)
    (bookSecond_blind.comp idleSecond_blind))

/-! ### The closing order list (R61) -/

section
variable {s : State} {n : Nat}

theorem drainList_full (h : s.hasRoom = false) (rest : List Nat) (late : List Entry) :
    drainList (n :: rest) late s = ({ s with closing := n :: rest }, late) := by
  rw [drainList]
  exact if_neg (by simp [h])

theorem drainList_skips (h : s.hasRoom = true) (hn : ∀ e, s.entryAt n = some e → e.isClosing = false) (rest : List Nat)
    (late : List Entry) : drainList (n :: rest) late s = drainList rest late s := by
  rw [drainList]
  refine (if_pos h).trans ?_
  cases he : s.entryAt n with
  | none => rfl
  | some e =>
    have ho := hn e he
    dsimp only
    cases hst : e.state with
    | closing r => simp [Entry.isClosing, hst] at ho
    | waiting | held | inTransfer | yielded => rfl

theorem drainList_closes (h : s.hasRoom = true) {e : Entry} (he : s.entryAt n = some e) {r : ClosingRecord}
    (hr : e.state = .closing r) (rest : List Nat) (late : List Entry) :
    drainList (n :: rest) late s = drainList rest (late ++ (closeOut e r s).2.toList) (closeOut e r s).1 := by
  rw [drainList]
  refine (if_pos h).trans ?_
  rw [he]
  dsimp only
  rw [hr]
end

theorem closeOut_recast_snd (e : Entry) (r : ClosingRecord) (b : Bool) (v : PerKind Severity) (s : State) :
    (closeOut e r (recast () b v s)).2 = (closeOut e r s).2 := closeOut_dress_snd e r _ b v s

/-- Two halves of one operation on the closing order list: the state, and the entries promoted late. -/
def DrainBlind (ns : List Nat) (late : List Entry) : Prop :=
  SeverityBlind (fun s => (drainList ns late s).1) ∧
    ∀ b v s, (drainList ns late (recast () b v s)).2 = (drainList ns late s).2

theorem drainList_blind : ∀ (ns : List Nat) (late : List Entry), DrainBlind ns late
  | [], late => ⟨.edit (F := fun s => { s with closing := [] }) (fun _ => rfl) (fun _ => rfl) fun _ _ _ => rfl,
      fun _ _ _ => rfl⟩
  | n :: rest, late => by
    have hfull : SeverityBlind (fun s => { s with closing := n :: rest }) :=
      .edit (fun _ => rfl) (fun _ => rfl) fun _ _ _ => rfl
    refine ⟨.cases (g := fun s => (s.hasRoom, s.entryAt n)) (fun _ _ _ => rfl) fun ⟨room, x⟩ => ?_, fun b v s => ?_⟩
    · cases room with
      | false => exact ⟨_, hfull, fun s hs => by rw [drainList_full (Prod.mk.inj hs).1]⟩
      | true =>
        by_cases hx : ∃ e r, x = some e ∧ e.state = .closing r
        · obtain ⟨e, r, rfl, hr⟩ := hx
          have hstep : SeverityBlind
              (fun s => (drainList rest (late ++ (closeOut e r s).2.toList) (closeOut e r s).1).1) :=
            .cases (g := fun s => (closeOut e r s).2) (closeOut_recast_snd e r) fun p =>
              ⟨_, (drainList_blind rest (late ++ p.toList)).1.comp (closeOut_indifferent e r).severityBlind,
                fun s hs => by rw [hs]⟩
          exact ⟨_, hstep, fun s hs => by rw [drainList_closes (Prod.mk.inj hs).1 (Prod.mk.inj hs).2 hr]⟩
        · refine ⟨_, (drainList_blind rest late).1, fun s hs => ?_⟩
          obtain ⟨hroom, hat⟩ := Prod.mk.inj hs
          rw [drainList_skips hroom fun e he => ?_]
          rw [Bool.eq_false_iff]
          exact fun hc => hx ⟨e, (closing_of_isClosing hc).choose, hat.symm.trans he, (closing_of_isClosing hc).choose_spec⟩
    · cases hroom : s.hasRoom with
      | false => rw [drainList_full hroom, drainList_full (s := recast () b v s) hroom]
      | true =>
        by_cases hx : ∃ e r, s.entryAt n = some e ∧ e.state = .closing r
        · obtain ⟨e, r, he, hr⟩ := hx
          rw [drainList_closes hroom he hr, drainList_closes (s := recast () b v s) hroom he hr, closeOut_recast_snd]
          obtain ⟨k, hk⟩ := (closeOut_indifferent e r).severityBlind s
          rw [hk.dressed () b v]
          exact (drainList_blind rest _).2 _ _ _
        · have hskip : ∀ e, s.entryAt n = some e → e.isClosing = false := fun e he => by
            rw [Bool.eq_false_iff]
            exact fun hc => hx ⟨e, (closing_of_isClosing hc).choose, he, (closing_of_isClosing hc).choose_spec⟩
          rw [drainList_skips hroom hskip, drainList_skips (s := recast () b v s) hroom hskip]
          exact (drainList_blind rest late).2 b v s

theorem drainClosing_blind : SeverityBlind drainClosing := by
  refine .cases (g := fun s => (s.closing, (drainList s.closing [] s).2)) (fun b v s => ?_) fun ⟨ns, late⟩ => ?_
  · exact congrArg (Prod.mk s.closing) ((drainList_blind s.closing []).2 b v s)
  · refine ⟨_, (reportPromoted_indifferent late).severityBlind.comp (drainList_blind ns []).1, fun s hs => ?_⟩
    obtain ⟨hns, hlate⟩ := Prod.mk.inj hs
    unfold drainClosing
    rw [hns] at hlate ⊢
    rw [← hlate]

theorem takeRoom_blind (k : Nat) : SeverityBlind (takeRoom k) :=
  SeverityBlind.choice (p := fun _ => k = 0) (fun _ _ _ => Iff.rfl) .id
    (drainClosing_blind.comp (.edit (F := fun s => { s with reports := s.reports.drop k }) (fun _ => rfl) (fun _ => rfl)
      fun _ _ _ => rfl))

/-! ### The fold (R40 to R43) -/

theorem supersededReport_blind (c : State) (l : LabelAddr) : SeverityBlind (fun t => supersededReport c t l) := by
  unfold supersededReport
  cases c.entryOf l with
  | none => exact .id
  | some e => exact (eventReport_indifferent (r := fun _ => ownReport .superseded e c) fun _ _ _ _ => rfl).severityBlind

theorem afterTouch_blind (c : State) (e : Entry) : SeverityBlind (fun t => afterTouch c t e) := by
  have hrefit : SeverityBlind (fun t => match t.recordOf e.label with
      | some r => refit r.model e t
      | none => t) := by
    refine .cases (g := fun t => t.recordOf e.label) (fun _ _ _ => rfl) fun x => ?_
    cases x with
    | none => exact ⟨_, .id, fun s hs => by simp only [hs]⟩
    | some r => exact ⟨_, (refit_indifferent r.model e).severityBlind, fun s hs => by simp only [hs]⟩
  unfold afterTouch
  exact (SeverityBlind.choice (p := fun _ => (c.entryOf e.label).any (fun o => o.state == .held) = true)
    (fun _ _ _ => Iff.rfl) hrefit .id).comp (noteLate_indifferent _ e).severityBlind

/-- The book that a fold leaves, before its touched entries are followed up. -/
def placedBook (g : OpenGroup) (v : FoldView) (s : State) : List Entry :=
  placeFresh g s v.fresh (v.book.map (fun e => if e.label ∈ v.changed then touch g s.config s.clock e else e))

theorem applyFold_blind (g : OpenGroup) (v : FoldView) : SeverityBlind (applyFold g v) := by
  let touched := v.changed ++ v.fresh.map (fun n => n.label)
  refine SeverityBlind.reads (H := fun c t =>
    ((placedBook g v c).filter (fun e => e.label ∈ touched)).foldl (afterTouch c)
      { v.replaced.foldl (supersededReport c) t with
        book := placedBook g v c, dialogue := markTouched touched c.dialogue }) (fun _ _ _ _ => rfl) fun c => ?_
  have hplace : SeverityBlind (fun t => { t with
      book := placedBook g v c, dialogue := markTouched touched c.dialogue }) :=
    .edit (fun _ => rfl) (fun _ => rfl) fun _ _ _ => rfl
  exact (SeverityBlind.foldl (afterTouch_blind c) _).comp
    (hplace.comp (SeverityBlind.foldl (supersededReport_blind c) v.replaced))

end Sys2Proof.Machine
end


section
/-! Every command halts the station as its faults' severities say (R141, R147). -/

namespace Sys2Proof.Machine

/-! ### Requests -/

/-- The act halts the station as its kinds of severity STOP say, with the answer that any severities give. -/
def ActHalts (act : State → State × Answer) : Prop :=
  HaltsBySeverity (fun s => (act s).1) ∧ ∀ s, (act (unstopped s)).2 = (act s).2

theorem ActHalts.settles {F : State → State} (hF : SeverityBlind F) {a : State → Answer}
    (ha : ∀ s, a (unstopped s) = a s) : ActHalts (fun s => (settle (F s), a s)) := ⟨hF.settles, ha⟩

theorem ActHalts.quiet {F : State → State} (hF : ∀ s, F (unstopped s) = unstopped (F s))
    (hl : ∀ s, (F s).latched = s.latched) {a : State → Answer} (ha : ∀ s, a (unstopped s) = a s) :
    ActHalts (fun s => (F s, a s)) := ⟨.quiet hF fun s _ h => hl s ▸ h, ha⟩

theorem ActHalts.same {a : State → Answer} (ha : ∀ s, a (unstopped s) = a s) : ActHalts (fun s => (s, a s)) :=
  .quiet (F := fun s => s) (fun _ => rfl) (fun _ => rfl) ha

/-- An act that goes by what the severities do not change. -/
theorem ActHalts.cases {γ : Type} {g : State → γ} (hg : ∀ s, g (unstopped s) = g s) {act : State → State × Answer}
    (h : ∀ c, ∃ G, ActHalts G ∧ ∀ s, g s = c → act s = G s) : ActHalts act := by
  refine ⟨.cases hg fun c => ?_, fun s => ?_⟩
  · obtain ⟨G, hG, heq⟩ := h c
    exact ⟨_, hG.1, fun s hs => congrArg Prod.fst (heq s hs)⟩
  · obtain ⟨G, hG, heq⟩ := h (g s)
    rw [heq s rfl, heq _ (hg s)]
    exact hG.2 s

theorem ActHalts.refuses {F : State → State} (hF : SeverityBlind F) (d : Detail) (l : LabelAddr) (b : Byte) (g : GroupNo) :
    ActHalts (fun s => gathererRefuses d l b g (F s)) :=
  .settles ((latch_indifferent d l b g).severityBlind.comp hF) fun _ => rfl

theorem openGroupAct_halts (number : GroupNo) (effective : StoreTime) (cls : Byte) :
    ActHalts (openGroupAct number effective cls) := by
  refine .cases (g := State.group) (fun _ => rfl) fun x => ?_
  cases x with
  | some g => exact ⟨_, .refuses restartIdle_blind .d121 0 0 g.number, fun s hs => by simp only [openGroupAct, hs]⟩
  | none =>
    by_cases hc : cls.toNat < 8
    · by_cases hn : number = 0
      · exact ⟨_, .refuses .id .d103 0 0 number, fun s hs => by simp only [openGroupAct, hs, dif_pos hc, if_pos hn]⟩
      · exact ⟨_, .quiet (F := fun s => { s with group := some ⟨number, effective, ⟨cls.toNat, hc⟩, 60, []⟩ })
          (a := fun _ => plain .ok) (fun _ => rfl) (fun _ => rfl) (fun _ => rfl), fun s hs => by
            simp only [openGroupAct, hs, dif_pos hc, if_neg hn]⟩
    · exact ⟨_, .refuses .id .d103 0 0 number, fun s hs => by simp only [openGroupAct, hs, dif_neg hc]⟩

theorem recordAct_halts (body : List Byte) : ActHalts (recordAct body) := by
  refine .cases (g := fun s => (s.group, checkRecord s.config.sources.masks body)) (fun _ => rfl) fun ⟨x, check⟩ => ?_
  cases x with
  | none =>
    refine ⟨_, .refuses .id .d122 0 0 0, fun s hs => ?_⟩
    simp only [recordAct, (Prod.mk.inj hs).1]
  | some g =>
    by_cases hfull : 512 ≤ g.gathered.length
    · refine ⟨_, .refuses restartIdle_blind .d125 (refusedLabel body) (refusedSource body) g.number, fun s hs => ?_⟩
      simp only [recordAct, (Prod.mk.inj hs).1, if_pos hfull]
    · cases check with
      | refused d =>
        refine ⟨_, .refuses restartIdle_blind d (refusedLabel body) (refusedSource body) g.number, fun s hs => ?_⟩
        simp only [recordAct, (Prod.mk.inj hs).1, if_neg hfull, (Prod.mk.inj hs).2]
      | accepted r =>
        refine ⟨_, .quiet (F := fun s => { s with group := some { g with gathered := g.gathered ++ [r], idle := 60 } })
          (a := fun _ => ⟨.ok, .recordCount (g.gathered.length + 1)⟩) (fun _ => rfl) (fun _ => rfl) (fun _ => rfl),
          fun s hs => ?_⟩
        simp only [recordAct, (Prod.mk.inj hs).1, if_neg hfull, (Prod.mk.inj hs).2]

theorem foldGroup_halts (g : OpenGroup) : ActHalts (foldGroup g) := by
  refine .cases (g := fun s => checkPass g g.gathered 1 (startView s)) (fun _ => rfl) fun x => ?_
  cases x with
  | stopped why r position =>
    cases why with
    | stale =>
      exact ⟨_, .refuses closeTheGroup_blind .d132 r.label (BitVec.ofNat 8 r.source.val) g.number, fun s hs => by
        simp only [foldGroup, hs]⟩
    | conflict =>
      exact ⟨_, .refuses closeTheGroup_blind .d133 r.label (BitVec.ofNat 8 r.source.val) g.number, fun s hs => by
        simp only [foldGroup, hs]⟩
    | busy =>
      exact ⟨_, .quiet (F := restartIdle) (a := fun _ => ⟨.busy, .busyAt position⟩) (fun _ => rfl) (fun _ => rfl)
        (fun _ => rfl), fun s hs => by simp only [foldGroup, hs]⟩
  | done v =>
    refine ⟨fun s => if roomFor v s then (settle (applyFold g v (closeTheGroup s)), ⟨.ok, foldCounts v⟩)
      else gathererRefuses .d131 0 0 g.number (restartIdle s), ?_, fun s hs => by simp only [foldGroup, hs]⟩
    refine .cases (g := roomFor v) (fun _ => rfl) fun room => ?_
    cases room with
    | true =>
      exact ⟨_, .settles ((applyFold_blind g v).comp closeTheGroup_blind) (a := fun _ => ⟨.ok, foldCounts v⟩)
        (fun _ => rfl), fun s hs => if_pos hs⟩
    | false =>
      exact ⟨_, .refuses restartIdle_blind .d131 0 0 g.number, fun s hs => if_neg (by simp [hs])⟩

theorem closeGroupAct_halts (number : GroupNo) (count : BitVec 16) : ActHalts (closeGroupAct number count) := by
  refine .cases (g := State.group) (fun _ => rfl) fun x => ?_
  cases x with
  | none => exact ⟨_, .refuses .id .d123 0 0 0, fun s hs => by simp only [closeGroupAct, hs]⟩
  | some g =>
    by_cases hn : g.number ≠ number
    · exact ⟨_, .refuses restartIdle_blind .d127 0 0 g.number, fun s hs => by simp only [closeGroupAct, hs, if_pos hn]⟩
    · by_cases hc : g.gathered.length ≠ count.toNat
      · exact ⟨_, .refuses closeTheGroup_blind .d124 0 0 g.number, fun s hs => by
          simp only [closeGroupAct, hs, if_neg hn, if_pos hc]⟩
      · exact ⟨_, foldGroup_halts g, fun s hs => by simp only [closeGroupAct, hs, if_neg hn, if_neg hc]⟩

theorem moveTo_halts (o : OpState) : ActHalts (moveTo o) :=
  .quiet (F := fun s => settleQuiet { s with opState := o }) (a := fun s => stateAnswer .ok (settleQuiet { s with opState := o }))
    (fun _ => rfl) (fun _ => rfl) (fun _ => rfl)

theorem startAct_halts : ActHalts startAct := by
  refine .cases (g := fun s => (s.opState, s.clockSet, s.config.identity.station)) (fun _ => rfl) fun ⟨o, set, station⟩ => ?_
  by_cases ho : o ≠ .idle
  · refine ⟨_, .same (a := fun s => ⟨.wrongState, .opStateReason s.opState .state⟩) (fun _ => rfl), fun s hs => ?_⟩
    obtain ⟨rfl, -, -⟩ := by simpa using hs
    exact if_pos ho
  · by_cases hset : set = false
    · refine ⟨_, .same (a := fun s => ⟨.wrongState, .opStateReason s.opState .clockUnset⟩) (fun _ => rfl), fun s hs => ?_⟩
      obtain ⟨rfl, rfl, -⟩ := by simpa using hs
      exact (if_neg ho).trans (if_pos hset)
    · by_cases hst : station = 0
      · refine ⟨_, .same (a := fun s => ⟨.wrongState, .opStateReason s.opState .unnumbered⟩) (fun _ => rfl), fun s hs => ?_⟩
        obtain ⟨rfl, rfl, rfl⟩ := by simpa using hs
        exact (if_neg ho).trans ((if_neg hset).trans (if_pos hst))
      · refine ⟨_, moveTo_halts .run, fun s hs => ?_⟩
        obtain ⟨rfl, rfl, rfl⟩ := by simpa using hs
        exact (if_neg ho).trans ((if_neg hset).trans (if_neg hst))

/-- A move of the operating state from the states that allow it, and WRONG_STATE from the others. -/
theorem moveIf_halts {p : OpState → Prop} [DecidablePred p] (o : OpState) :
    ActHalts (fun s => if p s.opState then moveTo o s else (s, stateAnswer .wrongState s)) := by
  refine .cases (g := State.opState) (fun _ => rfl) fun x => ?_
  by_cases hx : p x
  · exact ⟨_, moveTo_halts o, fun s hs => if_pos (hs ▸ hx)⟩
  · exact ⟨_, .same (a := stateAnswer .wrongState) (fun _ => rfl), fun s hs => if_neg (hs ▸ hx)⟩

theorem clearFaultsAct_halts : ActHalts clearFaultsAct := by
  refine ⟨.quiet (fun _ => rfl) fun s k hk => ?_, fun _ => rfl⟩
  change noKinds.get k = true at hk
  simp at hk

theorem readEntryAct_halts (selector : Byte) (address : LabelAddr) : ActHalts (readEntryAct selector address) := by
  by_cases hsel : selector = 0
  · refine .cases (g := fun s => s.entryOf address) (fun _ => rfl) fun x => ?_
    cases x with
    | some e =>
      exact ⟨_, .same (a := fun _ => ⟨.ok, .entry e⟩) fun _ => rfl, fun s hs => by
        simp only [readEntryAct, if_pos hsel, hs]⟩
    | none =>
      exact ⟨_, .same (a := fun _ => ⟨.ok, .noEntry address⟩) fun _ => rfl, fun s hs => by
        simp only [readEntryAct, if_pos hsel, hs]⟩
  · refine .cases (g := fun s => s.entryAt (address.toNat % 65536)) (fun _ => rfl) fun x => ?_
    cases x with
    | some e =>
      exact ⟨_, .same (a := fun _ => ⟨.ok, .entry e⟩) fun _ => rfl, fun s hs => by
        simp only [readEntryAct, if_neg hsel, hs]⟩
    | none =>
      exact ⟨_, .same (a := fun _ => ⟨.ok, .freeSlot (address.toNat % 65536)⟩) fun _ => rfl, fun s hs => by
        simp only [readEntryAct, if_neg hsel, hs]⟩

theorem withdrawAct_halts (label : LabelAddr) : ActHalts (withdrawAct label) := by
  refine .cases (g := fun s => (s.entryOf label, s.hasRoom)) (fun _ => rfl) fun ⟨x, room⟩ => ?_
  have hopen : ∀ e : Entry, ∃ G, ActHalts G ∧ ∀ s, s.hasRoom = room →
      (if s.hasRoom then ((pushReport (ownReport .withdrawn e s) s).freeSlot e.slot, plain .ok) else (s, plain .full)) =
        G s := fun e => by
    cases room with
    | true =>
      exact ⟨_, .quiet (F := fun s => (pushReport (ownReport .withdrawn e s) s).freeSlot e.slot) (a := fun _ => plain .ok)
        (fun _ => rfl) (fun _ => rfl) (fun _ => rfl), fun s hs => if_pos hs⟩
    | false => exact ⟨_, .same (a := fun _ => plain .full) fun _ => rfl, fun s hs => if_neg (by simp [hs])⟩
  cases x with
  | none =>
    refine ⟨_, .same (a := fun _ => plain .wrongState) fun _ => rfl, fun s hs => ?_⟩
    simp only [withdrawAct, (Prod.mk.inj hs).1]
  | some e =>
    cases hst : e.state with
    | inTransfer =>
      refine ⟨_, .same (a := fun _ => plain .busy) fun _ => rfl, fun s hs => ?_⟩
      simp only [withdrawAct, (Prod.mk.inj hs).1, hst]
    | closing r =>
      refine ⟨_, .same (a := fun _ => plain .wrongState) fun _ => rfl, fun s hs => ?_⟩
      simp only [withdrawAct, (Prod.mk.inj hs).1, hst]
    | waiting | held | yielded =>
      obtain ⟨G, hG, heq⟩ := hopen e
      refine ⟨G, hG, fun s hs => ?_⟩
      rw [← heq s (Prod.mk.inj hs).2]
      simp only [withdrawAct, (Prod.mk.inj hs).1, hst]

theorem takeReportsAct_halts (n : Byte) : ActHalts (takeReportsAct n) := by
  refine .cases (g := fun s => min (min n.toNat 16) s.reports.length) (fun _ => rfl) fun k => ?_
  refine ⟨fun s => (settle (takeRoom k s),
    ⟨.ok, .reports (s.reports.take k) k (takeRoom k s).reports.length (takeRoom k s).closing.length⟩),
    .settles (takeRoom_blind k) fun s => ?_, fun s hs => ?_⟩
  · obtain ⟨ks, hk⟩ := takeRoom_blind k s
    rw [unstopped_eq, hk.dressed]
    rfl
  · rw [takeReportsAct, hs]

theorem requestAct_halts (i : Instr) : ActHalts (requestAct i) := by
  cases i with
  | status => exact .same fun _ => rfl
  | setTime v => exact .settles (setClock_blind v) fun _ => rfl
  | openGroup g t c => exact openGroupAct_halts g t c
  | record body => exact recordAct_halts body
  | closeGroup g n => exact closeGroupAct_halts g n
  | abortGroup =>
    refine .cases (g := State.group) (fun _ => rfl) fun x => ?_
    cases x with
    | some g =>
      exact ⟨_, .quiet (F := closeTheGroup) (a := fun _ => plain .ok) (fun _ => rfl) (fun _ => rfl) (fun _ => rfl),
        fun s hs => by simp only [requestAct, abortGroupAct, hs]⟩
    | none =>
      exact ⟨_, .same (a := fun _ => plain .wrongState) fun _ => rfl, fun s hs => by
        simp only [requestAct, abortGroupAct, hs]⟩
  | start => exact startAct_halts
  | pause => exact moveIf_halts (p := (· = .run)) .paused
  | resume => exact moveIf_halts (p := (· = .paused)) .run
  | stop => exact moveIf_halts (p := fun o => o = .run ∨ o = .paused) .idle
  | takeReports n => exact takeReportsAct_halts n
  | readEntry sel a => exact readEntryAct_halts sel a
  | readRoster f n => exact .same fun _ => rfl
  | withdraw l => exact withdrawAct_halts l
  | clearFaults => exact clearFaultsAct_halts
  | setAttention e =>
    exact .quiet (F := fun s => { s with enable := FlagSet.ofByte e }) (fun _ => rfl) (fun _ => rfl) fun _ => rfl
  | resetPort =>
    exact .quiet (F := fun s => { s with
      holding := s.holding.take 1, overrun := none, group := none, lastReset := .port }) (fun _ => rfl) (fun _ => rfl)
      fun _ => rfl
  | _ => exact .same fun _ => rfl

end Sys2Proof.Machine
end


section
/-! The halt of a fault of severity STOP, in every command (R141, R147). -/

namespace Sys2Proof.Machine

/-! ### Every command -/

/-- The command completes, halting the station as its kinds of severity STOP say. -/
def CommandHalts (o : State → Host.Outcome State Fault Refusal) : Prop :=
  ∃ E : State → State, HaltsBySeverity E ∧ ∀ s, s.autoload = none → o s = .next (E s)

theorem CommandHalts.next {E : State → State} (hE : HaltsBySeverity E) : CommandHalts (fun s => .next (E s)) :=
  ⟨E, hE, fun _ _ => rfl⟩

theorem HaltsBySeverity.edit {E : State → State} (hE : ∀ s, E (unstopped s) = unstopped (E s))
    (hl : ∀ s, (E s).latched = s.latched) : HaltsBySeverity E := .quiet hE fun s _ h => hl s ▸ h

theorem HaltsBySeverity.id : HaltsBySeverity (fun s => s) := .edit (fun _ => rfl) fun _ => rfl

/-- A command that goes by what the severities do not change. -/
theorem CommandHalts.cases {γ : Type} {g : State → γ} (hg : ∀ s, g (unstopped s) = g s)
    {o : State → Host.Outcome State Fault Refusal}
    (h : ∀ c, ∃ G, HaltsBySeverity G ∧ ∀ s, s.autoload = none → g s = c → o s = .next (G s)) : CommandHalts o := by
  let G : γ → State → State := fun c => (h c).choose
  have hG : ∀ c, HaltsBySeverity (G c) := fun c => (h c).choose_spec.1
  have heq : ∀ c s, s.autoload = none → g s = c → o s = .next (G c s) := fun c => (h c).choose_spec.2
  exact ⟨fun s => G (g s) s, .cases hg fun c => ⟨G c, hG c, fun s hs => by rw [hs]⟩, fun s ha => heq _ s ha rfl⟩

/-! ### The Batch Link -/

theorem serve_halts (f : LinkFrame) {act : State → State × Answer} (h : ActHalts act) : HaltsBySeverity (serve f act) := by
  have hacts := h.1.answers f.kind (a := fun s => (act s).2) h.2
  have hheld := hacts.after (G := fun s => { s with holding := f :: s.holding.tail }) (fun _ => rfl) (fun _ => rfl)
    (fun _ h => h) (fun _ => rfl)
  refine .cases (g := State.opState) (fun _ => rfl) fun o => ?_
  by_cases ho : o = .starting
  · refine ⟨_, .edit (E := fun s => beginResponse f.kind (plain .notReady) { s with holding := f :: s.holding.tail })
      (fun _ => rfl) (fun _ => rfl), fun s hs => ?_⟩
    exact if_pos (hs.trans ho)
  · exact ⟨_, hheld, fun s hs => if_neg (hs ▸ ho)⟩

theorem begins_halts (k : Byte) (a : Answer) : HaltsBySeverity (beginResponse k a) := .edit (fun _ => rfl) fun _ => rfl

theorem takeFrame_halts (f : LinkFrame) : HaltsBySeverity (takeFrame f) := by
  by_cases hgood : f.good = false
  · exact .cases (g := fun _ => ()) (fun _ => rfl) fun _ => ⟨_, begins_halts f.kind (plain .badFrame), fun s _ =>
      if_pos hgood⟩
  · refine .cases (g := State.opState) (fun _ => rfl) fun o => ?_
    by_cases ho : o = .starting
    · exact ⟨_, begins_halts f.kind (plain .notReady), fun s hs => (if_neg hgood).trans (if_pos (hs.trans ho))⟩
    · cases hp : parseRequest f.kind f.body with
      | unknownKind =>
        refine ⟨_, begins_halts f.kind (plain .unknownRequest), fun s hs => ?_⟩
        unfold takeFrame
        rw [if_neg hgood, if_neg (hs ▸ ho), hp]
      | badLength =>
        refine ⟨_, begins_halts f.kind (plain .badFrame), fun s hs => ?_⟩
        unfold takeFrame
        rw [if_neg hgood, if_neg (hs ▸ ho), hp]
      | request i =>
        refine ⟨_, (requestAct_halts i).1.answers f.kind (a := fun s => (requestAct i s).2)
          (requestAct_halts i).2, fun s hs => ?_⟩
        unfold takeFrame
        rw [if_neg hgood, if_neg (hs ▸ ho), hp]

theorem offerFrameToHolding_halts (f : LinkFrame) : HaltsBySeverity (offerFrameToHolding f) := by
  refine .cases (g := fun s => (s.holding.length, s.overrun, s.holding.isEmpty && s.response.isNone)) (fun _ => rfl)
    fun ⟨n, x, free⟩ => ?_
  by_cases hn : 2 ≤ n
  · cases x with
    | some o =>
      refine ⟨_, .id, fun s hs => ?_⟩
      obtain ⟨h1, h2, -⟩ := by simpa only [Prod.mk.injEq] using hs
      unfold offerFrameToHolding
      rw [if_pos (h1 ▸ hn), h2]
    | none =>
      refine ⟨_, .edit (E := fun s => { s with overrun := some ⟨f.kind, s.holding.length⟩ }) (fun _ => rfl) (fun _ => rfl),
        fun s hs => ?_⟩
      obtain ⟨h1, h2, -⟩ := by simpa only [Prod.mk.injEq] using hs
      unfold offerFrameToHolding
      rw [if_pos (h1 ▸ hn), h2]
  · cases free with
    | true =>
      refine ⟨_, (takeFrame_halts f).after (G := fun s => { s with holding := s.holding ++ [f] }) (fun _ => rfl)
        (fun _ => rfl) (fun _ h => h) (fun _ => rfl), fun s hs => ?_⟩
      obtain ⟨h1, -, h3⟩ := by simpa only [Prod.mk.injEq] using hs
      unfold offerFrameToHolding
      rw [if_neg (h1 ▸ hn), if_pos h3]
    | false =>
      refine ⟨_, .edit (E := fun s => { s with holding := s.holding ++ [f] }) (fun _ => rfl) (fun _ => rfl),
        fun s hs => ?_⟩
      obtain ⟨h1, -, h3⟩ := by simpa only [Prod.mk.injEq] using hs
      unfold offerFrameToHolding
      rw [if_neg (h1 ▸ hn), if_neg (by simp [h3])]

theorem endsAsFrame_halts (f : LinkFrame) :
    HaltsBySeverity (fun s => offerFrameToHolding f { s with receiver := .hunting }) :=
  (offerFrameToHolding_halts f).after (G := fun s => { s with receiver := .hunting }) (fun _ => rfl) (fun _ => rfl)
    (fun _ h => h) (fun _ => rfl)

theorem receiveByte_halts (b : Byte) (stop : Bool) : HaltsBySeverity (receiveByte b stop) := by
  refine .cases (g := State.receiver) (fun _ => rfl) fun r => ?_
  cases r with
  | hunting =>
    by_cases hb : b = 0xA5
    · exact ⟨_, .edit (E := fun s => { s with receiver := .receiving [] (!stop) }) (fun _ => rfl) (fun _ => rfl),
        fun s hs => by simp only [receiveByte, hs, if_pos hb]⟩
    · exact ⟨_, .id, fun s hs => by simp only [receiveByte, hs, if_neg hb]⟩
  | receiving bytes missing =>
    cases hp : frameProgress (bytes ++ [b]) (missing || !stop) with
    | more =>
      exact ⟨_, .edit (E := fun s => { s with receiver := .receiving (bytes ++ [b]) (missing || !stop) }) (fun _ => rfl)
        (fun _ => rfl), fun s hs => by simp only [receiveByte, hs, hp]⟩
    | ended f => exact ⟨_, endsAsFrame_halts f, fun s hs => by simp only [receiveByte, hs, hp]⟩

theorem responseEnds_halts (r : Response) : HaltsBySeverity (responseEnds r) := by
  by_cases hr : r.answer.status = .overrun
  · exact .cases (g := fun _ => ()) (fun _ => rfl) fun _ => ⟨_, .edit
      (E := fun s => { s with response := none, overrun := none }) (fun _ => rfl) (fun _ => rfl), fun s _ => if_pos hr⟩
  · refine .cases (g := State.overrun) (fun _ => rfl) fun x => ?_
    cases x with
    | none =>
      refine ⟨_, .edit (E := fun s => { s with response := none, holding := s.holding.tail, overrun := none })
        (fun _ => rfl) (fun _ => rfl), fun s hs => (if_neg hr).trans ?_⟩
      simp only [overrunIfOwed, overrunCountsDown, hs, Option.map_none]
    | some o =>
      let counted := fun s : State => { s with
        response := none, holding := s.holding.tail, overrun := some { o with before := o.before - 1 } }
      by_cases ho : o.before - 1 = 0
      · refine ⟨_, .edit (E := fun s => beginResponse o.kind (plain .overrun) (counted s)) (fun _ => rfl) (fun _ => rfl),
          fun s hs => (if_neg hr).trans ?_⟩
        simp only [overrunIfOwed, overrunCountsDown, hs, Option.map_some, if_pos ho, counted]
      · refine ⟨_, .edit (E := counted) (fun _ => rfl) (fun _ => rfl), fun s hs => (if_neg hr).trans ?_⟩
        simp only [overrunIfOwed, overrunCountsDown, hs, Option.map_some, if_neg ho, counted]

/-! ### The air -/

theorem frameLost_halts : HaltsBySeverity frameLost := by
  refine .cases (g := State.opState) (fun _ => rfl) fun o => ?_
  by_cases ho : o = .starting
  · exact ⟨_, .id, fun s hs => if_pos (hs.trans ho)⟩
  · exact ⟨_, .edit (E := carrierEnds) (fun _ => rfl) (fun _ => rfl), fun s hs => if_neg (hs ▸ ho)⟩

/-- A frame's end that is heard, or lost. -/
theorem heardOrLost_halts {F : State → State} (hF : SeverityBlind F) :
    HaltsBySeverity (fun s => if s.canHear then settle (F (frameHeard s)) else frameLost s) := by
  refine .cases (g := State.canHear) (fun _ => rfl) fun h => ?_
  cases h with
  | true => exact ⟨_, (hF.comp frameHeard_blind).settles, fun s hs => if_pos hs⟩
  | false => exact ⟨_, frameLost_halts, fun s hs => if_neg (by simp [hs])⟩

theorem frameEnds_halts (f : AirFrame) (rssi : Int) : HaltsBySeverity (frameEnds f rssi) := by
  refine .cases (g := fun s => f.admissible s.config.identity.station) (fun _ => rfl) fun ok => ?_
  cases ok with
  | true =>
    refine ⟨_, heardOrLost_halts (handleFrame_blind f rssi), fun s hs => ?_⟩
    rw [frameEnds, if_pos hs]
  | false =>
    refine ⟨_, heardOrLost_halts unawaited_blind, fun s hs => ?_⟩
    rw [frameEnds, hs]
    rfl

theorem bytesEnd_halts (bytes : List Byte) (rssi : Int) : HaltsBySeverity (bytesEnd bytes rssi) := by
  refine .cases (g := fun s => receive s.config.identity.station s.config.identity.site bytes) (fun _ => rfl) fun x => ?_
  cases x with
  | some f => exact ⟨_, frameEnds_halts f rssi, fun s hs => by simp only [bytesEnd, hs]⟩
  | none => exact ⟨_, heardOrLost_halts unawaited_blind, fun s hs => by simp only [bytesEnd, hs]⟩

/-- A wait's deadline, in the phase of the wait. -/
theorem expiry_halts {p : Phase} {o : State → Host.Outcome State Fault Refusal}
    (hw : ∀ s c, s.dialogue = .transferring p c → o s = .next (settle (deadline p c s)))
    (hno : ∀ s, (∀ c, s.dialogue ≠ .transferring p c) → o s = .next s) : CommandHalts o := by
  refine .cases (g := State.dialogue) (fun _ => rfl) fun d => ?_
  by_cases hd : ∃ c, d = .transferring p c
  · obtain ⟨c, rfl⟩ := hd
    exact ⟨_, (deadline_blind p c).settles, fun s _ hs => hw s c hs⟩
  · exact ⟨_, .id, fun s _ hs => hno s fun c hc => hd ⟨c, hs.symm.trans hc⟩⟩

theorem settleQuiet_edit {F : State → State} (hF : ∀ s, F (unstopped s) = unstopped (F s))
    (hl : ∀ s, (F s).latched = s.latched) : HaltsBySeverity (fun s => settleQuiet (F s)) :=
  .edit (fun s => by rw [hF]; rfl) fun s => hl s

theorem standoffEnds_edit (c : TransferContext) : HaltsBySeverity (fun s => settleQuiet (standoffEnds c s)) := by
  refine .cases (g := commitEntry c) (fun _ => rfl) fun x => ?_
  cases x with
  | some e =>
    exact ⟨_, settleQuiet_edit (F := commitOffer c e) (fun _ => rfl) (fun _ => rfl), fun s hs => by
      simp only [standoffEnds, hs]⟩
  | none =>
    exact ⟨_, settleQuiet_edit (F := fun s => { s with dialogue := .listening }) (fun _ => rfl) (fun _ => rfl),
      fun s hs => by simp only [standoffEnds, hs]⟩

theorem quietWaitEnds_halts : HaltsBySeverity quietWaitEnds := by
  refine .cases (g := fun s => covers (tallyAirtime (s.tally.take 16).length) s) (fun _ => rfl) fun paid => ?_
  cases paid with
  | true =>
    exact ⟨_, .edit (E := fun s => beginSending (tallyFrame s (s.tally.take 16))
      { deduct (tallyAirtime (s.tally.take 16).length) s with
        dialogue := .tallying (s.tally.take 16).length, quietWait := none }) (fun _ => rfl) (fun _ => rfl),
      fun s hs => if_pos hs⟩
  | false => exact ⟨_, .id, fun s hs => if_neg (Bool.eq_false_iff.mp hs)⟩

theorem request_halts {i : Instr} {f : LinkFrame} (h : requestFrame i = some f) : CommandHalts (exec i) :=
  ⟨_, serve_halts f (requestAct_halts i), fun s _ => exec_of_request h s⟩

/-- Outside STARTING something is sensed, and in STARTING nothing. -/
theorem unlessStarting_halts {E : State → State} (hE : HaltsBySeverity E)
    {o : State → Host.Outcome State Fault Refusal} (hs : ∀ s, s.opState = .starting → o s = .next s)
    (hn : ∀ s, s.opState ≠ .starting → o s = .next (E s)) : CommandHalts o := by
  refine .cases (g := State.opState) (fun _ => rfl) fun x => ?_
  by_cases hx : x = .starting
  · exact ⟨_, .id, fun s _ h => hs s (h.trans hx)⟩
  · exact ⟨_, hE, fun s _ h => hn s (h ▸ hx)⟩

/-- Every command but COLD_START halts the station as its kinds of severity STOP say. -/
theorem exec_halts {i : Instr} (hi : i ≠ .coldStart) : CommandHalts (exec i) := by
  cases i with
  | coldStart => exact absurd rfl hi
  | lineReset =>
    refine .next (.quiet (fun _ => rfl) fun s k hk => ?_)
    change noKinds.get k = true at hk
    simp at hk
  | lineResetRelease =>
    refine .cases (g := State.lineReset) (fun _ => rfl) fun held => ?_
    cases held with
    | true =>
      exact ⟨_, .edit (E := fun s => { s with lineReset := false, autoload := some freshAutoload }) (fun _ => rfl)
        (fun _ => rfl), fun s _ hs => if_pos hs⟩
    | false => exact ⟨_, .id, fun s _ hs => if_neg (by simp [hs])⟩
  | headerRead | groupRead | configReadTimeout => exact ⟨_, .id, fun s ha => by
      simp only [exec, execHeaderRead, execGroupRead, execConfigReadTimeout, ha]⟩
  | clockSecond =>
    have hstart : HaltsBySeverity (fun s => { s with clock := s.clock + 1, timebase := 0 }) :=
      .edit (fun _ => rfl) fun _ => rfl
    have htick : SeverityBlind (fun s => { s with clock := s.clock + 1, timebase := 0 }) :=
      .edit (fun _ => rfl) (fun _ => rfl) fun _ _ _ => rfl
    refine .cases (g := State.opState) (fun _ => rfl) fun o => ?_
    by_cases ho : o = .starting
    · exact ⟨_, hstart, fun s _ hs => if_pos (hs.trans ho)⟩
    · exact ⟨_, (blocksSecond_blind.comp htick).settles, fun s _ hs => if_neg (hs ▸ ho)⟩
  | yieldEnd => exact .next (.edit (fun _ => rfl) fun _ => rfl)
  | groupIdleTimeout =>
    refine .cases (g := fun s => s.group.any (fun g => g.idle == 0)) (fun _ => rfl) fun ended => ?_
    cases ended with
    | true => exact ⟨_, expireGroup_blind.settles, fun s _ hs => if_pos hs⟩
    | false => exact ⟨_, .id, fun s _ hs => if_neg (Bool.eq_false_iff.mp hs)⟩
  | tallyPeriodEnd => exact .next (.edit (fun _ => rfl) fun _ => rfl)
  | batchFrameEnd f => exact .next (endsAsFrame_halts f)
  | linkLoss => exact .next (.edit (fun _ => rfl) fun _ => rfl)
  | responseSent =>
    refine .cases (g := State.response) (fun _ => rfl) fun x => ?_
    cases x with
    | some r => exact ⟨_, responseEnds_halts r, fun s _ hs => by simp only [exec, execResponseSent, hs]⟩
    | none => exact ⟨_, .id, fun s _ hs => by simp only [exec, execResponseSent, hs]⟩
  | heldFrameTaken =>
    refine .cases (g := fun s => (s.response, s.holding)) (fun _ => rfl) fun ⟨x, held⟩ => ?_
    cases x with
    | some r =>
      refine ⟨_, .id, fun s _ hs => ?_⟩
      obtain ⟨h1, h2⟩ := Prod.mk.inj hs
      simp only [exec, execHeldFrameTaken, h1]
    | none =>
      cases held with
      | nil =>
        refine ⟨_, .id, fun s _ hs => ?_⟩
        obtain ⟨h1, h2⟩ := Prod.mk.inj hs
        simp only [exec, execHeldFrameTaken, h1, h2]
      | cons f fs =>
        refine ⟨_, takeFrame_halts f, fun s _ hs => ?_⟩
        obtain ⟨h1, h2⟩ := Prod.mk.inj hs
        simp only [exec, execHeldFrameTaken, h1, h2]
  | batchByteReceived b stop => exact .next (receiveByte_halts b stop)
  | status | setTime | openGroup | record | closeGroup | abortGroup | start | pause | resume | stop | takeReports
  | readEntry | readRoster | withdraw | clearFaults | setAttention | resetPort =>
    exact request_halts rfl
  | closingListDrain => exact .next drainClosing_blind.settles
  | airFrameDiscarded bytes rssi => exact .next (bytesEnd_halts bytes rssi)
  | frameStart =>
    refine .cases (g := State.canHear) (fun _ => rfl) fun hears => ?_
    cases hears with
    | true =>
      exact ⟨_, .edit (E := fun s => { s with dialogue := meetWait s.dialogue }) (fun _ => rfl) (fun _ => rfl),
        fun s _ hs => if_pos hs⟩
    | false => exact ⟨_, .id, fun s _ hs => if_neg (Bool.eq_false_iff.mp hs)⟩
  | carrierSensed =>
    refine unlessStarting_halts (settleQuiet_edit (F := fun s => { s with
      dialogue := heardDialogue s.dialogue, carriers := s.carriers + 1 }) (fun _ => rfl) (fun _ => rfl))
      (fun s hs => if_pos hs) fun s hs => (if_neg hs).trans ?_
    rw [standDown_eq]
  | carrierEnd =>
    exact unlessStarting_halts (settleQuiet_edit (F := carrierEnds) (fun _ => rfl) (fun _ => rfl))
      (fun s hs => if_pos hs) fun s hs => if_neg hs
  | call f rssi => exact .next (frameEnds_halts (.call f) rssi)
  | ready f rssi => exact .next (frameEnds_halts (.ready f) rssi)
  | done f rssi => exact .next (frameEnds_halts (.done f) rssi)
  | refuse f rssi => exact .next (frameEnds_halts (.refuse f) rssi)
  | fragAck f => exact .next (frameEnds_halts (.fragAck f) 0)
  | peerOffer f => exact .next (frameEnds_halts (.offer f) 0)
  | peerFrag f => exact .next (frameEnds_halts (.frag f) 0)
  | peerTally f => exact .next (frameEnds_halts (.tally f) 0)
  | standoffEnd =>
    refine .cases (g := State.dialogue) (fun _ => rfl) fun d => ?_
    cases d with
    | standingOff c => exact ⟨_, standoffEnds_edit c, fun s _ hs => by simp only [exec, execStandoffEnd, hs]⟩
    | listening | transferring | tallying => exact ⟨_, .id, fun s _ hs => by simp only [exec, execStandoffEnd, hs]⟩
  | offerSent =>
    refine .cases (g := fun s => (s.dialogue, s.transmitting)) (fun _ => rfl) fun ⟨d, x⟩ => ?_
    by_cases hd : ∃ c f, d = .transferring .awaitReady c ∧ x = some f
    · obtain ⟨c, f, rfl, rfl⟩ := hd
      refine ⟨_, .edit (E := fun s => { s with
        transmitting := none
        dialogue := .transferring .awaitReady
          { c with covered := c.covered + offerAirtime, wait := some (newWait 5000) } }) (fun _ => rfl) (fun _ => rfl),
        fun s _ hs => ?_⟩
      obtain ⟨h1, h2⟩ := Prod.mk.inj hs
      simp only [exec, execOfferSent, h1, h2]
    · refine ⟨_, .id, fun s _ hs => ?_⟩
      obtain ⟨h1, h2⟩ := Prod.mk.inj hs
      change execOfferSent s = _
      unfold execOfferSent
      split
      next c f hc hf => exact absurd ⟨c, f, h1.symm.trans hc, h2.symm.trans hf⟩ hd
      next => rfl
  | fragSent =>
    refine .cases (g := State.dialogue) (fun _ => rfl) fun d => ?_
    by_cases hd : ∃ r c, d = .transferring (.sending r) c
    · obtain ⟨r, c, rfl⟩ := hd
      exact ⟨_, .edit (E := fun s => { s with
        transmitting := none
        dialogue := .transferring .awaitAck
          { c with
            covered := if r then c.covered else c.covered + c.fragmentTime
            resends := if r then c.resends else 0
            wait := some (newWait 4000) } }) (fun _ => rfl) (fun _ => rfl), fun s _ hs => by
          simp only [exec, execFragSent, hs]⟩
    · refine ⟨_, .id, fun s _ hs => ?_⟩
      change execFragSent s = _
      unfold execFragSent
      split
      next r c hc => exact absurd ⟨r, c, hs.symm.trans hc⟩ hd
      next => rfl
  | readyWaitExpiry =>
    refine expiry_halts (p := .awaitReady) (fun s c hs => by simp only [exec, execReadyWaitExpiry, hs]) fun s hs => ?_
    change execReadyWaitExpiry s = _
    unfold execReadyWaitExpiry
    split
    next c hd => exact absurd hd (hs c)
    next => rfl
  | ackWaitExpiry =>
    refine expiry_halts (p := .awaitAck) (fun s c hs => by simp only [exec, execAckWaitExpiry, hs]) fun s hs => ?_
    change execAckWaitExpiry s = _
    unfold execAckWaitExpiry
    split
    next c hd => exact absurd hd (hs c)
    next => rfl
  | doneWaitExpiry =>
    refine expiry_halts (p := .awaitDone) (fun s c hs => by simp only [exec, execDoneWaitExpiry, hs]) fun s hs => ?_
    change execDoneWaitExpiry s = _
    unfold execDoneWaitExpiry
    split
    next c hd => exact absurd hd (hs c)
    next => rfl
  | quietWaitEnd =>
    refine .cases (g := State.quietWait) (fun _ => rfl) fun x => ?_
    cases x with
    | some w => exact ⟨_, quietWaitEnds_halts, fun s _ hs => by simp only [exec, execQuietWaitEnd, hs]⟩
    | none => exact ⟨_, .id, fun s _ hs => by simp only [exec, execQuietWaitEnd, hs]⟩
  | tallySent =>
    refine .cases (g := State.dialogue) (fun _ => rfl) fun d => ?_
    cases d with
    | tallying n =>
      exact ⟨_, settleQuiet_edit (F := fun s => toListening { s with tally := s.tally.drop n, tallyCount := 0 })
        (fun _ => rfl) (fun _ => rfl), fun s _ hs => by simp only [exec, execTallySent, hs]⟩
    | listening | standingOff | transferring => exact ⟨_, .id, fun s _ hs => by simp only [exec, execTallySent, hs]⟩

end Sys2Proof.Machine
end


section
/-! HALT (O23): the configuration that the halt goes by is kept, and the three refusals without a group. -/

namespace Sys2Proof.Machine

/-! ### The configuration is kept -/

theorem Op.config_of_notLoad {K Q : Prop} {s t : State} (h : Op K Q False s t) : t.config = s.config := by
  have book : ∀ {t}, BookChanges s t → t.config = s.config := by
    rintro _ ⟨_, _, _, _, _, _, _, _, rfl⟩
    rfl
  cases h with
  | news h => exact book (Tells.changes (.single h))
  | confirms e he ho hd h => exact book h.changes
  | drains k h _ => exact book (drains_changes h)
  | ends b hd hu hb =>
    obtain ⟨_, _, _, _, _, _, hc, _⟩ := hu.listening_keeps (b := b)
    exact hc
  | cutsOff x n b ho hd hu hb =>
    obtain ⟨_, _, _, _, _, _, hc, _⟩ := hu.listening_keeps (b := b)
    exact hc
  | coldStart hL | lineReset hL h | releases hL h | loads hL a a' ha hc | loaded hL a c ha hc => exact hL.elim
  | tallies p => unfold joinTally; split <;> rfl
  | _ => rfl

theorem Ops.config_of_notLoad {K Q : Prop} {s t : State} (h : ReflTransGen (Op K Q False) s t) :
    t.config = s.config := by
  induction h with
  | refl => rfl
  | tail _ hop ih => exact hop.config_of_notLoad.trans ih

/-- Outside an autoload no command but COLD_START changes the configuration in force. -/
theorem exec_config {i : Instr} {s t : State} (hi : i ≠ .coldStart) (ha : s.autoload = none)
    (h : exec i s = .next t) : t.config = s.config := by
  cases hl : isLoad i with
  | false =>
    obtain ⟨u, hu, hops⟩ := exec_ops (K := False) (Q := False) (L := False) False.elim False.elim i (s := s) (by simp [hl])
    cases hu.symm.trans h
    exact Ops.config_of_notLoad hops
  | true =>
    cases i with
    | coldStart => exact absurd rfl hi
    | lineReset => cases h; rfl
    | lineResetRelease =>
      simp only [exec, execLineResetRelease] at h
      split at h <;> cases h <;> rfl
    | headerRead | groupRead | configReadTimeout =>
      simp only [exec, execHeaderRead, execGroupRead, execConfigReadTimeout, ha] at h
      cases h
      rfl
    | _ => cases hl

/-! ### The refusals without a group -/

/-- A halt does not go by the quiet wait that it drops. -/
theorem HaltsWork.of_quietWait {u t : State} {w : Option Nat}
    (h : HaltsWork { u with quietWait := w } t) : HaltsWork u t := by
  obtain ⟨ho, hd, hx, hq, hframe, hidle, hcut⟩ := h
  exact ⟨ho, hd, hx, hq, hframe, hidle, hcut⟩

/-- A fault of severity STOP that ends a command outside HALTED. -/
theorem settle_latch_haltsWork {s : State} {d : Detail} (hstop : s.config.policy.severity.get d.kind = .stop)
    (hh : s.halt = false) (ho : s.opState = .idle ∨ s.opState = .run ∨ s.opState = .paused) :
    HaltsWork (faulted d 0 0 0 s) (settle (latch d 0 0 0 s)) := by
  have hhalt : (latch d 0 0 0 s).halt = true := by
    change (s.halt || (s.config.policy.severity.get d.kind == .stop && s.opState != .starting)) = true
    simp [hstop, notStarting_of_working ho]
  have h := settle_haltsWork hhalt ho
  have hu : { latch d 0 0 0 s with halt := false, quietWait := quietAfter (latch d 0 0 0 s) } =
      { faulted d 0 0 0 s with quietWait := quietAfter (latch d 0 0 0 s) } := by
    rw [latch_eq_faulted, ← hh]
    rfl
  rw [hu] at h
  exact h.of_quietWait

/-- A request refused with a fault of severity STOP is answered by its own rule, and then the halt is taken. -/
theorem exec_refused_haltsWork {i : Instr} {f : LinkFrame} {d : Detail} {s : State} (hf : requestFrame i = some f)
    (hact : requestAct i (served f s) = gathererRefuses d 0 0 0 (served f s))
    (hstop : s.config.policy.severity.get d.kind = .stop) (hh : s.halt = false)
    (ho : s.opState = .idle ∨ s.opState = .run ∨ s.opState = .paused) :
    ∃ t, exec i s = .next t ∧ HaltsWork (answered i ⟨.refused, .refused d⟩ (faulted d 0 0 0 s)) t := by
  refine ⟨_, exec_of_request hf s, ?_⟩
  rw [serve_acts (notStarting_of_working ho), hact]
  have h := (settle_latch_haltsWork (s := served f s) hstop hh ho).beginResponse f.kind ⟨.refused, .refused d⟩
  have hu : answered i ⟨.refused, .refused d⟩ (faulted d 0 0 0 s) =
      beginResponse f.kind ⟨.refused, .refused d⟩ (faulted d 0 0 0 (served f s)) := by
    unfold answered
    rw [hf]
    rfl
  rw [hu]
  exact h

/-- Settles O23: the refusals without a group one by one, and every command by what its operations do with the
severities. -/
theorem haltStopsWork : Obligations.HaltStopsWork := by
  unfold Obligations.HaltStopsWork
  refine ⟨fun i d s hcase hg hh ho hstop => ?_, fun i s v hi hs hf hv => ?_⟩
  · obtain ⟨body, m, count, time, cls, hcase⟩ := hcase
    simp only [List.mem_cons, List.not_mem_nil, or_false, Prod.mk.injEq] at hcase
    rcases hcase with ⟨rfl, rfl⟩ | ⟨rfl, rfl⟩ | ⟨rfl, rfl⟩
    · refine exec_refused_haltsWork rfl ?_ hstop hh ho
      simp [requestAct, recordAct, hg]
    · refine exec_refused_haltsWork rfl ?_ hstop hh ho
      simp [requestAct, closeGroupAct, hg]
    · refine exec_refused_haltsWork rfl ?_ hstop hh ho
      exact openGroupAct_bad (s := served _ s) hg (.inl rfl) time
  · obtain ⟨E, hE, hexec⟩ := exec_halts hi
    obtain ⟨ha, -⟩ := autoload_of_working hf.2.2 hs
    have hown := hexec s ha
    obtain rfl : E (unstopped s) = v := by
      have hun := (hexec (unstopped s) ha).symm.trans hv
      cases hun
      rfl
    obtain ⟨hsame, hwork⟩ := hE s hs hf (exec_config hi ha hown)
    refine ⟨fun h => ?_, fun hrun hstops => ⟨_, hown, hwork hrun hstops⟩⟩
    rw [hown, hsame h]

end Sys2Proof.Machine
end


section
/-! The check pass of a fold, label by label (R34 to R37): its view of the book is what each label's records, in
order, have made of that label. -/

namespace Sys2Proof.Machine

/-! ### Lists with a member added once -/

theorem labelsOf_snoc (r : GatheredRecord) : ∀ rs, labelsOf (rs ++ [r]) = addOnce r.label (labelsOf rs)
  | [] => rfl
  | x :: xs => by
    rw [List.cons_append, labelsOf, labelsOf_snoc r xs, labelsOf]
    by_cases hx : r.label = x.label
    · have hin : r.label ∈ x.label :: (labelsOf xs).filter (fun l => l != x.label) := by simp [hx]
      have hsame : addOnce r.label (x.label :: (labelsOf xs).filter (fun l => l != x.label)) = _ := if_pos hin
      rw [hsame]
      congr 1
      unfold addOnce
      split
      · rfl
      · simp [List.filter_append, hx]
    · have hiff : r.label ∈ x.label :: (labelsOf xs).filter (fun l => l != x.label) ↔ r.label ∈ labelsOf xs := by
        simp [hx]
      unfold addOnce
      by_cases hin : r.label ∈ labelsOf xs
      · rw [if_pos hin, if_pos (hiff.mpr hin)]
      · rw [if_neg hin, if_neg (mt hiff.mp hin)]
        simp [List.filter_append, hx]

theorem filter_addOnce {p : LabelAddr → Bool} (l : LabelAddr) (ls : List LabelAddr) :
    (addOnce l ls).filter p = if p l then addOnce l (ls.filter p) else ls.filter p := by
  unfold addOnce
  by_cases hin : l ∈ ls <;> cases hp : p l <;> simp [hin, hp, List.filter_append]

theorem mem_labelsOf {l : LabelAddr} : ∀ {rs}, l ∈ labelsOf rs ↔ ∃ r ∈ rs, r.label = l
  | [] => by simp [labelsOf]
  | x :: xs => by
    by_cases hx : l = x.label
    · simp [labelsOf, hx]
    · have : ¬ x.label = l := fun h => hx h.symm
      simp [labelsOf, mem_labelsOf (rs := xs), hx, this]

theorem nodup_labelsOf : ∀ rs, (labelsOf rs).Nodup
  | [] => .nil
  | x :: xs => List.nodup_cons.mpr ⟨by simp, (nodup_labelsOf xs).filter _⟩

/-! ### One record on its label -/

/-- The fault of a stop, or none where a record meets a busy entry (R39). -/
def FoldStop.detail : FoldStop → Option Detail
  | .stale => some .d132
  | .conflict => some .d133
  | .busy => none

/-- A class that stops the pass, as a label's view has it. -/
def takeOr (c : FoldClass) (w : LabelView) : Except (Option Detail) LabelView :=
  match c with
  | .stale => .error (some .d132)
  | .conflict => .error (some .d133)
  | .merge | .chain | .replace => .ok w

/-- A change with a record of some class applied to it. -/
def changedBy (c : FoldClass) (r : GatheredRecord) (base : Base) (target : Version) (items : Items)
    (masked replaced : Bool) : LabelView :=
  let (b, t, i, m) := applyRecord c r base target items masked
  .change b t i m (replaced || decide (c = .replace))

theorem take_change_eq (g : OpenGroup) (r : GatheredRecord) (base : Base) (target : Version) (items : Items)
    (masked replaced : Bool) : LabelView.take g r (.change base target items masked replaced) =
      if r.base = base ∧ r.target = target then
        .ok (.change base target (overlaid items r.items) (masked || r.masked) replaced)
      else if r.base = .version target ∧ VersionLaw base r.target then
        .ok (.change base r.target (overlaid items r.items) (masked || r.masked) replaced)
      else if overtakes r.base target = true ∧ atLeast r.target target = true then
        .ok (.change r.base r.target r.items r.masked true)
      else .error (some (if newer target r.target then .d132 else .d133)) := rfl

theorem take_change (g : OpenGroup) (r : GatheredRecord) (base : Base) (target : Version) (items : Items)
    (masked replaced : Bool) : LabelView.take g r (.change base target items masked replaced) =
      takeOr (classify base target r.base r.target)
        (changedBy (classify base target r.base r.target) r base target items masked replaced) := by
  rw [take_change_eq, classify_eq]
  by_cases hm : r.base = base ∧ r.target = target
  · rw [if_pos hm, if_pos hm]
    simp [takeOr, changedBy, applyRecord, mergeItems, overlaid]
  rw [if_neg hm, if_neg hm]
  by_cases hc : r.base = .version target ∧ VersionLaw base r.target
  · rw [if_pos hc, if_pos hc]
    simp [takeOr, changedBy, applyRecord, mergeItems, overlaid]
  rw [if_neg hc, if_neg hc]
  by_cases hr : overtakes r.base target = true ∧ atLeast r.target target = true
  · rw [if_pos hr, if_pos hr]
    simp [takeOr, changedBy, applyRecord]
  rw [if_neg hr, if_neg hr]
  by_cases hn : newer target r.target = true
  · rw [if_pos hn, if_pos hn]
    rfl
  · rw [if_neg hn, if_neg hn]
    rfl

/-- The entry with a successor part from a record of the group. -/
def succeededBy (g : OpenGroup) (e : Entry) (base : Version) (target : Version) (items : Items) (masked : Bool) : Entry :=
  { e with successor := some ⟨base, target, items, g.effective, g.cls, g.number, masked⟩ }

/-- A record that a label with a busy or closing entry takes, in the model's words and in the statement's (R37). -/
theorem foldBusy_take (g : OpenGroup) (r : GatheredRecord) (e : Entry) (v : FoldView) :
    (∃ base target items masked, LabelView.take g r (.later e) = .ok (.later (succeededBy g e base target items masked)) ∧
      foldBusy g r e v = .ok (withSuccessor g r e base target items masked v)) ∨
    ∃ why : FoldStop, LabelView.take g r (.later e) = .error why.detail ∧ foldBusy g r e v = .error why := by
  unfold LabelView.take foldBusy
  dsimp only
  cases hs : e.successor with
  | none =>
    dsimp only
    by_cases hb : r.base = .version e.target
    · rw [if_pos hb, if_pos hb]
      exact .inl ⟨_, _, _, _, rfl, rfl⟩
    · rw [if_neg hb, if_neg hb]
      by_cases hc : e.isClosing = true
      · rw [if_pos hc, if_pos hc]
        exact .inr ⟨.stale, rfl, rfl⟩
      · rw [if_neg hc, if_neg hc]
        exact .inr ⟨.busy, rfl, rfl⟩
  | some p =>
    dsimp only
    unfold classifySuccessor
    by_cases hm : r.base = .version p.base ∧ r.target = p.target
    · rw [if_pos (.inl hm), if_pos hm]
      refine .inl ⟨_, _, _, _, rfl, ?_⟩
      rw [hm.2]
      rfl
    · rw [if_neg hm]
      by_cases hc : r.base = .version p.target ∧ newer r.target e.target = true
      · rw [if_pos (.inr hc), if_pos hc]
        exact .inl ⟨_, _, _, _, rfl, rfl⟩
      · rw [if_neg (fun h => h.elim hm hc), if_neg hc]
        exact .inr ⟨.conflict, rfl, rfl⟩

/-! ### A label's records taken in order -/

/-- A record acts on its own label, after the records before it. -/
theorem viewAfter_snoc {g : OpenGroup} {s : State} {rs : List GatheredRecord} {l : LabelAddr} {w : LabelView}
    (h : viewAfter g s rs l = .ok w) (r : GatheredRecord) :
    viewAfter g s (rs ++ [r]) l = if r.label = l then w.take g r else .ok w := by
  unfold viewAfter at *
  rw [List.filter_append]
  by_cases hl : r.label = l
  · rw [if_pos hl, List.filter_cons_of_pos (by simp [hl]), List.filter_nil, List.foldlM_append, h]
    change (LabelView.take g r w >>= pure) = _
    rw [bind_pure]
  · rw [if_neg hl, List.filter_cons_of_neg (by simp [hl]), List.filter_nil, List.append_nil, h]

/-- A label that a group's records leave a view, all taken, has one after the first of them. -/
theorem viewAfter_of_append {g : OpenGroup} {s : State} {l : LabelAddr} {w : LabelView} {rs as : List GatheredRecord}
    (h : viewAfter g s (rs ++ as) l = .ok w) : ∃ x, viewAfter g s rs l = .ok x := by
  unfold viewAfter at h ⊢
  rw [List.filter_append, List.foldlM_append] at h
  cases hx : (rs.filter (fun r => r.label == l)).foldlM (fun v r => LabelView.take g r v) (viewOf s l) with
  | ok x => exact ⟨x, rfl⟩
  | error d =>
    rw [hx] at h
    cases h

/-- A label with no record is as the book holds it. -/
theorem viewAfter_of_not_mem {g : OpenGroup} {s : State} {rs : List GatheredRecord} {l : LabelAddr}
    (h : l ∉ labelsOf rs) : viewAfter g s rs l = .ok (viewOf s l) := by
  have hnil : rs.filter (fun r => r.label == l) = [] := by
    refine List.filter_eq_nil_iff.mpr fun r hr hl => h (mem_labelsOf.mpr ⟨r, hr, by simpa using hl⟩)
  rw [viewAfter, hnil]
  rfl

/-- A record has replaced the change that the view shows. -/
def LabelView.isReplaced : LabelView → Bool
  | .change _ _ _ _ replaced => replaced
  | .absent | .later _ => false

theorem replacedAfter_eq {g : OpenGroup} {s : State} {rs : List GatheredRecord} {l : LabelAddr} {w : LabelView}
    (h : viewAfter g s rs l = .ok w) : replacedAfter g s rs l = w.isReplaced := by
  unfold replacedAfter
  rw [h]
  cases w <;> rfl

/-- The entries of the book that some records replace, in order of the first record that replaces each (R43). -/
def supersededIn (g : OpenGroup) (s : State) (rs : List GatheredRecord) : List Entry :=
  (List.range rs.length).filterMap (fun k =>
    (rs[k]?).bind (fun r =>
      if replacedAfter g s (rs.take (k + 1)) r.label && !replacedAfter g s (rs.take k) r.label then
        s.entryOf r.label
      else none))

theorem supersededEntries_eq (g : OpenGroup) (s : State) : supersededEntries g s = supersededIn g s g.gathered := rfl

theorem supersededIn_snoc (g : OpenGroup) (s : State) (rs : List GatheredRecord) (r : GatheredRecord) :
    supersededIn g s (rs ++ [r]) = supersededIn g s rs ++
      (if replacedAfter g s (rs ++ [r]) r.label && !replacedAfter g s rs r.label then s.entryOf r.label
        else none).toList := by
  unfold supersededIn
  rw [List.length_append, List.length_singleton, List.range_succ, List.filterMap_append]
  congr 1
  · refine filterMap_congr_left fun k hk => ?_
    have hk : k < rs.length := List.mem_range.mp hk
    rw [List.getElem?_append_left hk, List.take_append_of_le_length (by omega), List.take_append_of_le_length (by omega)]
  · have htake : (rs ++ [r]).take (rs.length + 1) = rs ++ [r] := List.take_of_length_le (by simp)
    have hleft : (rs ++ [r]).take rs.length = rs := by simp
    rw [List.filterMap_cons, List.filterMap_nil, htake, hleft, List.getElem?_append_right (Nat.le_refl _)]
    simp only [Nat.sub_self, List.getElem?_cons_zero, Option.bind_some]
    cases (if replacedAfter g s (rs ++ [r]) r.label && !replacedAfter g s rs r.label then s.entryOf r.label
        else none) <;> rfl

end Sys2Proof.Machine
end


section
/-! The view of a check pass, kept record by record (R34). -/

namespace Sys2Proof.Machine

/-! ### What a label's view says of its entry -/

/-- The label has an entry IN_TRANSFER or CLOSING. -/
def hasBusy (s : State) (l : LabelAddr) : Bool := (s.entryOf l).any (fun e => !e.isOpen)

/-- An entry of the book as the view of its label shows it. -/
def viewedEntry (w : LabelView) (e : Entry) : Entry :=
  match w with
  | .absent => e
  | .change base target items masked _ =>
    { e with base := base, target := target, items := items, notes := { e.notes with masked := masked } }
  | .later x => { e with successor := x.successor }

theorem viewedEntry_slot (w : LabelView) (e : Entry) : (viewedEntry w e).slot = e.slot := by cases w <;> rfl

theorem viewedEntry_label (w : LabelView) (e : Entry) : (viewedEntry w e).label = e.label := by cases w <;> rfl

theorem viewedEntry_state (w : LabelView) (e : Entry) : (viewedEntry w e).state = e.state := by cases w <;> rfl

/-- A new label as its view shows it. -/
def viewedFresh (w : LabelView) (l : LabelAddr) : FreshEntry :=
  match w with
  | .change base target items masked _ => ⟨l, base, target, items, masked⟩
  | .absent | .later _ => ⟨l, .any, 0, {}, false⟩

theorem viewedFresh_label (w : LabelView) (l : LabelAddr) : (viewedFresh w l).label = l := by cases w <;> rfl

/-- The views of the labels with one of them viewed anew. -/
def withView (V : LabelAddr → LabelView) (l : LabelAddr) (w : LabelView) : LabelAddr → LabelView :=
  fun x => if x = l then w else V x

theorem withView_self (V : LabelAddr → LabelView) (l : LabelAddr) (w : LabelView) : withView V l w l = w := if_pos rfl

theorem withView_of_ne {V : LabelAddr → LabelView} {l x : LabelAddr} {w : LabelView} (h : x ≠ l) :
    withView V l w x = V x := if_neg h

/-- The form of a label's view after some records: what the label was before them does not change. -/
inductive Suits (s : State) (rs : List GatheredRecord) (l : LabelAddr) : LabelView → Prop
  | absent (h : s.entryOf l = none) (hl : l ∉ labelsOf rs) : Suits s rs l .absent
  | fresh (h : s.entryOf l = none) (hl : l ∈ labelsOf rs) (base : Base) (target : Version) (items : Items)
      (masked replaced : Bool) : Suits s rs l (.change base target items masked replaced)
  | isOpen (e : Entry) (h : s.entryOf l = some e) (ho : e.isOpen = true) (base : Base) (target : Version)
      (items : Items) (masked replaced : Bool) : Suits s rs l (.change base target items masked replaced)
  | busy (e : Entry) (h : s.entryOf l = some e) (ho : e.isOpen = false) (p : Option Successor) :
      Suits s rs l (.later { e with successor := p })

theorem Suits.snoc {s : State} {rs : List GatheredRecord} {l : LabelAddr} {w : LabelView} (h : Suits s rs l w)
    {r : GatheredRecord} (hl : l ≠ r.label) : Suits s (rs ++ [r]) l w := by
  have hiff : l ∈ labelsOf (rs ++ [r]) ↔ l ∈ labelsOf rs := by simp [labelsOf_snoc, mem_addOnce, hl]
  cases h with
  | absent h hn => exact .absent h (mt hiff.mp hn)
  | fresh h hn => exact .fresh h (hiff.mpr hn) ..
  | isOpen e h ho => exact .isOpen e h ho ..
  | busy e h ho p => exact .busy e h ho p

/-- The views `V` of the labels after some records, and the view of the check pass that shows them. -/
structure Follows (g : OpenGroup) (s : State) (rs : List GatheredRecord) (V : LabelAddr → LabelView) (v : FoldView) :
    Prop where
  views : ∀ l, viewAfter g s rs l = .ok (V l)
  suits : ∀ l, Suits s rs l (V l)
  book : v.book = s.book.map (fun e => viewedEntry (V e.label) e)
  fresh : v.fresh = ((labelsOf rs).filter (fun l => (s.entryOf l).isNone)).map (fun l => viewedFresh (V l) l)
  changed : v.changed = (labelsOf rs).filter (hasOpen s)
  succeeded : v.succeeded = (labelsOf rs).filter (hasBusy s)
  replaced : v.replaced.map s.entryOf = (supersededIn g s rs).map some
  marks : ∀ l, l ∈ v.replaced ↔ hasOpen s l = true ∧ (V l).isReplaced = true

theorem viewOf_open {s : State} {l : LabelAddr} {e : Entry} (he : s.entryOf l = some e) (ho : e.isOpen = true) :
    viewOf s l = .change e.base e.target e.items e.notes.masked false := by
  unfold viewOf
  rw [he]
  exact if_pos ho

theorem viewOf_busy {s : State} {l : LabelAddr} {e : Entry} (he : s.entryOf l = some e) (ho : e.isOpen = false) :
    viewOf s l = .later e := by
  unfold viewOf
  rw [he]
  exact if_neg (by simp [ho])

theorem viewOf_none {s : State} {l : LabelAddr} (he : s.entryOf l = none) : viewOf s l = .absent := by
  unfold viewOf
  rw [he]

/-- Before the first record every label is viewed as the book holds it. -/
theorem viewedEntry_viewOf {s : State} {e : Entry} (he : s.entryOf e.label = some e) :
    viewedEntry (viewOf s e.label) e = e := by
  cases ho : e.isOpen with
  | true => rw [viewOf_open he ho]; rfl
  | false => rw [viewOf_busy he ho]; rfl

theorem Follows.start (g : OpenGroup) {s : State} (hb : BookIsKeyed s) :
    Follows g s [] (viewOf s) (startView s) := by
  have hsuits : ∀ l, Suits s [] l (viewOf s l) ∧ (viewOf s l).isReplaced = false := by
    intro l
    cases he : s.entryOf l with
    | none => exact viewOf_none he ▸ ⟨.absent he (by simp [labelsOf]), rfl⟩
    | some e =>
      cases ho : e.isOpen with
      | true => exact viewOf_open he ho ▸ ⟨.isOpen e he ho .., rfl⟩
      | false => exact viewOf_busy he ho ▸ ⟨.busy e he ho e.successor, rfl⟩
  refine ⟨fun l => rfl, fun l => (hsuits l).1, ?_, rfl, rfl, rfl, rfl, fun l => ?_⟩
  · exact (List.map_id s.book).symm.trans
      (List.map_congr_left fun e he => (viewedEntry_viewOf (entryOf_of_mem hb he)).symm)
  · simp [startView, (hsuits l).2]

/-! ### Where a record finds its label -/

theorem Follows.find_book {g : OpenGroup} {s : State} {rs : List GatheredRecord} {V : LabelAddr → LabelView}
    {v : FoldView} (h : Follows g s rs V v) (l : LabelAddr) :
    v.book.find? (fun e => e.label == l) = (s.entryOf l).map (viewedEntry (V l)) := by
  rw [h.book, List.find?_map]
  have hp : (fun e : Entry => e.label == l) ∘ (fun e => viewedEntry (V e.label) e) = fun e => e.label == l :=
    funext fun e => by simp [viewedEntry_label]
  rw [hp]
  change (s.entryOf l).map _ = _
  cases he : s.entryOf l with
  | none => rfl
  | some e =>
    obtain ⟨_, rfl⟩ := entryOf_some he
    rfl

theorem find?_viewedFresh {V : LabelAddr → LabelView} (l : LabelAddr) : ∀ ls : List LabelAddr,
    (ls.map (fun l => viewedFresh (V l) l)).find? (fun n => n.label == l) =
      if l ∈ ls then some (viewedFresh (V l) l) else none
  | [] => by simp
  | x :: xs => by
    rw [List.map_cons, List.find?_cons, viewedFresh_label]
    by_cases hx : x = l
    · simp [hx]
    · have hx' : ¬ l = x := fun h => hx h.symm
      have hne : (x == l) = false := by simpa using hx
      rw [hne]
      simp [hx', find?_viewedFresh l xs]

theorem Follows.find_fresh {g : OpenGroup} {s : State} {rs : List GatheredRecord} {V : LabelAddr → LabelView}
    {v : FoldView} (h : Follows g s rs V v) {l : LabelAddr} (hn : s.entryOf l = none) :
    v.fresh.find? (fun n => n.label == l) = if l ∈ labelsOf rs then some (viewedFresh (V l) l) else none := by
  rw [h.fresh, find?_viewedFresh]
  simp [hn]

/-! ### One record -/

theorem FoldClass.passes_or_stops (c : FoldClass) :
    ((∀ v, stopOr c v = .ok v) ∧ ∀ w, takeOr c w = .ok w) ∨
    ∃ why : FoldStop, (∀ v, stopOr c v = .error why) ∧ ∀ w, takeOr c w = .error why.detail := by
  cases c with
  | merge | chain | replace => exact .inl ⟨fun _ => rfl, fun _ => rfl⟩
  | stale => exact .inr ⟨.stale, fun _ => rfl, fun _ => rfl⟩
  | conflict => exact .inr ⟨.conflict, fun _ => rfl, fun _ => rfl⟩

/-- One entry of the book viewed anew. -/
theorem putEntry_viewed {s : State} (hb : BookIsKeyed s) {l : LabelAddr} {e : Entry} (he : s.entryOf l = some e)
    (V : LabelAddr → LabelView) (w : LabelView) :
    putEntry (viewedEntry w e) (s.book.map (fun x => viewedEntry (V x.label) x)) =
      s.book.map (fun x => viewedEntry (withView V l w x.label) x) := by
  obtain ⟨hm, rfl⟩ := entryOf_some he
  unfold putEntry
  rw [List.map_map]
  refine List.map_congr_left fun x hx => ?_
  rw [Function.comp_apply, viewedEntry_slot, viewedEntry_slot]
  by_cases hs : x.slot = e.slot
  · obtain rfl : x = e := KeyedBook.slot_inj hb hx hm hs
    rw [if_pos rfl, withView_self]
  · have hl : x.label ≠ e.label := fun hl => hs (KeyedBook.label_inj hb hx hm hl ▸ rfl)
    rw [if_neg hs, withView_of_ne hl]

/-- A label without an entry viewed anew changes no entry of the book. -/
theorem map_viewedEntry_fresh {s : State} {l : LabelAddr} (he : s.entryOf l = none) (V : LabelAddr → LabelView)
    (w : LabelView) : s.book.map (fun x => viewedEntry (withView V l w x.label) x) =
      s.book.map (fun x => viewedEntry (V x.label) x) :=
  List.map_congr_left fun x hx => by rw [withView_of_ne (entryOf_none he x hx)]

/-- A label viewed anew is not among others. -/
theorem map_viewedFresh_of_not_mem {l : LabelAddr} {ls : List LabelAddr} (h : l ∉ ls) (V : LabelAddr → LabelView)
    (w : LabelView) : ls.map (fun x => viewedFresh (withView V l w x) x) =
      ls.map (fun x => viewedFresh (V x) x) :=
  List.map_congr_left fun x hx => by rw [withView_of_ne (fun hl : x = l => h (hl ▸ hx))]

section
variable {g : OpenGroup} {s : State} {rs : List GatheredRecord} {V : LabelAddr → LabelView} {v : FoldView}

/-- The views after one more record. -/
theorem Follows.views_snoc (h : Follows g s rs V v) {r : GatheredRecord} {w : LabelView}
    (hw : LabelView.take g r (V r.label) = .ok w) (l : LabelAddr) :
    viewAfter g s (rs ++ [r]) l = .ok (withView V r.label w l) := by
  rw [viewAfter_snoc (h.views l)]
  by_cases hl : r.label = l
  · subst hl
    rw [if_pos rfl, withView_self, hw]
  · rw [if_neg hl, withView_of_ne (Ne.symm hl)]

theorem Follows.suits_snoc (h : Follows g s rs V v) {r : GatheredRecord} {w : LabelView}
    (hw : Suits s (rs ++ [r]) r.label w) (l : LabelAddr) : Suits s (rs ++ [r]) l (withView V r.label w l) := by
  by_cases hl : l = r.label
  · subst hl
    rw [withView_self]
    exact hw
  · rw [withView_of_ne hl]
    exact (h.suits l).snoc hl

theorem labelsOf_snoc_self (rs : List GatheredRecord) (r : GatheredRecord) : r.label ∈ labelsOf (rs ++ [r]) := by
  simp [labelsOf_snoc, mem_addOnce]

theorem filter_labelsOf_snoc (p : LabelAddr → Bool) (rs : List GatheredRecord) (r : GatheredRecord) :
    (labelsOf (rs ++ [r])).filter p =
      if p r.label then addOnce r.label ((labelsOf rs).filter p) else (labelsOf rs).filter p := by
  rw [labelsOf_snoc, filter_addOnce]

/-- The label of a record that no open entry takes is not marked replaced. -/
theorem Follows.replaced_snoc (h : Follows g s rs V v) {r : GatheredRecord} {w : LabelView}
    (hw : LabelView.take g r (V r.label) = .ok w) :
    (supersededIn g s (rs ++ [r])).map some = v.replaced.map s.entryOf ++
      ((if w.isReplaced && !(V r.label).isReplaced then s.entryOf r.label else none).toList).map some := by
  have hnew := h.views_snoc hw r.label
  rw [withView_self] at hnew
  rw [supersededIn_snoc, replacedAfter_eq hnew, replacedAfter_eq (h.views r.label), List.map_append, h.replaced]

theorem changedBy_isReplaced (c : FoldClass) (r : GatheredRecord) (base : Base) (target : Version) (items : Items)
    (masked replaced : Bool) :
    (changedBy c r base target items masked replaced).isReplaced = (replaced || decide (c = .replace)) := by
  cases c <;> rfl

/-- The labels replaced after a record of some class on an open entry. -/
def replacedBy (c : FoldClass) (l : LabelAddr) (ls : List LabelAddr) : List LabelAddr :=
  if c = .replace then addOnce l ls else ls

theorem mem_replacedBy {c : FoldClass} {l m : LabelAddr} {ls : List LabelAddr} :
    m ∈ replacedBy c l ls ↔ m ∈ ls ∨ c = .replace ∧ m = l := by
  unfold replacedBy
  by_cases hc : c = .replace
  · rw [if_pos hc, mem_addOnce]
    simp [hc, or_comm]
  · simp [hc]

/-- A label replaced for the first time joins the labels replaced. -/
theorem replacedBy_eq (c : FoldClass) {l : LabelAddr} {ls : List LabelAddr} {replaced : Bool}
    (h : l ∈ ls ↔ replaced = true) :
    replacedBy c l ls = ls ++ if (replaced || decide (c = .replace)) && !replaced then [l] else [] := by
  unfold replacedBy addOnce
  by_cases hc : c = .replace <;> cases replaced <;> simp_all

/-- A record on a label with an open entry (R35). -/
theorem Follows.step_open (hb : BookIsKeyed s) (h : Follows g s rs V v) (r : GatheredRecord) {e : Entry}
    (he : s.entryOf r.label = some e) (ho : e.isOpen = true) {base : Base} {target : Version} {items : Items}
    {masked replaced : Bool} (hV : V r.label = .change base target items masked replaced) :
    (∃ w v', LabelView.take g r (V r.label) = .ok w ∧ foldRecord g r v = .ok v' ∧
      Follows g s (rs ++ [r]) (withView V r.label w) v') ∨
    ∃ why : FoldStop, LabelView.take g r (V r.label) = .error why.detail ∧ foldRecord g r v = .error why := by
  have hrec : foldRecord g r v = foldOpen r (viewedEntry (V r.label) e) v := by
    unfold foldRecord
    rw [h.find_book, he]
    exact if_pos ((isOpen_of_state (viewedEntry_state _ _)).trans ho)
  rw [hrec, hV, take_change]
  unfold foldOpen
  let c := classify base target r.base r.target
  rcases FoldClass.passes_or_stops c with ⟨hok, hok'⟩ | ⟨why, hstop, hstop'⟩
  · let w := changedBy c r base target items masked replaced
    have hw : LabelView.take g r (V r.label) = .ok w := by rw [hV, take_change]; exact hok' w
    have hopen : hasOpen s r.label = true := by simp [hasOpen, he, ho]
    have hnot : hasBusy s r.label = false := by simp [hasBusy, he, ho]
    have hmark : r.label ∈ v.replaced ↔ replaced = true := by rw [h.marks, hV]; simp [hopen, LabelView.isReplaced]
    refine .inl ⟨w, _, hok' w, hok _, h.views_snoc hw, h.suits_snoc (.isOpen e he ho ..), ?_, ?_, ?_, ?_, ?_, ?_⟩
    · dsimp only
      rw [h.book, ← putEntry_viewed hb he V w]
      rfl
    · dsimp only
      rw [filter_labelsOf_snoc, if_neg (by simp [he]), map_viewedFresh_of_not_mem (by simp [he]), h.fresh]
    · dsimp only
      rw [filter_labelsOf_snoc, if_pos hopen, h.changed]
    · dsimp only
      rw [filter_labelsOf_snoc, if_neg (by simp [hnot]), h.succeeded]
    · rw [h.replaced_snoc hw, hV, changedBy_isReplaced]
      change (replacedBy c r.label v.replaced).map s.entryOf = _
      rw [replacedBy_eq c hmark, List.map_append, he]
      congr 1
      change List.map s.entryOf (if (replaced || decide (c = .replace)) && !replaced then [r.label] else []) =
        (if (replaced || decide (c = .replace)) && !replaced then some e else none).toList.map some
      split
      · exact congrArg (fun x => [x]) he
      · rfl
    · intro l
      change l ∈ replacedBy c r.label v.replaced ↔ _
      rw [mem_replacedBy]
      by_cases hl : l = r.label
      · subst hl
        rw [withView_self, changedBy_isReplaced]
        simp [hmark, hopen]
      · rw [withView_of_ne hl, h.marks l]
        simp [hl]
  · exact .inr ⟨why, hstop' _, hstop _⟩

/-- A record on a label with a busy or closing entry (R37). -/
theorem Follows.step_busy (hb : BookIsKeyed s) (h : Follows g s rs V v) (r : GatheredRecord) {e : Entry}
    (he : s.entryOf r.label = some e) (ho : e.isOpen = false) {p : Option Successor}
    (hV : V r.label = .later { e with successor := p }) :
    (∃ w v', LabelView.take g r (V r.label) = .ok w ∧ foldRecord g r v = .ok v' ∧
      Follows g s (rs ++ [r]) (withView V r.label w) v') ∨
    ∃ why : FoldStop, LabelView.take g r (V r.label) = .error why.detail ∧ foldRecord g r v = .error why := by
  have hrec : foldRecord g r v = foldBusy g r { e with successor := p } v := by
    unfold foldRecord
    rw [h.find_book, he, hV]
    exact if_neg (by simpa [viewedEntry, Entry.isOpen] using ho)
  rw [hrec, hV]
  rcases foldBusy_take g r { e with successor := p } v with ⟨base, target, items, masked, htake, hfold⟩ | hstop
  · have hw := hV ▸ htake
    have hnot : hasOpen s r.label = false := by simp [hasOpen, he, ho]
    have hbusy : hasBusy s r.label = true := by simp [hasBusy, he, ho]
    refine .inl ⟨_, _, htake, hfold, h.views_snoc hw, h.suits_snoc (.busy e he ho _), ?_, ?_, ?_, ?_, ?_, ?_⟩
    · rw [← putEntry_viewed hb he V, ← h.book]
      rfl
    · change v.fresh = _
      rw [filter_labelsOf_snoc, if_neg (by simp [he]), map_viewedFresh_of_not_mem (by simp [he]), h.fresh]
    · change v.changed = _
      rw [filter_labelsOf_snoc, if_neg (by simp [hnot]), h.changed]
    · change addOnce r.label v.succeeded = _
      rw [filter_labelsOf_snoc, if_pos hbusy, h.succeeded]
    · rw [h.replaced_snoc hw]
      exact (List.append_nil _).symm
    · intro l
      refine (h.marks l).trans (and_congr_right fun hl => ?_)
      rw [withView_of_ne fun hx => by rw [hx, hnot] at hl; cases hl]
  · exact .inr hstop

/-- A label without an entry is not marked replaced, nor among those of the book. -/
theorem Follows.of_fresh (h : Follows g s rs V v) {r : GatheredRecord} (he : s.entryOf r.label = none) {w : LabelView}
    (hw : LabelView.take g r (V r.label) = .ok w) (hsuits : Suits s (rs ++ [r]) r.label w) {fresh : List FreshEntry}
    (hfresh : fresh = (addOnce r.label ((labelsOf rs).filter (fun l => (s.entryOf l).isNone))).map
      (fun l => viewedFresh (withView V r.label w l) l)) :
    Follows g s (rs ++ [r]) (withView V r.label w) { v with fresh := fresh } := by
  have hnot : hasOpen s r.label = false := by simp [hasOpen, he]
  have hbusy : hasBusy s r.label = false := by simp [hasBusy, he]
  refine ⟨h.views_snoc hw, h.suits_snoc hsuits, ?_, ?_, ?_, ?_, ?_, fun l => ?_⟩
  · rw [map_viewedEntry_fresh he]
    exact h.book
  · rw [filter_labelsOf_snoc, if_pos (by simp [he])]
    exact hfresh
  · rw [filter_labelsOf_snoc, if_neg (by simp [hnot])]
    exact h.changed
  · rw [filter_labelsOf_snoc, if_neg (by simp [hbusy])]
    exact h.succeeded
  · rw [h.replaced_snoc hw, he, ite_self]
    exact (List.append_nil _).symm
  · refine (h.marks l).trans (and_congr_right fun hl => ?_)
    rw [withView_of_ne fun hx => by rw [hx, hnot] at hl; cases hl]

/-- A record on a label that was new before it (R36). -/
theorem Follows.step_fresh (h : Follows g s rs V v) (r : GatheredRecord) (he : s.entryOf r.label = none)
    (hl : r.label ∈ labelsOf rs) {base : Base} {target : Version} {items : Items} {masked replaced : Bool}
    (hV : V r.label = .change base target items masked replaced) :
    (∃ w v', LabelView.take g r (V r.label) = .ok w ∧ foldRecord g r v = .ok v' ∧
      Follows g s (rs ++ [r]) (withView V r.label w) v') ∨
    ∃ why : FoldStop, LabelView.take g r (V r.label) = .error why.detail ∧ foldRecord g r v = .error why := by
  have hrec : foldRecord g r v = foldFresh r (viewedFresh (V r.label) r.label) v := by
    unfold foldRecord
    rw [h.find_book, he, h.find_fresh he, if_pos hl]
    rfl
  rw [hrec, hV, take_change]
  unfold foldFresh
  let c := classify base target r.base r.target
  rcases FoldClass.passes_or_stops c with ⟨hok, hok'⟩ | ⟨why, hstop, hstop'⟩
  · let w := changedBy c r base target items masked replaced
    have hw : LabelView.take g r (V r.label) = .ok w := by rw [hV, take_change]; exact hok' w
    have hin : r.label ∈ (labelsOf rs).filter (fun l => (s.entryOf l).isNone) := by simp [hl, he]
    refine .inl ⟨w, _, hok' w, hok _, h.of_fresh he hw (.fresh he (labelsOf_snoc_self rs r) ..) ?_⟩
    rw [addOnce, if_pos hin, h.fresh, List.map_map]
    refine List.map_congr_left fun x _ => ?_
    rw [Function.comp_apply, viewedFresh_label]
    by_cases hx : x = r.label
    · subst hx
      rw [if_pos rfl, withView_self]
      rfl
    · rw [if_neg hx, withView_of_ne hx]
  · exact .inr ⟨why, hstop' _, hstop _⟩

/-- The first record of a label without an entry (R36). -/
theorem Follows.step_absent (h : Follows g s rs V v) (r : GatheredRecord) (he : s.entryOf r.label = none)
    (hl : r.label ∉ labelsOf rs) (hV : V r.label = .absent) :
    ∃ w v', LabelView.take g r (V r.label) = .ok w ∧ foldRecord g r v = .ok v' ∧
      Follows g s (rs ++ [r]) (withView V r.label w) v' := by
  have hw : LabelView.take g r (V r.label) = .ok (.change r.base r.target r.items r.masked false) := by rw [hV]; rfl
  have hrec : foldRecord g r v =
      .ok { v with fresh := v.fresh ++ [⟨r.label, r.base, r.target, r.items, r.masked⟩] } := by
    unfold foldRecord
    rw [h.find_book, he, h.find_fresh he, if_neg hl]
    rfl
  have hnew : r.label ∉ (labelsOf rs).filter (fun l => (s.entryOf l).isNone) := by simp [hl]
  refine ⟨_, _, hw, hrec, h.of_fresh he hw (.fresh he (labelsOf_snoc_self rs r) ..) ?_⟩
  rw [addOnce, if_neg hnew, List.map_append, map_viewedFresh_of_not_mem hnew, ← h.fresh, List.map_singleton,
    withView_self]
  rfl

/-- One record (R34). -/
theorem Follows.step (hb : BookIsKeyed s) (h : Follows g s rs V v) (r : GatheredRecord) :
    (∃ w v', LabelView.take g r (V r.label) = .ok w ∧ foldRecord g r v = .ok v' ∧
      Follows g s (rs ++ [r]) (withView V r.label w) v') ∨
    ∃ why : FoldStop, LabelView.take g r (V r.label) = .error why.detail ∧ foldRecord g r v = .error why := by
  have hs := h.suits r.label
  generalize hV : V r.label = w at hs
  rw [← hV]
  cases hs with
  | absent he hl => exact .inl (h.step_absent r he hl hV)
  | fresh he hl => exact h.step_fresh r he hl hV
  | isOpen e he ho => exact h.step_open hb r he ho hV
  | busy e he ho p => exact h.step_busy hb r he ho hV

/-! ### The pass -/

/-- A pass whose records all take ends with the view that shows them. -/
theorem Follows.checkPass_done (hb : BookIsKeyed s) : ∀ (as : List GatheredRecord) {rs : List GatheredRecord}
    {V : LabelAddr → LabelView} {v : FoldView} (k : Nat), Follows g s rs V v →
    (∀ l ∈ labelsOf (rs ++ as), ∃ w, viewAfter g s (rs ++ as) l = .ok w) →
    ∃ V' v', checkPass g as k v = .done v' ∧ Follows g s (rs ++ as) V' v'
  | [], rs, V, v, k, h, _ => ⟨V, v, rfl, by rwa [List.append_nil]⟩
  | r :: as, rs, V, v, k, h, hall => by
    have happ : rs ++ r :: as = (rs ++ [r]) ++ as := by simp
    rw [happ] at hall ⊢
    rcases h.step hb r with ⟨w, v', hw, hrec, hnext⟩ | ⟨why, hstop, _⟩
    · obtain ⟨V', u, hpass, hu⟩ := hnext.checkPass_done hb as (k + 1) hall
      refine ⟨V', u, ?_, hu⟩
      rw [checkPass, hrec]
      exact hpass
    · obtain ⟨w, hw⟩ := hall r.label (mem_labelsOf.mpr ⟨r, by simp, rfl⟩)
      obtain ⟨x, hx⟩ := viewAfter_of_append hw
      rw [viewAfter_snoc (h.views r.label), if_pos rfl, hstop] at hx
      cases hx

/-- A pass stops at the first record that its label does not take. -/
theorem Follows.checkPass_stops (hb : BookIsKeyed s) (r : GatheredRecord) (after : List GatheredRecord) :
    ∀ (as : List GatheredRecord) {rs : List GatheredRecord} {V : LabelAddr → LabelView} {v : FoldView} (k : Nat)
    {stop : Option Detail}, Follows g s rs V v →
    (∀ x ∈ rs ++ as, ∃ w, viewAfter g s (rs ++ as) x.label = .ok w) →
    viewAfter g s (rs ++ as ++ [r]) r.label = .error stop →
    ∃ why : FoldStop, why.detail = stop ∧ checkPass g (as ++ r :: after) k v = .stopped why r (k + as.length)
  | [], rs, V, v, k, stop, h, _, hstop => by
    rw [List.append_nil, viewAfter_snoc (h.views r.label), if_pos rfl] at hstop
    rcases h.step hb r with ⟨w, v', hw, _, _⟩ | ⟨why, htake, hrec⟩
    · rw [hw] at hstop
      cases hstop
    · rw [htake] at hstop
      cases hstop
      refine ⟨why, rfl, ?_⟩
      rw [List.nil_append, checkPass, hrec]
      rfl
  | x :: as, rs, V, v, k, stop, h, hall, hstop => by
    have happ : rs ++ x :: as = (rs ++ [x]) ++ as := by simp
    rw [happ] at hall hstop
    rcases h.step hb x with ⟨w, v', hw, hrec, hnext⟩ | ⟨why, htake, _⟩
    · obtain ⟨why, hwhy, hpass⟩ := hnext.checkPass_stops hb r after as (k + 1) hall hstop
      refine ⟨why, hwhy, ?_⟩
      rw [List.cons_append, checkPass, hrec, List.length_cons, Nat.add_comm as.length 1, ← Nat.add_assoc]
      exact hpass
    · obtain ⟨w, hw⟩ := hall x (by simp)
      obtain ⟨y, hy⟩ := viewAfter_of_append hw
      rw [viewAfter_snoc (h.views x.label), if_pos rfl, htake] at hy
      cases hy

end

end Sys2Proof.Machine
end


section
/-! What a fold's application announces and makes of the book (R40 to R43). -/

namespace Sys2Proof.Machine

/-! ### A touched entry -/

/-- An entry that a fold has touched, before its re-check: WAITING, with a fresh face. -/
structure IsTouched (e : Entry) : Prop where
  state : e.state = .waiting
  fit : e.notes.fit = {}

/-- A re-check changes an entry's state and its notes on the fit alone. -/
theorem refittedEntry_eq (s : State) (e : Entry) :
    ∃ n, refittedEntry s e = { e with state := (refittedEntry s e).state, notes := { e.notes with fit := n } } := by
  unfold refittedEntry
  split
  · split
    · exact ⟨e.notes.fit, rfl⟩
    · split
      · exact ⟨_, rfl⟩
      · exact ⟨e.notes.fit, rfl⟩
  · exact ⟨e.notes.fit, rfl⟩

theorem refittedEntry_slot (s : State) (e : Entry) : (refittedEntry s e).slot = e.slot := by
  obtain ⟨n, h⟩ := refittedEntry_eq s e
  rw [h]

theorem refittedEntry_label (s : State) (e : Entry) : (refittedEntry s e).label = e.label := by
  obtain ⟨n, h⟩ := refittedEntry_eq s e
  rw [h]

/-- What is said of a touched entry that was made late. -/
def madeLateOf (s : State) (e : Entry) : List Entry := [e].filter (madeLate s)

/-- The reports and faults of a touched entry: of its lateness, and of its fit. -/
theorem fold_says {s : State} {e : Entry} (h : IsTouched e) :
    foldBodies s (refittedEntry s e) = (madeLateOf s e).map (lateBody s s.clock) ++
        (if (refittedEntry s e).state = .held then [heldBody s (refittedEntry s e)] else []) ∧
      foldFaults s (refittedEntry s e) = (madeLateOf s e).map (lateFault s) ++
        (if (refittedEntry s e).state = .held then [heldFault s (refittedEntry s e)] else []) := by
  obtain ⟨n, hn⟩ := refittedEntry_eq s e
  have hmade : madeLate s (refittedEntry s e) = madeLate s e := by rw [hn]; rfl
  have hbody : lateBody s s.clock
      { refittedEntry s e with notes := { (refittedEntry s e).notes with fit := {} } } = lateBody s s.clock e := by
    rw [hn]
    unfold lateBody
    rw [← h.fit]
  have hfault : lateFault s (refittedEntry s e) = lateFault s e := by rw [hn]; rfl
  unfold foldBodies foldFaults madeLateOf
  rw [hmade, hbody, hfault]
  cases hl : madeLate s e with
  | true => rw [List.filter_cons_of_pos hl]; exact ⟨rfl, rfl⟩
  | false => rw [List.filter_cons_of_neg (by simp [hl])]; exact ⟨rfl, rfl⟩

/-- What an afterTouch's re-check does to an entry of the book (R41, R50, R51). -/
theorem refit_touched {s t : State} {e : Entry} {x : RosterRecord} (h : IsTouched e) (hc : t.config = s.config)
    (hclock : t.clock = s.clock) (hheld : (s.entryOf e.label).any (fun o => o.state == .held) = true)
    (hx : s.recordOf e.label = some x) :
    Announces t (refit x.model e t)
        (if (refittedEntry s e).state = .held then [heldBody s (refittedEntry s e)] else [])
        (if (refittedEntry s e).state = .held then [heldFault s (refittedEntry s e)] else []) ∧
      (refit x.model e t).book = putEntry (refittedEntry s e) t.book ∧ (refit x.model e t).closing = t.closing := by
  have hbody : heldBody t = heldBody s := by
    funext y
    unfold heldBody ownStation
    rw [hc, hclock]
  have hfault : heldFault t = heldFault s := by
    funext y
    unfold heldFault
    rw [hclock]
  cases hfit : fit e.face s.config.models[x.model.toFin] with
  | some y =>
    obtain ⟨d, n⟩ := y
    have hr : refittedEntry s e = { e with notes := { e.notes with fit := n } } := by
      unfold refittedEntry
      rw [if_pos hheld, hx]
      dsimp only
      rw [hfit]
    have hstate : (refittedEntry s e).state = .waiting := by rw [hr]; exact h.state
    rw [refit_fits (hc ▸ hfit), hstate, if_neg (by simp), if_neg (by simp), hr]
    rw [show ({ e with state := .waiting, notes := { e.notes with fit := n } } : Entry) =
      { e with notes := { e.notes with fit := n } } by rw [← h.state]]
    exact ⟨.edit t _ t.closing, rfl, rfl⟩
  | none =>
    have hr : refittedEntry s e = { e with state := .held, notes := { e.notes with fit := {} } } := by
      unfold refittedEntry
      rw [if_pos hheld, hx]
      dsimp only
      rw [hfit]
      dsimp only
      rw [← h.fit]
    rw [hr, if_pos rfl, if_pos rfl, refit_enters (hc ▸ hfit) (by simp [h.state]), ← hbody, ← hfault]
    exact enterHeld_announces e t

/-- What follows the application for one touched entry (R41). -/
theorem afterTouch_announces {s t : State} {e : Entry} (h : IsTouched e) (hc : t.config = s.config)
    (hclock : t.clock = s.clock) (hroster : t.roster = s.roster) :
    Announces t (afterTouch s t e) (foldBodies s (refittedEntry s e)) (foldFaults s (refittedEntry s e)) ∧
      (putEntry e t.book = t.book → (afterTouch s t e).book = putEntry (refittedEntry s e) t.book) ∧
      (afterTouch s t e).closing = t.closing := by
  let u := noteLate ((s.entryOf e.label).any (fun o => o.late)) e t
  have hnote : Announces t u ((madeLateOf s e).map (lateBody s s.clock)) ((madeLateOf s e).map (lateFault s)) := by
    have hn := noteLate_announces ((s.entryOf e.label).any (fun o => o.late)) e t
    have hbody : lateBody t t.clock = lateBody s s.clock := by
      funext y
      unfold lateBody ownStation
      rw [hc, hclock]
    have hfault : lateFault t = lateFault s := by
      funext y
      unfold lateFault
      rw [hclock]
    rwa [hbody, hfault] at hn
  have htells : Tells t u := noteLate_tells ..
  have hrec : u.recordOf e.label = s.recordOf e.label := by
    unfold State.recordOf
    rw [hnote.frame]
    exact congrArg (List.find? _) hroster
  obtain ⟨hbodies, hfaults⟩ := fold_says (s := s) h
  have hafter : afterTouch s t e = if (s.entryOf e.label).any (fun o => o.state == .held) then
      (match u.recordOf e.label with | some r => refit r.model e u | none => u) else u := rfl
  have stays : refittedEntry s e = e → afterTouch s t e = u →
      Announces t (afterTouch s t e) (foldBodies s (refittedEntry s e)) (foldFaults s (refittedEntry s e)) ∧
      (putEntry e t.book = t.book → (afterTouch s t e).book = putEntry (refittedEntry s e) t.book) ∧
      (afterTouch s t e).closing = t.closing := by
    intro hr ht
    have hstate : ¬ (refittedEntry s e).state = .held := by rw [hr, h.state]; simp
    rw [hbodies, hfaults, if_neg hstate, if_neg hstate, List.append_nil, List.append_nil, ht, hr]
    exact ⟨hnote, fun hput => htells.book_eq.trans hput.symm, htells.closing_eq⟩
  by_cases hheld : (s.entryOf e.label).any (fun o => o.state == .held) = true
  · rw [if_pos hheld, hrec] at hafter
    cases hx : s.recordOf e.label with
    | none =>
      rw [hx] at hafter
      refine stays ?_ hafter
      unfold refittedEntry
      rw [if_pos hheld, hx]
    | some x =>
      rw [hx] at hafter
      obtain ⟨hann, hbook, hclosing⟩ := refit_touched (t := u) h (hnote.config.trans hc) (hnote.clock.trans hclock)
        hheld hx
      rw [hafter, hbodies, hfaults]
      exact ⟨hnote.trans hann, fun _ => hbook.trans (congrArg _ htells.book_eq), hclosing.trans htells.closing_eq⟩
  · refine stays (if_neg hheld) (hafter.trans (if_neg hheld))

/-! ### Every touched entry, in order of slot -/

theorem find?_slot_filter {p : Entry → Bool} {e : Entry} : ∀ {b : List Entry},
    b.Pairwise (fun x y => x.slot < y.slot) → e ∈ b →
    (b.filter p).find? (fun x => x.slot == e.slot) = if p e then some e else none
  | x :: xs, hp, he => by
    obtain ⟨hx, hxs⟩ := List.pairwise_cons.mp hp
    rcases List.mem_cons.mp he with rfl | hm
    · have hnone : ∀ y ∈ xs.filter p, ¬ (y.slot == e.slot) = true := by
        intro y hy
        have := hx y ((List.mem_filter.mp hy).1)
        simp only [beq_iff_eq]
        omega
      cases hpe : p e with
      | true => simp [hpe]
      | false => simp [hpe, List.find?_eq_none.mpr hnone]
    · have hne : (x.slot == e.slot) = false := by
        have := hx e hm
        simp only [beq_eq_false_iff_ne]
        omega
      rw [List.filter_cons]
      split
      · rw [List.find?_cons, hne]
        exact find?_slot_filter hxs hm
      · exact find?_slot_filter hxs hm

/-- Entries put one after another in a book. -/
theorem foldl_putEntry {f : Entry → Entry} (hf : ∀ e, (f e).slot = e.slot) : ∀ {es : List Entry} {b : List Entry},
    es.Pairwise (fun x y => x.slot < y.slot) → es.foldl (fun b e => putEntry (f e) b) b =
      b.map (fun x => ((es.find? (fun e => e.slot == x.slot)).map f).getD x)
  | [], b, _ => by simp
  | e :: es, b, hp => by
    obtain ⟨he, hes⟩ := List.pairwise_cons.mp hp
    rw [List.foldl_cons, foldl_putEntry hf hes]
    unfold putEntry
    rw [List.map_map]
    refine List.map_congr_left fun x _ => ?_
    rw [Function.comp_apply, hf, List.find?_cons]
    by_cases hx : x.slot = e.slot
    · have hnone : es.find? (fun y => y.slot == (f e).slot) = none := by
        refine List.find?_eq_none.mpr fun y hy => ?_
        have := he y hy
        rw [hf]
        simp only [beq_iff_eq]
        omega
      rw [if_pos hx, hnone, hx, beq_self_eq_true]
      rfl
    · have hne : (e.slot == x.slot) = false := by simpa using Ne.symm hx
      rw [if_neg hx, hne]

/-- The entries of a book that a property picks, put anew in their slots. -/
theorem foldl_putEntry_filter {f : Entry → Entry} (hf : ∀ e, (f e).slot = e.slot) (p : Entry → Bool) {b : List Entry}
    (hp : b.Pairwise (fun x y => x.slot < y.slot)) :
    (b.filter p).foldl (fun b e => putEntry (f e) b) b = b.map (fun e => if p e then f e else e) := by
  rw [foldl_putEntry hf (hp.filter p)]
  refine List.map_congr_left fun e he => ?_
  rw [find?_slot_filter hp he]
  split <;> rfl

/-- An entry of a keyed book put in its slot. -/
theorem putEntry_of_mem {b : List Entry} (hp : b.Pairwise (fun x y => x.slot < y.slot)) {e : Entry} (he : e ∈ b) :
    putEntry e b = b := by
  refine (List.map_congr_left fun x hx => ?_).trans (List.map_id b)
  split
  next hs => exact (eq_of_key_eq hs (hp.imp fun h => Nat.ne_of_lt h) hx he).symm
  next => rfl

theorem putEntry_comm {x y : Entry} (h : x.slot ≠ y.slot) (b : List Entry) :
    putEntry x (putEntry y b) = putEntry y (putEntry x b) := by
  unfold putEntry
  rw [List.map_map, List.map_map]
  refine List.map_congr_left fun z _ => ?_
  rw [Function.comp_apply, Function.comp_apply]
  by_cases hx : z.slot = x.slot
  · have hy : ¬ z.slot = y.slot := fun hy => h (hx.symm.trans hy)
    rw [if_neg hy, if_pos hx, if_neg h]
  · rw [if_neg hx]
    by_cases hy : z.slot = y.slot
    · rw [if_pos hy, if_neg (Ne.symm h)]
    · rw [if_neg hy, if_neg hx]

/-- What follows the application for the touched entries. -/
theorem afterTouches_announces {s t : State} {es : List Entry} (hall : ∀ e ∈ es, IsTouched e)
    (hp : es.Pairwise (fun x y => x.slot < y.slot)) (hmem : ∀ e ∈ es, putEntry e t.book = t.book)
    (hc : t.config = s.config) (hclock : t.clock = s.clock) (hroster : t.roster = s.roster) :
    Announces t (es.foldl (afterTouch s) t) ((es.map (refittedEntry s)).flatMap (foldBodies s))
        ((es.map (refittedEntry s)).flatMap (foldFaults s)) ∧
      (es.foldl (afterTouch s) t).book = es.foldl (fun b e => putEntry (refittedEntry s e) b) t.book ∧
      (es.foldl (afterTouch s) t).closing = t.closing := by
  induction es generalizing t with
  | nil => exact ⟨.refl t, rfl, rfl⟩
  | cons e es ih =>
    obtain ⟨he, hes⟩ := List.pairwise_cons.mp hp
    obtain ⟨hann, hbook, hclosing⟩ := afterTouch_announces (s := s) (t := t) (hall e List.mem_cons_self) hc hclock hroster
    have hbook := hbook (hmem e List.mem_cons_self)
    have hkept : ∀ x ∈ es, putEntry x (afterTouch s t e).book = (afterTouch s t e).book := by
      intro x hx
      have hlt := he x hx
      have hne : x.slot ≠ (refittedEntry s e).slot := by rw [refittedEntry_slot]; omega
      rw [hbook, putEntry_comm hne, hmem x (List.mem_cons_of_mem _ hx)]
    obtain ⟨hann', hbook', hclosing'⟩ := ih (t := afterTouch s t e) (fun x hx => hall x (List.mem_cons_of_mem _ hx))
      hes hkept (hann.config.trans hc) (hann.clock.trans hclock) (by rw [hann.frame]; exact hroster)
    refine ⟨?_, ?_, hclosing'.trans hclosing⟩
    · rw [List.map_cons, List.flatMap_cons, List.flatMap_cons]
      exact hann.trans hann'
    · rw [List.foldl_cons, List.foldl_cons, hbook', hbook]

end Sys2Proof.Machine
end


section
/-! The application of a fold: the new entries in the lowest free slots, and every entry as its records leave it
(R40 to R43). -/

namespace Sys2Proof.Machine

/-! ### The SUPERSEDED reports -/

theorem supersededReport_announces {s t : State} {bs : List ReportBody} {fs : List FaultLog} (l : LabelAddr)
    (_ : Announces s t bs fs) :
    Announces t (supersededReport s t l) ((s.entryOf l).toList.map (supersededBody s)) [] := by
  unfold supersededReport
  cases s.entryOf l with
  | none => exact .refl t
  | some e => exact eventReport_announces (ownReport .superseded e s) t

theorem flatMap_toList_map {α β : Type} (φ : α → β) {ls : List (Option α)} {as : List α} (h : ls = as.map some) :
    ls.flatMap (fun x => x.toList.map φ) = as.map φ := by
  subst h
  induction as with
  | nil => rfl
  | cons a as ih => rw [List.map_cons, List.flatMap_cons, ih]; rfl

/-- The SUPERSEDED reports of a fold, in order (R43). -/
theorem supersededs_announce {s : State} {ls : List LabelAddr} {es : List Entry} (h : ls.map s.entryOf = es.map some) :
    Announces s (ls.foldl (supersededReport s) s) (es.map (supersededBody s)) [] := by
  have hfold := Announces.foldl (s := s) (f := supersededReport s)
    (body := fun l => (s.entryOf l).toList.map (supersededBody s)) (fault := fun _ => [])
    (fun l t ht => supersededReport_announces l ht) ls (.refl s)
  have hbodies : ls.flatMap (fun l => (s.entryOf l).toList.map (supersededBody s)) = es.map (supersededBody s) := by
    rw [← flatMap_toList_map (supersededBody s) h, List.flatMap_map]
  have hfaults : ls.flatMap (fun _ => ([] : List FaultLog)) = [] := by simp
  rwa [hbodies, hfaults, List.nil_append, List.nil_append] at hfold

/-- The dialogue is nothing that an announcement reads or changes. -/
theorem Announces.withDialogue {s t : State} {bs : List ReportBody} {fs : List FaultLog} (h : Announces s t bs fs)
    (d : Dialogue) : Announces { s with dialogue := d } { t with dialogue := d } bs fs :=
  ⟨h.queues, h.latches, h.halts, congrArg (fun x : State => { x with dialogue := d }) h.frame⟩

/-! ### New entries in free slots -/

/-- The new entries, in the order in which they are placed. -/
def newsOf (g : OpenGroup) (s : State) : List FreshEntry → List Entry → List Entry
  | [], _ => []
  | n :: ns, b =>
    freshEntry g s (lowestFree b) n :: newsOf g s ns (insertEntry (freshEntry g s (lowestFree b) n) b)

theorem mem_placeFresh_iff {g : OpenGroup} {s : State} {x : Entry} : ∀ {ns : List FreshEntry} {b : List Entry},
    x ∈ placeFresh g s ns b ↔ x ∈ newsOf g s ns b ∨ x ∈ b
  | [], b => by simp [placeFresh, newsOf]
  | n :: ns, b => by
    have hnext := mem_placeFresh_iff (g := g) (s := s) (x := x) (ns := ns)
      (b := insertEntry (freshEntry g s (lowestFree b) n) b)
    rw [newsOf, List.mem_cons]
    rw [mem_insertEntry] at hnext
    change x ∈ placeFresh g s ns (insertEntry (freshEntry g s (lowestFree b) n) b) ↔ _
    exact hnext.trans (or_left_comm.trans or_assoc.symm)

theorem newsOf_labels (g : OpenGroup) (s : State) : ∀ (ns : List FreshEntry) (b : List Entry),
    (newsOf g s ns b).map Entry.label = ns.map (fun n => n.label)
  | [], _ => rfl
  | n :: ns, b => by
    rw [newsOf, List.map_cons, newsOf_labels g s ns, List.map_cons, freshEntry_label]

theorem mem_newsOf {g : OpenGroup} {s : State} {x : Entry} : ∀ {ns : List FreshEntry} {b : List Entry},
    x ∈ newsOf g s ns b → ∃ n ∈ ns, x = freshEntry g s x.slot n
  | n :: ns, b, h => by
    rcases List.mem_cons.mp h with h | h
    · exact ⟨n, List.mem_cons_self, by rw [h]; rfl⟩
    · obtain ⟨m, hm, hx⟩ := mem_newsOf h
      exact ⟨m, List.mem_cons_of_mem _ hm, hx⟩

/-- Every slot below the lowest free one is occupied. -/
theorem lowestFreeFrom_lowest : ∀ (b : List Entry) (n k : Nat), n ≤ k → k < lowestFreeFrom n b → ∃ x ∈ b, x.slot = k
  | [], n, k, h1, h2 => absurd h2 (by unfold lowestFreeFrom; omega)
  | x :: xs, n, k, h1, h2 => by
    unfold lowestFreeFrom at h2
    split at h2
    next hs =>
      by_cases hk : k = n
      · exact ⟨x, List.mem_cons_self, hs.trans hk.symm⟩
      · obtain ⟨y, hy, hys⟩ := lowestFreeFrom_lowest xs (n + 1) k (by omega) h2
        exact ⟨y, List.mem_cons_of_mem _ hy, hys⟩
    next => omega

/-- A slot is the lowest that some entries leave free. -/
def IsLowestFree (n : Nat) (es : List Entry) : Prop := (∀ x ∈ es, x.slot ≠ n) ∧ ∀ k < n, ∃ x ∈ es, x.slot = k

theorem IsLowestFree.of_slots {n : Nat} {as bs : List Entry} (h : IsLowestFree n as)
    (hs : ∀ k, (∃ x ∈ as, x.slot = k) ↔ ∃ x ∈ bs, x.slot = k) : IsLowestFree n bs := by
  refine ⟨fun x hx hn => ?_, fun k hk => (hs k).mp (h.2 k hk)⟩
  obtain ⟨y, hy, hyn⟩ := (hs n).mpr ⟨x, hx, hn⟩
  exact h.1 y hy hyn

theorem lowestFree_isLowest {b : List Entry} (hp : b.Pairwise (fun x y => x.slot < y.slot)) :
    IsLowestFree (lowestFree b) b :=
  ⟨(lowestFreeFrom_free b 0 hp fun _ _ => Nat.zero_le _).2.2,
    fun k hk => lowestFreeFrom_lowest b 0 k (Nat.zero_le _) hk⟩

/-- Each new entry takes the lowest-numbered slot free at its moment (R40). -/
theorem newsOf_lowest {g : OpenGroup} {s : State} : ∀ {ns : List FreshEntry} {b : List Entry},
    b.Pairwise (fun x y => x.slot < y.slot) → ∀ {k : Nat} {e : Entry}, (newsOf g s ns b)[k]? = some e →
    IsLowestFree e.slot (b ++ (newsOf g s ns b).take k)
  | [], b, _, k, e, h => by simp [newsOf] at h
  | n :: ns, b, hp, 0, e, h => by
    cases h
    rw [List.take_zero, List.append_nil]
    exact lowestFree_isLowest hp
  | n :: ns, b, hp, k + 1, e, h => by
    have hfree := lowestFree_isLowest hp
    have hnext := newsOf_lowest (g := g) (s := s) (ns := ns)
      (b := insertEntry (freshEntry g s (lowestFree b) n) b) (pairwise_insertEntry hp hfree.1) (k := k) (e := e) h
    refine hnext.of_slots fun j => ?_
    simp only [newsOf, List.take_succ_cons, List.mem_append, List.mem_cons, mem_insertEntry]
    refine exists_congr fun x => and_congr_left fun _ => ?_
    exact (or_congr_left or_comm).trans or_assoc

theorem pairwise_placeFresh {g : OpenGroup} {s : State} : ∀ {ns : List FreshEntry} {b : List Entry},
    b.Pairwise (fun x y => x.slot < y.slot) → (placeFresh g s ns b).Pairwise (fun x y => x.slot < y.slot)
  | [], _, hp => hp
  | _ :: ns, _, hp => pairwise_placeFresh (ns := ns) (pairwise_insertEntry hp (lowestFree_isLowest hp).1)

/-! ### The entries that a fold leaves -/

section
variable {g : OpenGroup} {s : State} {V : LabelAddr → LabelView} {v : FoldView}

/-- An entry of the book as a fold's application leaves it, before the re-checks. -/
def appliedEntry (g : OpenGroup) (s : State) (V : LabelAddr → LabelView) (v : FoldView) (e : Entry) : Entry :=
  if e.label ∈ v.changed then touch g s.config s.clock (viewedEntry (V e.label) e) else viewedEntry (V e.label) e

theorem appliedEntry_slot (e : Entry) : (appliedEntry g s V v e).slot = e.slot := by
  unfold appliedEntry
  split <;> exact viewedEntry_slot _ e

theorem appliedEntry_label (e : Entry) : (appliedEntry g s V v e).label = e.label := by
  unfold appliedEntry
  split <;> exact viewedEntry_label _ e

theorem Follows.foldedBook_eq (h : Follows g s g.gathered V v) :
    foldedBook g s v = placeFresh g s v.fresh (s.book.map (appliedEntry g s V v)) := by
  unfold foldedBook
  rw [h.book, List.map_map]
  congr 1
  refine List.map_congr_left fun e _ => ?_
  rw [Function.comp_apply, viewedEntry_label]
  rfl

theorem Follows.mem_changed (h : Follows g s g.gathered V v) {l : LabelAddr} :
    l ∈ v.changed ↔ l ∈ labelsOf g.gathered ∧ hasOpen s l = true := by
  rw [h.changed, List.mem_filter]

theorem Follows.fresh_labels (h : Follows g s g.gathered V v) :
    v.fresh.map (fun n => n.label) = (labelsOf g.gathered).filter (fun l => (s.entryOf l).isNone) := by
  rw [h.fresh, List.map_map]
  refine (List.map_congr_left fun l _ => ?_).trans (List.map_id _)
  exact viewedFresh_label _ l

theorem hasOpen_or {s : State} (l : LabelAddr) :
    (hasOpen s l = true ∨ (s.entryOf l).isNone = true) ↔ hasBusy s l = false := by
  unfold hasOpen hasBusy
  cases s.entryOf l with
  | none => simp
  | some e => cases ho : e.isOpen <;> simp [ho]

/-- The labels that a fold touches: those of its records whose entry is not busy. -/
theorem Follows.mem_touched (h : Follows g s g.gathered V v) {l : LabelAddr} :
    l ∈ touchedBy v ↔ l ∈ labelsOf g.gathered ∧ hasBusy s l = false := by
  rw [touchedBy, List.mem_append, h.mem_changed, h.fresh_labels, List.mem_filter, ← and_or_left, hasOpen_or]

/-- The entry that the records of a label leave, as the views show it. -/
theorem Follows.entryAfter_eq (h : Follows g s g.gathered V v) (slot : Nat) (l : LabelAddr) :
    entryAfter g s slot l = (foldedEntry g s slot l (V l)).map (fun e =>
      if (s.entryOf l).all Entry.isOpen then refittedEntry s e else e) := by
  unfold entryAfter
  rw [h.views l]

/-- A new entry is what its label's records make of a free slot (R36, R41, R56). -/
theorem Follows.entryAfter_fresh (h : Follows g s g.gathered V v) {x : Entry} {l : LabelAddr}
    (hl : l ∈ labelsOf g.gathered) (hn : s.entryOf l = none) (hx : x = freshEntry g s x.slot (viewedFresh (V l) l)) :
    x.label = l ∧ IsTouched x ∧ refittedEntry s x = x ∧ entryAfter g s x.slot l = some x := by
  have hlabel : x.label = l := by rw [hx, freshEntry_label, viewedFresh_label]
  have hrefit : refittedEntry s x = x := by
    unfold refittedEntry
    rw [hlabel, hn]
    rfl
  refine ⟨hlabel, ?_, hrefit, ?_⟩
  · rw [hx]
    exact ⟨rfl, rfl⟩
  · rw [h.entryAfter_eq, hn]
    have hs := h.suits l
    generalize V l = w at hs hx
    cases hs with
    | absent _ hl' => exact absurd hl hl'
    | isOpen e he _ => rw [hn] at he; cases he
    | busy e he _ p => rw [hn] at he; cases he
    | fresh _ _ base target items masked replaced =>
      have hfold : foldedEntry g s x.slot l (.change base target items masked replaced) = some x := by
        unfold foldedEntry
        dsimp only
        rw [hn, ← limitFor_eq]
        conv => rhs; rw [hx]
        rfl
      rw [hfold, Option.map_some]
      exact congrArg some ((if_pos rfl).trans hrefit)

/-- An entry of the book after the application and its re-check, if it is touched, is what its label's records leave
it (R35, R37, R41, R42). -/
theorem Follows.entryAfter_book (h : Follows g s g.gathered V v) {e : Entry} (he : s.entryOf e.label = some e) :
    (e.label ∈ touchedBy v → IsTouched (appliedEntry g s V v e)) ∧
    (if e.label ∈ touchedBy v then refittedEntry s (appliedEntry g s V v e) else appliedEntry g s V v e) =
      if e.label ∈ labelsOf g.gathered then (entryAfter g s e.slot e.label).getD e else e := by
  by_cases hl : e.label ∈ labelsOf g.gathered
  · rw [if_pos hl, h.entryAfter_eq, he]
    have hs := h.suits e.label
    unfold appliedEntry
    generalize V e.label = w at hs
    cases hs with
    | absent hn | fresh hn => rw [he] at hn; cases hn
    | isOpen x hx ho base target items masked replaced =>
      cases he.symm.trans hx
      have hchanged : e.label ∈ v.changed := h.mem_changed.mpr ⟨hl, by simp [hasOpen, he, ho]⟩
      have htouched : e.label ∈ touchedBy v := h.mem_touched.mpr ⟨hl, by simp [hasBusy, he, ho]⟩
      rw [if_pos hchanged, if_pos htouched]
      refine ⟨fun _ => ⟨rfl, rfl⟩, ?_⟩
      have hfold : foldedEntry g s e.slot e.label (.change base target items masked replaced) =
          some (touch g s.config s.clock (viewedEntry (.change base target items masked replaced) e)) := by
        unfold foldedEntry
        dsimp only
        rw [he]
        rfl
      rw [hfold, Option.map_some]
      exact (if_pos ho).symm
    | busy x hx ho p =>
      cases he.symm.trans hx
      have hchanged : e.label ∉ v.changed := fun hc => by
        have := (h.mem_changed.mp hc).2
        simp [hasOpen, he, ho] at this
      have htouched : e.label ∉ touchedBy v := fun hc => by
        have := (h.mem_touched.mp hc).2
        simp [hasBusy, he, ho] at this
      rw [if_neg hchanged, if_neg htouched]
      refine ⟨fun ht => absurd ht htouched, ?_⟩
      have hall : ¬ (some e).all Entry.isOpen = true := by simp [ho]
      have hfold : foldedEntry g s e.slot e.label (.later { e with successor := p }) =
          some { e with successor := p } := rfl
      rw [hfold, Option.map_some]
      exact (if_neg hall).symm
  · have hchanged : e.label ∉ v.changed := fun hc => hl (h.mem_changed.mp hc).1
    have htouched : e.label ∉ touchedBy v := fun hc => hl (h.mem_touched.mp hc).1
    have hV : V e.label = viewOf s e.label :=
      Except.ok.inj ((h.views e.label).symm.trans (viewAfter_of_not_mem hl))
    rw [if_neg hl, if_neg htouched]
    refine ⟨fun ht => absurd ht htouched, ?_⟩
    unfold appliedEntry
    rw [if_neg hchanged, hV, viewedEntry_viewOf he]

end

end Sys2Proof.Machine
end


section
/-! A fold that is applied, as one statement: the reports and faults, the new entries, and the book (R38 to R43). -/

namespace Sys2Proof.Machine

/-- The labels of a group's records that a fold touches: those whose entry is not busy. -/
def touchedLabels (g : OpenGroup) (s : State) : List LabelAddr :=
  (labelsOf g.gathered).filter (fun l => !hasBusy s l)

/-- The entries that a fold has touched, in order of slot. -/
def touchedIn (g : OpenGroup) (s : State) (book : List Entry) : List Entry :=
  book.filter (fun e => decide (e.label ∈ labelsOf g.gathered) && !hasBusy s e.label)

/-- `book` is the book of `s` with the records of group `g` applied, `news` being the entries of the new labels. -/
structure LeavesBook (g : OpenGroup) (s : State) (news book : List Entry) : Prop where
  labels : news.map Entry.label = (labelsOf g.gathered).filter (fun l => (s.entryOf l).isNone)
  entries : ∀ e ∈ news, entryAfter g s e.slot e.label = some e
  lowest : ∀ (k : Nat) (e : Entry), news[k]? = some e → IsLowestFree e.slot (s.book ++ news.take k)
  sorted : book.Pairwise (fun a b => a.slot < b.slot)
  mem : ∀ x, x ∈ book ↔ x ∈ news ∨ ∃ e ∈ s.book,
    x = if e.label ∈ labelsOf g.gathered then (entryAfter g s e.slot e.label).getD e else e

/-- `t` is `s` with the records of group `g` applied, `news` being the entries of the new labels. -/
structure FoldsInto (g : OpenGroup) (s : State) (news : List Entry) (t : State) : Prop where
  announces : Announces { s with dialogue := markTouched (touchedLabels g s) s.dialogue } t
    ((supersededEntries g s).map (supersededBody s) ++ (touchedIn g s t.book).flatMap (foldBodies s))
    ((touchedIn g s t.book).flatMap (foldFaults s))
  closing : t.closing = s.closing
  leaves : LeavesBook g s news t.book

theorem markTouched_congr {as bs : List LabelAddr} (h : ∀ l, l ∈ as ↔ l ∈ bs) (d : Dialogue) :
    markTouched as d = markTouched bs d := by
  unfold markTouched
  cases d with
  | standingOff c => simp [h]
  | listening | transferring | tallying => rfl

section
variable {g : OpenGroup} {s : State} {V : LabelAddr → LabelView} {v : FoldView}

/-- What the re-check makes of each entry of the folded book. -/
def finishedEntry (s : State) (v : FoldView) (e : Entry) : Entry :=
  if e.label ∈ touchedBy v then refittedEntry s e else e

theorem finishedEntry_slot (e : Entry) : (finishedEntry s v e).slot = e.slot := by
  unfold finishedEntry
  split
  · exact refittedEntry_slot s e
  · rfl

theorem finishedEntry_label (e : Entry) : (finishedEntry s v e).label = e.label := by
  unfold finishedEntry
  split
  · exact refittedEntry_label s e
  · rfl

/-- A new entry of the fold. -/
theorem Follows.of_news (h : Follows g s g.gathered V v) {b : List Entry} {x : Entry} (hx : x ∈ newsOf g s v.fresh b) :
    IsTouched x ∧ finishedEntry s v x = x ∧ entryAfter g s x.slot x.label = some x := by
  obtain ⟨n, hn, heq⟩ := mem_newsOf hx
  rw [h.fresh] at hn
  obtain ⟨l, hl, rfl⟩ := List.mem_map.mp hn
  obtain ⟨hin, hnone⟩ := List.mem_filter.mp hl
  obtain ⟨hlabel, htouched, hrefit, hafter⟩ := h.entryAfter_fresh hin (Option.isNone_iff_eq_none.mp hnone) heq
  refine ⟨htouched, ?_, by rw [hlabel]; exact hafter⟩
  unfold finishedEntry
  split
  · exact hrefit
  · rfl

/-- An entry of the book in the folded one. -/
theorem Follows.of_book (hb : BookIsKeyed s) (h : Follows g s g.gathered V v) {e : Entry} (he : e ∈ s.book) :
    (e.label ∈ touchedBy v → IsTouched (appliedEntry g s V v e)) ∧
    finishedEntry s v (appliedEntry g s V v e) =
      if e.label ∈ labelsOf g.gathered then (entryAfter g s e.slot e.label).getD e else e := by
  obtain ⟨htouched, heq⟩ := h.entryAfter_book (entryOf_of_mem hb he)
  refine ⟨htouched, ?_⟩
  unfold finishedEntry
  rw [appliedEntry_label]
  exact heq

/-- A fold's application (R40 to R43). -/
theorem Follows.applies (hb : BookIsKeyed s) (h : Follows g s g.gathered V v) :
    FoldsInto g s (newsOf g s v.fresh (s.book.map (appliedEntry g s V v))) (applyFold g v s) := by
  let book := s.book.map (appliedEntry g s V v)
  let B := placeFresh g s v.fresh book
  let d := markTouched (touchedBy v) s.dialogue
  let t₀ : State := { v.replaced.foldl (supersededReport s) s with book := B, dialogue := d }
  let es := B.filter (fun e => decide (e.label ∈ touchedBy v))
  have hslots : ∀ k, (∃ x ∈ book, x.slot = k) ↔ ∃ x ∈ s.book, x.slot = k := by
    intro k
    constructor
    · rintro ⟨x, hx, rfl⟩
      obtain ⟨e, he, rfl⟩ := List.mem_map.mp hx
      exact ⟨e, he, (appliedEntry_slot e).symm⟩
    · rintro ⟨e, he, rfl⟩
      exact ⟨_, List.mem_map_of_mem he, appliedEntry_slot e⟩
  have hsorted : book.Pairwise (fun x y => x.slot < y.slot) := by
    rw [List.pairwise_map]
    exact hb.1.imp fun hlt => by rwa [appliedEntry_slot, appliedEntry_slot]
  have hB : B.Pairwise (fun x y => x.slot < y.slot) := pairwise_placeFresh hsorted
  have hsup := supersededs_announce h.replaced
  have hset : Announces { s with dialogue := d } t₀ ((supersededEntries g s).map (supersededBody s)) [] := by
    have := (hsup.withDialogue d).trans (.edit _ B (v.replaced.foldl (supersededReport s) s).closing)
    rwa [List.append_nil] at this
  have htouch : ∀ e ∈ es, IsTouched e := by
    intro e he
    obtain ⟨hm, ht⟩ := List.mem_filter.mp he
    rcases mem_placeFresh_iff.mp hm with hn | hm
    · exact (h.of_news hn).1
    · obtain ⟨x, hx, rfl⟩ := List.mem_map.mp hm
      rw [decide_eq_true_iff, appliedEntry_label] at ht
      exact (h.of_book hb hx).1 ht
  obtain ⟨hann, hbook, hclosing⟩ := afterTouches_announces (s := s) (t := t₀) htouch (hB.filter _)
    (fun e he => putEntry_of_mem hB ((List.mem_filter.mp he).1)) hset.config hset.clock (by rw [hset.frame])
  have happly : applyFold g v s = es.foldl (afterTouch s) t₀ := by rw [applyFold_eq, h.foldedBook_eq]
  have hfinal : (applyFold g v s).book = B.map (finishedEntry s v) := by
    rw [happly, hbook]
    refine (foldl_putEntry_filter (refittedEntry_slot s) _ hB).trans (List.map_congr_left fun e _ => ?_)
    unfold finishedEntry
    simp only [decide_eq_true_eq]
  have hpick : touchedIn g s (applyFold g v s).book = es.map (refittedEntry s) := by
    unfold touchedIn
    rw [hfinal, List.filter_map]
    have hp : (fun e : Entry => decide (e.label ∈ labelsOf g.gathered) && !hasBusy s e.label) ∘ finishedEntry s v =
        fun e => decide (e.label ∈ touchedBy v) := by
      funext e
      rw [Function.comp_apply, finishedEntry_label]
      have := h.mem_touched (l := e.label)
      rw [Bool.eq_iff_iff]
      simp [this]
    rw [hp]
    exact List.map_congr_left fun e he => if_pos (of_decide_eq_true (List.mem_filter.mp he).2)
  have hd : d = markTouched (touchedLabels g s) s.dialogue :=
    markTouched_congr (fun l => by rw [h.mem_touched]; simp [touchedLabels]) s.dialogue
  refine ⟨?_, ?_, ?_, fun e he => (h.of_news he).2.2, fun k e he => ?_, ?_, fun x => ?_⟩
  · rw [← hd, hpick, happly]
    exact hset.trans hann
  · rw [happly, hclosing]
    exact (superseded_tells s s.book s.dialogue v.replaced s).closing_eq
  · rw [newsOf_labels]
    exact h.fresh_labels
  · refine (newsOf_lowest hsorted he).of_slots fun j => ?_
    simp only [List.mem_append, or_and_right, exists_or]
    exact or_congr_left (hslots j)
  · rw [hfinal, List.pairwise_map]
    exact hB.imp fun hlt => by rwa [finishedEntry_slot, finishedEntry_slot]
  · rw [hfinal, List.mem_map]
    constructor
    · rintro ⟨y, hy, rfl⟩
      rcases mem_placeFresh_iff.mp hy with hn | hm
      · rw [(h.of_news hn).2.1]
        exact .inl hn
      · obtain ⟨e, he, rfl⟩ := List.mem_map.mp hm
        exact .inr ⟨e, he, (h.of_book hb he).2⟩
    · rintro (hn | ⟨e, he, rfl⟩)
      · exact ⟨x, mem_placeFresh_iff.mpr (.inl hn), (h.of_news hn).2.1⟩
      · exact ⟨_, mem_placeFresh_iff.mpr (.inr (List.mem_map_of_mem he)), (h.of_book hb he).2⟩

/-- The counts of a fold that is applied (R40). -/
theorem Follows.foldCounts_eq (h : Follows g s g.gathered V v) :
    foldCounts v = .foldCounts ((labelsOf g.gathered).filter (fun l => (s.entryOf l).isNone)).length
      (((labelsOf g.gathered).filter (hasOpen s)).length - (supersededEntries g s).length)
      ((labelsOf g.gathered).filter (hasBusy s)).length (supersededEntries g s).length := by
  have hlen := congrArg List.length h.replaced
  have hfresh := congrArg List.length h.fresh_labels
  rw [List.length_map, List.length_map, ← supersededEntries_eq] at hlen
  rw [List.length_map] at hfresh
  unfold foldCounts
  rw [hfresh, h.changed, h.succeeded, hlen]

end

end Sys2Proof.Machine
end


section
/-! CLOSE GROUP with any number of records (O19). -/

namespace Sys2Proof.Machine

theorem foldFaults_delivery (s : State) (es : List Entry) :
    ∀ f ∈ es.flatMap (foldFaults s), f.detail.kind ∈ [FaultKind.delivery] := by
  intro f hf
  obtain ⟨e, _, hf⟩ := List.mem_flatMap.mp hf
  unfold foldFaults at hf
  rcases List.mem_append.mp hf with hf | hf
  · split at hf
    · cases List.mem_singleton.mp hf
      exact List.mem_singleton_self _
    · cases hf
  · split at hf
    · cases List.mem_singleton.mp hf
      exact List.mem_singleton_self _
    · cases hf

section
variable {g : OpenGroup} {s : State}

/-- A fold whose records all take, with room for its new labels. -/
theorem foldGroup_applied {V : LabelAddr → LabelView} {v : FoldView}
    (hpass : checkPass g g.gathered 1 (startView s) = .done v) (h : Follows g (closeTheGroup s) g.gathered V v)
    (hroom : ((labelsOf g.gathered).filter (fun l => (s.entryOf l).isNone)).length ≤ 4096 - s.book.length) :
    foldGroup g s = (settle (applyFold g v (closeTheGroup s)), ⟨.ok, foldCounts v⟩) := by
  have hlen := congrArg List.length h.fresh_labels
  rw [List.length_map] at hlen
  have hfits : roomFor v s = true := decide_eq_true (by rw [hlen]; exact hroom)
  unfold foldGroup
  rw [hpass]
  exact if_pos hfits

/-- The record's frame of CLOSE GROUP. -/
abbrev closeFrame (g : OpenGroup) (count : BitVec 16) : LinkFrame :=
  ⟨0x12, bytesOfBits 2 g.number ++ bytesOfBits 2 count, true⟩

/-- CLOSE GROUP whose records all take, with room for the new labels (R34 to R43). -/
theorem closeGroup_applies {count : BitVec 16} (hs : s.opState ≠ .starting) (hn : NothingHalts s [.delivery])
    (hb : BookIsKeyed s) (hg : s.group = some g) (hcount : g.gathered.length = count.toNat)
    (hall : ∀ l ∈ labelsOf g.gathered, ∃ w, viewAfter g s g.gathered l = .ok w)
    (hroom : ((labelsOf g.gathered).filter (fun l => (s.entryOf l).isNone)).length ≤ 4096 - s.book.length) :
    ∃ (t : State) (news : List Entry), exec (.closeGroup g.number count) s = .next t ∧
      LeavesBook g s news t.book ∧
      t.response = some ⟨0x12, ⟨.ok, .foldCounts ((labelsOf g.gathered).filter (fun l => (s.entryOf l).isNone)).length
        (((labelsOf g.gathered).filter (hasOpen s)).length - (supersededEntries g s).length)
        ((labelsOf g.gathered).filter (hasBusy s)).length (supersededEntries g s).length⟩, s.lineRate⟩ ∧
      Queues s t (((supersededEntries g s).map (supersededBody s) ++
        (touchedIn g s t.book).flatMap (foldBodies s)).take (256 - s.reports.length)) ∧
      Latches s t ((touchedIn g s t.book).flatMap (foldFaults s)) ∧
      t.group = none ∧ t.dialogue = markTouched (touchedLabels g s) s.dialogue ∧
      t.holding = closeFrame g count :: s.holding.tail ∧ QuietWaitFollows t ∧
      t = { s with
        book := t.book, group := t.group, dialogue := t.dialogue, quietWait := t.quietWait,
        reports := t.reports, nextSeq := t.nextSeq, latched := t.latched, firstFault := t.firstFault,
        holding := t.holding, response := t.response } := by
  let s₁ : State := served (closeFrame g count) s
  let s₂ : State := closeTheGroup s₁
  have hb₂ : BookIsKeyed s₂ := hb
  obtain ⟨V, v, hpass, hfollows⟩ := (Follows.start g hb₂).checkPass_done hb₂ g.gathered 1 hall
  have hfold := foldGroup_applied (s := s₁) hpass hfollows hroom
  have hinto : FoldsInto g s₂ _ _ := Follows.applies hb₂ hfollows
  have hcounts := hfollows.foldCounts_eq
  let D : Dialogue := markTouched (touchedLabels g s) s.dialogue
  let s₀ : State := { s₂ with dialogue := D }
  obtain ⟨q, hset, hwait⟩ := Announces.settled_self (s := s₀) (kinds := [.delivery]) hinto.announces hn
    (foldFaults_delivery _ _)
  have hexec : exec (.closeGroup g.number count) s = .next
      { settle (applyFold g v s₂) with
        response := some ⟨0x12, ⟨.ok, foldCounts v⟩, (settle (applyFold g v s₂)).lineRate⟩ } := by
    rw [exec_of_request rfl, serve_acts hs]
    change Host.Outcome.next (beginResponse _ (closeGroupAct g.number count s₁).2
      (closeGroupAct g.number count s₁).1) = _
    rw [closeGroupAct_folds (s := s₁) hg hcount, hfold]
    rfl
  rw [hset] at hexec
  obtain ⟨hlabels, hentries, hlowest, hsorted, hmem⟩ := hinto.leaves
  refine ⟨_, _, hexec, ⟨hlabels, hentries, hlowest, hsorted, hmem⟩, ?_, hinto.announces.queues,
    hinto.announces.latches, rfl, rfl, rfl, hwait, ?_⟩
  · rw [hcounts]
    rfl
  · unfold concluded
    dsimp only
    rw [hinto.closing]
    rfl

end

end Sys2Proof.Machine
end


section
/-! CLOSE GROUP: the stops, and the fold of one record (O19). -/

namespace Sys2Proof.Machine

/-! ### Books in slot order -/

/-- A book in slot order is known by its entries. -/
theorem sorted_ext {as bs : List Entry} (ha : as.Pairwise (fun x y => x.slot < y.slot))
    (hb : bs.Pairwise (fun x y => x.slot < y.slot)) (h : ∀ x, x ∈ as ↔ x ∈ bs) : as = bs := by
  have nodup : ∀ {l : List Entry}, l.Pairwise (fun x y => x.slot < y.slot) → l.Nodup := fun hl =>
    hl.imp fun hlt heq => by rw [heq] at hlt; exact Nat.lt_irrefl _ hlt
  refine ((List.perm_ext_iff_of_nodup (nodup ha) (nodup hb)).mpr h).eq_of_pairwise (fun x y _ _ h1 h2 => ?_) ha hb
  omega

section
variable {g : OpenGroup} {s : State}

/-! ### The first record that its label does not take -/

/-- CLOSE GROUP whose records stop at one that its label does not take (R39). -/
theorem closeGroup_stops {count : BitVec 16} (hs : s.opState ≠ .starting) (hn : NothingHalts s [.delivery, .book])
    (hb : BookIsKeyed s) (hg : s.group = some g) (hcount : g.gathered.length = count.toNat)
    {before after : List GatheredRecord} {r : GatheredRecord} {stop : Option Detail}
    (hrs : g.gathered = before ++ r :: after) (hall : ∀ x ∈ before, ∃ v, viewAfter g s before x.label = .ok v)
    (hstop : viewAfter g s (before ++ [r]) r.label = .error stop) :
    (stop = none → exec (.closeGroup g.number count) s = .next (answered (.closeGroup g.number count)
      ⟨.busy, .busyAt (before.length + 1)⟩ { s with group := some { g with idle := 60 } })) ∧
    ∀ d, stop = some d → exec (.closeGroup g.number count) s = .next (answered (.closeGroup g.number count)
      ⟨.refused, .refused d⟩ (faulted d r.label (BitVec.ofNat 8 r.source.val) g.number
        { s with group := none, quietWait := quietAfter s })) := by
  obtain ⟨why, rfl, hpass⟩ := (Follows.start g hb).checkPass_stops hb r after before 1 hall hstop
  have hpass : checkPass g g.gathered 1 (startView s) = .stopped why r (before.length + 1) := by
    rw [hrs, hpass, Nat.add_comm]
  have hfolds := closeGroupAct_folds (s := served (closeFrame g count) s) hg hcount
  cases why with
  | stale =>
    refine ⟨fun h => (by cases h), fun d hd => ?_⟩
    cases hd
    exact exec_eq_refused (t := { s with group := none }) rfl hs rfl hn (by simp [Detail.kind])
      (hfolds.trans (foldGroup_stale (s := served _ s) hpass))
  | conflict =>
    refine ⟨fun h => (by cases h), fun d hd => ?_⟩
    cases hd
    exact exec_eq_refused (t := { s with group := none }) rfl hs rfl hn (by simp [Detail.kind])
      (hfolds.trans (foldGroup_conflict (s := served _ s) hpass))
  | busy =>
    exact ⟨fun _ => exec_eq_answered rfl hs rfl (hfolds.trans (foldGroup_busy (s := served _ s) hg hpass)),
      fun d hd => by cases hd⟩

/-- CLOSE GROUP whose new labels have no room (R38). -/
theorem closeGroup_noRoom {count : BitVec 16} (hs : s.opState ≠ .starting) (hn : NothingHalts s [.delivery, .book])
    (hb : BookIsKeyed s) (hg : s.group = some g) (hcount : g.gathered.length = count.toNat)
    (hall : ∀ l ∈ labelsOf g.gathered, ∃ w, viewAfter g s g.gathered l = .ok w)
    (hroom : 4096 - s.book.length < ((labelsOf g.gathered).filter (fun l => (s.entryOf l).isNone)).length) :
    exec (.closeGroup g.number count) s = .next (answered (.closeGroup g.number count) ⟨.refused, .refused .d131⟩
      (faulted .d131 0 0 g.number { s with group := some { g with idle := 60 }, quietWait := quietAfter s })) := by
  obtain ⟨V, v, hpass, hfollows⟩ := (Follows.start g hb).checkPass_done hb g.gathered 1 hall
  have hlen := congrArg List.length hfollows.fresh_labels
  rw [List.length_map] at hlen
  exact exec_eq_refused (t := { s with group := some { g with idle := 60 } }) rfl hs rfl hn (by simp [Detail.kind])
    ((closeGroupAct_folds (s := served _ s) hg hcount).trans
      (foldGroup_noRoom (s := served _ s) hg hpass (hlen ▸ hroom)))

/-! ### One record -/

theorem viewAfter_one (g : OpenGroup) (s : State) (r : GatheredRecord) :
    viewAfter g s [r] r.label = LabelView.take g r (viewOf s r.label) := by
  have h := viewAfter_snoc (g := g) (s := s) (rs := []) (l := r.label) (w := viewOf s r.label) rfl r
  rw [if_pos rfl] at h
  exact h

/-- What one record that its label takes has replaced (R43). -/
theorem supersededEntries_one {r : GatheredRecord} {w : LabelView} (hr : g.gathered = [r])
    (hw : LabelView.take g r (viewOf s r.label) = .ok w) :
    supersededEntries g s =
      (if w.isReplaced && !(viewOf s r.label).isReplaced then s.entryOf r.label else none).toList := by
  have h := supersededIn_snoc g s [] r
  have hnew : replacedAfter g s ([] ++ [r]) r.label = w.isReplaced :=
    replacedAfter_eq ((viewAfter_one g s r).trans hw)
  have hold : replacedAfter g s [] r.label = (viewOf s r.label).isReplaced := replacedAfter_eq rfl
  rw [hnew, hold] at h
  rw [supersededEntries_eq, hr]
  exact h

/-- The entries that one record touches. -/
theorem touchedIn_one {r : GatheredRecord} (hr : g.gathered = [r]) (ho : hasBusy s r.label = false)
    {book : List Entry} (hp : book.Pairwise (fun x y => x.slot < y.slot)) {e : Entry} (he : e ∈ book)
    (h : ∀ x ∈ book, x.label = r.label ↔ x = e) : touchedIn g s book = [e] := by
  refine sorted_ext (hp.filter _) (List.pairwise_singleton ..) fun x => ?_
  have hlabels : labelsOf g.gathered = [r.label] := by rw [hr]; rfl
  unfold touchedIn
  rw [List.mem_filter, hlabels]
  constructor
  · rintro ⟨hx, hl⟩
    exact List.mem_singleton.mpr ((h x hx).mp (by simpa using (Bool.and_eq_true_iff.mp hl).1))
  · intro hx
    obtain rfl := List.mem_singleton.mp hx
    have hl := (h x he).mpr rfl
    exact ⟨he, by simp [hl, ho]⟩

end

end Sys2Proof.Machine
end


section
/-! CLOSE GROUP takes a list of records in order (O19). -/

namespace Sys2Proof.Machine

/-- The entry of a new label with one record. -/
theorem entryAfter_new {g : OpenGroup} {s : State} {r : GatheredRecord} (hr : g.gathered = [r])
    (he : s.entryOf r.label = none) (slot : Nat) :
    entryAfter g s slot r.label = some (evaluatedAt s.config s.clock (withContent r.items r.masked
      { slot, label := r.label, state := .waiting, lane := .night, late := false, base := r.base, target := r.target,
        effective := g.effective, cls := g.cls, lastGroup := g.number, items := r.items, face := {}, notes := {},
        attempts := 0, limit := attemptLimitOf s r.label, lastOutcome := none, successor := none })) := by
  have hview : viewAfter g s g.gathered r.label = .ok (.change r.base r.target r.items r.masked false) := by
    rw [hr, viewAfter_one, viewOf_none he]
    rfl
  unfold entryAfter
  rw [hview, he]
  unfold foldedEntry
  dsimp only
  rw [he, Option.getD_none, Option.map_some]
  have hsame : ∀ x : Entry, x.label = r.label → refittedEntry s x = x := by
    intro x hx
    unfold refittedEntry
    rw [hx, he]
    rfl
  exact congrArg some ((if_pos rfl).trans (hsame _ rfl))

/-- A fold of one record on a label with no entry. -/
theorem closeGroup_creates {g : OpenGroup} {r : GatheredRecord} {s : State} (hs : s.opState ≠ .starting)
    (hn : NothingHalts s [.delivery]) (hb : BookIsKeyed s) (hg : s.group = some g) (hr : g.gathered = [r])
    (he : s.entryOf r.label = none) (hroom : s.book.length < 4096) :
    ∃ t e, exec (.closeGroup g.number 1) s = .next t ∧
      t.response = some ⟨0x12, ⟨.ok, .foldCounts 1 0 0 0⟩, s.lineRate⟩ ∧ t.group = none ∧
      (∀ x, x ∈ t.book ↔ x = e ∨ x ∈ s.book) ∧ t.book.Pairwise (fun a b => a.slot < b.slot) ∧
      IsLowestFree e.slot s.book ∧ entryAfter g s e.slot r.label = some e ∧
      Queues s t ((foldBodies s e).take (256 - s.reports.length)) ∧ Latches s t (foldFaults s e) ∧
      t.dialogue = markTouched [r.label] s.dialogue ∧ t.holding = closeFrame g 1 :: s.holding.tail ∧
      QuietWaitFollows t ∧
      t = { s with
        book := t.book, group := t.group, dialogue := t.dialogue, quietWait := t.quietWait,
        reports := t.reports, nextSeq := t.nextSeq, latched := t.latched, firstFault := t.firstFault,
        holding := t.holding, response := t.response } := by
  have hlabels : labelsOf g.gathered = [r.label] := by rw [hr]; rfl
  have hbusy : hasBusy s r.label = false := by simp [hasBusy, he]
  have hopen : hasOpen s r.label = false := by simp [hasOpen, he]
  have htake : LabelView.take g r (viewOf s r.label) = .ok (.change r.base r.target r.items r.masked false) := by
    rw [viewOf_none he]
    rfl
  have hsup : supersededEntries g s = [] := by rw [supersededEntries_one hr htake, he, ite_self]; rfl
  obtain ⟨t, news, hexec, hleaves, hresponse, hq, hl, hgroup, hd, hhold, hwait, hframe⟩ :=
    closeGroup_applies (count := 1) hs hn hb hg (by rw [hr]; rfl) (fun l hl => by
      rw [hlabels, List.mem_singleton] at hl
      rw [hl, hr, viewAfter_one]
      exact ⟨_, htake⟩) (by
      rw [hlabels, List.filter_cons_of_pos (by simp [he]), List.filter_nil, List.length_singleton]
      omega)
  obtain ⟨hnews, hentries, hlowest, hsorted, hmem⟩ := hleaves
  rw [hlabels, List.filter_cons_of_pos (by simp [he]), List.filter_nil] at hnews
  obtain ⟨e, rfl, hlabel⟩ := List.map_eq_singleton_iff.mp hnews
  have hbook : ∀ x, x ∈ t.book ↔ x = e ∨ x ∈ s.book := by
    intro x
    rw [hmem, List.mem_singleton, hlabels]
    refine or_congr_right ⟨?_, fun hx => ⟨x, hx, ?_⟩⟩
    · rintro ⟨y, hy, rfl⟩
      rwa [if_neg (by simpa using entryOf_none he y hy)]
    · rw [if_neg (by simpa using entryOf_none he x hx)]
  have htouched : touchedIn g s t.book = [e] :=
    touchedIn_one hr hbusy hsorted ((hbook e).mpr (.inl rfl)) fun x hx => by
      rcases (hbook x).mp hx with rfl | hx
      · simp [hlabel]
      · exact ⟨fun hxl => absurd hxl (entryOf_none he x hx), fun hxe => by rw [hxe, hlabel]⟩
  rw [htouched, hsup, List.flatMap_singleton] at hq
  rw [htouched, List.flatMap_singleton] at hl
  have hfree := hlowest 0 e rfl
  rw [List.take_zero, List.append_nil] at hfree
  refine ⟨t, e, hexec, ?_, hgroup, hbook, hsorted, hfree, ?_, hq, hl, ?_, hhold, hwait, hframe⟩
  · rw [hresponse, hlabels, hsup]
    simp [he, hopen, hbusy]
  · rw [← hlabel]
    exact hentries e (List.mem_singleton_self e)
  · rw [hd, touchedLabels, hlabels, List.filter_cons_of_pos (by simp [hbusy]), List.filter_nil]

/-- Settles O19: the records taken in order are the check pass, and what they leave each label is what the
application makes of it. -/
theorem foldAppliesRecords : Obligations.FoldAppliesRecords := by
  unfold Obligations.FoldAppliesRecords
  refine ⟨fun g r s hs hn hb hg hr he hroom => ?_, fun g count s hs hn hb hg hcount => ?_⟩
  · obtain ⟨t, e, hexec, hresponse, hgroup, hbook, hsorted, ⟨hfree, hlow⟩, hafter, hq, hl, hd, hhold, hwait, hframe⟩ :=
      closeGroup_creates hs hn hb hg hr he hroom
    have hentry := Option.some.inj ((entryAfter_new hr he e.slot).symm.trans hafter)
    have hlabel : e.label = r.label := by rw [← hentry]; rfl
    have hstate : e.state = .waiting := by rw [← hentry]; rfl
    have hfit : e.notes.fit = {} := by rw [← hentry]; rfl
    have hlane : e.lane = .urgent ↔ s.config.sources.classMap[g.cls] = .urgent ∨ g.effective = 0 ∨
        g.effective.toNat ≤ s.clock.toNat + s.config.policy.lateMargin := by
      rw [← hentry]
      change (if _ then Lane.urgent else Lane.night) = .urgent ↔ _
      split
      next h => exact ⟨fun _ => h, fun _ => rfl⟩
      next h => exact ⟨fun hl => (by cases hl), fun hl => absurd hl h⟩
    have hrefit : refittedEntry s e = e := by
      unfold refittedEntry
      rw [hlabel, he]
      rfl
    have hmade : madeLateOf s e = [e].filter (fun n => n.late) := by
      refine List.filter_congr fun n hn => ?_
      rw [List.mem_singleton.mp hn, madeLate, hlabel, he]
      simp
    have hheld : ¬ e.state = .held := by simp [hstate]
    obtain ⟨hbodies, hfaults⟩ := fold_says (s := s) (e := e) ⟨hstate, hfit⟩
    rw [hrefit, hmade, if_neg hheld, List.append_nil] at hbodies hfaults
    rw [hbodies] at hq
    rw [hfaults] at hl
    refine ⟨t, e, hexec, hresponse, hgroup, hbook, hsorted, hfree, hlow, hlabel, hstate, ?_, ?_, ?_, ?_, ?_, ?_, ?_, ?_,
      ?_, ?_, ?_, ?_, ?_, hlane, hq, hl, hd, hhold, hwait, hframe⟩
    all_goals rw [← hentry]
    all_goals rfl
  · intro i kept refused labels fresh free untouched
    refine ⟨fun before after r stop hrs hall hstop => ?_, fun hall => ⟨fun hno => ?_, fun hroom => ?_⟩⟩
    · exact closeGroup_stops hs hn hb hg hcount.symm hrs hall hstop
    · exact closeGroup_noRoom hs hn hb hg hcount.symm hall hno
    · have hn' : NothingHalts s [.delivery] := ⟨hn.1, hn.2.imp id fun h k hk => h k (by simp_all)⟩
      obtain ⟨t, news, hexec, ⟨hnews, hentries, hlowest, hsorted, hmem⟩, hresponse, hq, hl, hgroup, hd, hhold, hwait,
        hframe⟩ := closeGroup_applies hs hn' hb hg hcount.symm hall hroom
      exact ⟨t, news, hexec, hresponse, hgroup, hnews, fun k e hk =>
        ⟨hentries e (List.mem_of_getElem? hk), hlowest k e hk⟩, hsorted, hmem, hd, ⟨hq, hl⟩, hhold, hwait, hframe⟩

end Sys2Proof.Machine
end


section
/-! CLOSE GROUP with one record on an entry (O20). -/

namespace Sys2Proof.Machine

section
variable {g : OpenGroup} {r : GatheredRecord} {e : Entry} {s : State}

/-- What a fold of one record answers and leaves beside the book and its news. -/
structure ClosesGroup (g : OpenGroup) (s t : State) (counts : ResponseBody) : Prop where
  exec : exec (.closeGroup g.number 1) s = .next t
  response : t.response = some ⟨0x12, ⟨.ok, counts⟩, s.lineRate⟩
  group : t.group = none
  holding : t.holding = ⟨0x12, bytesOfBits 2 g.number ++ [0, 1], true⟩ :: s.holding.tail
  quietWait : QuietWaitFollows t
  frame : t = { s with
    book := t.book, group := t.group, dialogue := t.dialogue, reports := t.reports, nextSeq := t.nextSeq
    latched := t.latched, firstFault := t.firstFault, quietWait := t.quietWait, holding := t.holding
    response := t.response }

/-- The entry that one record leaves takes its place in the book. -/
theorem LeavesBook.of_one {news book : List Entry} (h : LeavesBook g s news book) (hb : BookIsKeyed s)
    (hr : g.gathered = [r]) (he : s.entryOf r.label = some e) {x : Entry}
    (hx : entryAfter g s e.slot r.label = some x) (hslot : x.slot = e.slot) : book = putEntry x s.book := by
  have hlabels : labelsOf g.gathered = [r.label] := by rw [hr]; rfl
  obtain ⟨hm, hel⟩ := entryOf_some he
  have hnews : news = [] := by
    have := h.labels
    rw [hlabels, List.filter_cons_of_neg (by simp [he]), List.filter_nil] at this
    exact List.map_eq_nil_iff.mp this
  have hput : (putEntry x s.book).Pairwise (fun a b => a.slot < b.slot) := by
    unfold putEntry
    rw [List.pairwise_map]
    refine hb.1.imp fun {a b} hlt => ?_
    split <;> split <;> simp_all
  have hone : ∀ y ∈ s.book, (if y.label ∈ labelsOf g.gathered then (entryAfter g s y.slot y.label).getD y else y) =
      if y.slot = x.slot then x else y := by
    intro y hy
    rw [hlabels]
    by_cases hyl : y.label = r.label
    · obtain rfl : y = e := KeyedBook.label_inj hb hy hm (hyl.trans hel.symm)
      rw [if_pos (by simp [hyl]), if_pos hslot.symm, hyl, hx]
      rfl
    · have hys : y.slot ≠ x.slot := fun hys => hyl
        (KeyedBook.slot_inj hb hy hm (hys.trans hslot) ▸ hel)
      rw [if_neg (by simp [hyl]), if_neg hys]
  refine sorted_ext h.sorted hput fun y => ?_
  rw [h.mem, hnews, putEntry, List.mem_map]
  constructor
  · rintro (hy | ⟨z, hz, rfl⟩)
    · cases hy
    · exact ⟨z, hz, (hone z hz).symm⟩
  · rintro ⟨z, hz, rfl⟩
    exact .inr ⟨z, hz, (hone z hz).symm⟩

/-- A fold of one record on a label with an entry. -/
theorem closeGroup_changes (hs : s.opState ≠ .starting) (hn : NothingHalts s [.delivery, .book])
    (hb : BookIsKeyed s) (hg : s.group = some g) (hr : g.gathered = [r]) (he : s.entryOf r.label = some e)
    {w : LabelView} (htake : LabelView.take g r (viewOf s r.label) = .ok w) {x : Entry}
    (hx : entryAfter g s e.slot r.label = some x) (hslot : x.slot = e.slot) :
    ∃ t, ClosesGroup g s t (.foldCounts 0
        (([r.label].filter (hasOpen s)).length - (supersededEntries g s).length)
        ([r.label].filter (hasBusy s)).length (supersededEntries g s).length) ∧
      t.book = putEntry x s.book ∧ t.dialogue = markTouched ([r.label].filter (fun l => !hasBusy s l)) s.dialogue ∧
      Queues s t (((supersededEntries g s).map (supersededBody s) ++
        (touchedIn g s (putEntry x s.book)).flatMap (foldBodies s)).take (256 - s.reports.length)) ∧
      Latches s t ((touchedIn g s (putEntry x s.book)).flatMap (foldFaults s)) ∧
      (putEntry x s.book).Pairwise (fun a b => a.slot < b.slot) := by
  have hlabels : labelsOf g.gathered = [r.label] := by rw [hr]; rfl
  have hfresh : (labelsOf g.gathered).filter (fun l => (s.entryOf l).isNone) = [] := by
    rw [hlabels, List.filter_cons_of_neg (by simp [he]), List.filter_nil]
  have hn' : NothingHalts s [.delivery] := ⟨hn.1, hn.2.imp id fun h k hk => h k (by simp_all)⟩
  obtain ⟨t, news, hexec, hleaves, hresponse, hq, hl, hgroup, hd, hhold, hwait, hframe⟩ :=
    closeGroup_applies (count := 1) hs hn' hb hg (by rw [hr]; rfl) (fun l hl => by
      rw [hlabels, List.mem_singleton] at hl
      rw [hl, hr, viewAfter_one]
      exact ⟨_, htake⟩) (by rw [hfresh]; exact Nat.zero_le _)
  have hbook := hleaves.of_one hb hr he hx hslot
  rw [hfresh, hlabels] at hresponse
  rw [touchedLabels, hlabels] at hd
  have hsorted := hleaves.sorted
  rw [hbook] at hq hl hsorted
  exact ⟨t, ⟨hexec, hresponse, hgroup, hhold, hwait, hframe⟩, hbook, hd, hq, hl, hsorted⟩

/-! ### An open entry -/

/-- An entry with the change that a fold has made of it, before its re-check. -/
def madeEntry (g : OpenGroup) (s : State) (e : Entry) (base : Base) (target : Version) (items : Items) (masked : Bool) :
    Entry :=
  evaluatedAt s.config s.clock <| withContent items masked { e with
    state := .waiting, base := base, target := target, effective := g.effective
    cls := g.cls, lastGroup := g.number, attempts := 0 }

/-- The fit notes that the re-check of an entry gives, if it has one and it fits. -/
def fittedNotes (s : State) (l : LabelAddr) (e made : Entry) : Option (Option FitNotes) :=
  if e.state = .held then
    (s.recordOf l).map (fun x => (fit made.face s.config.models[x.model.toFin]).map (fun v => v.2))
  else none

/-- A re-check in the words of the statement. -/
theorem refittedEntry_made {made : Entry} {l : LabelAddr} (hl : made.label = l) (he : s.entryOf l = some e) :
    refittedEntry s made = (match fittedNotes s l e made with
      | none => made
      | some (some n) => { made with notes := { made.notes with fit := n } }
      | some none => { made with state := .held }) := by
  subst hl
  unfold refittedEntry fittedNotes
  rw [he]
  by_cases hh : e.state = .held
  · have hany : (some e).any (fun o : Entry => o.state == .held) = true := by simp [hh]
    rw [if_pos hany, if_pos hh]
    cases s.recordOf made.label with
    | none => rfl
    | some x =>
      rw [Option.map_some]
      dsimp only
      cases fit made.face s.config.models[x.model.toFin] <;> rfl
  · have hany : ¬ (some e).any (fun o : Entry => o.state == .held) = true := by simp [hh]
    rw [if_neg hany, if_neg hh]

/-- A record that an open entry takes (R35, R41, R43, R51). -/
theorem closeGroup_folds (hs : s.opState ≠ .starting) (hn : NothingHalts s [.delivery, .book])
    (hb : BookIsKeyed s) (hg : s.group = some g) (hr : g.gathered = [r]) (he : s.entryOf r.label = some e)
    (ho : e.isOpen = true) {base : Base} {target : Version} {items : Items} {masked superseded : Bool}
    (htake : LabelView.take g r (.change e.base e.target e.items e.notes.masked false) =
      .ok (.change base target items masked superseded)) :
    (let made := madeEntry g s e base target items masked
    let now := refittedEntry s made
    let late := [made].filter (fun n => n.late && !e.late)
    let held := [now].filter (fun n => n.state == .held)
    ∃ t, ClosesGroup g s t (if superseded then .foldCounts 0 0 0 1 else .foldCounts 0 1 0 0) ∧
      t.book = putEntry now s.book ∧ t.dialogue = markTouched [r.label] s.dialogue ∧
      Queues s t (((if superseded then [supersededBody s e] else []) ++ late.map (lateBody s s.clock) ++
        held.map (heldBody s)).take (256 - s.reports.length)) ∧
      Latches s t (late.map (lateFault s) ++ held.map (heldFault s))) := by
  intro made now late held
  obtain ⟨hm, hel⟩ := entryOf_some he
  have hopen : hasOpen s r.label = true := by simp [hasOpen, he, ho]
  have hbusy : hasBusy s r.label = false := by simp [hasBusy, he, ho]
  have hview := viewOf_open he ho
  have htake' : LabelView.take g r (viewOf s r.label) = .ok (.change base target items masked superseded) :=
    hview ▸ htake
  have hmade : made.label = r.label := hel
  have hnow : now.label = r.label := (refittedEntry_label s made).trans hmade
  have hx : entryAfter g s e.slot r.label = some now := by
    unfold entryAfter
    rw [hr, viewAfter_one, htake', he]
    unfold foldedEntry
    dsimp only
    rw [he, Option.getD_some, Option.map_some]
    exact congrArg some (if_pos ho)
  have hsup : supersededEntries g s = if superseded then [e] else [] := by
    rw [supersededEntries_one hr htake', hview, he]
    cases superseded <;> rfl
  obtain ⟨t, hcloses, hbook, hd, hq, hl, hsorted⟩ :=
    closeGroup_changes hs hn hb hg hr he htake' hx (refittedEntry_slot s made)
  have hin : now ∈ putEntry now s.book := mem_putEntry_self hm (refittedEntry_slot s made).symm
  have htouched : touchedIn g s (putEntry now s.book) = [now] :=
    touchedIn_one hr hbusy hsorted hin fun x hx => by
      rcases mem_putEntry hx with ⟨rfl, _⟩ | ⟨hxb, hxs⟩
      · simp [hnow]
      · constructor
        · intro hxl
          have : x = e := KeyedBook.label_inj hb hxb hm (hxl.trans hel.symm)
          exact absurd (this ▸ (refittedEntry_slot s made).symm) hxs
        · rintro rfl
          exact hnow
  have hlate : madeLateOf s made = late := by
    refine List.filter_congr fun n hn => ?_
    rw [List.mem_singleton.mp hn, madeLate, hmade, he]
    rfl
  have hheld : ∀ {α : Type} (φ : Entry → α), (if now.state = .held then [φ now] else []) = held.map φ := by
    intro α φ
    by_cases hh : now.state = .held
    · rw [if_pos hh]
      simp [held, hh]
    · rw [if_neg hh]
      simp [held, hh]
  obtain ⟨hbodies, hfaults⟩ := fold_says (s := s) (e := made) ⟨rfl, rfl⟩
  rw [hlate] at hbodies hfaults
  rw [hheld] at hbodies hfaults
  rw [htouched, List.flatMap_singleton] at hq hl
  rw [hbodies, hsup] at hq
  rw [hfaults] at hl
  refine ⟨t, ?_, hbook, ?_, ?_, hl⟩
  · rw [hsup, List.filter_cons_of_pos hopen, List.filter_cons_of_neg (by simp [hbusy])] at hcloses
    cases superseded <;> exact hcloses
  · rw [hd, List.filter_cons_of_pos (by simp [hbusy]), List.filter_nil]
  · rw [List.append_assoc]
    cases superseded <;> exact hq

/-! ### A busy or closing entry -/

/-- A record that a busy or closing entry takes for its successor part (R37, R42). -/
theorem closeGroup_succeeds (hs : s.opState ≠ .starting) (hn : NothingHalts s [.delivery, .book])
    (hb : BookIsKeyed s) (hg : s.group = some g) (hr : g.gathered = [r]) (he : s.entryOf r.label = some e)
    (ho : e.isOpen = false) {p : Successor}
    (htake : LabelView.take g r (.later e) = .ok (.later { e with successor := some p })) :
    ∃ t, ClosesGroup g s t (.foldCounts 0 0 1 0) ∧ t.book = putEntry { e with successor := some p } s.book ∧
      t.dialogue = s.dialogue ∧ SameReports s t ∧ SameFaults s t := by
  have hopen : hasOpen s r.label = false := by simp [hasOpen, he, ho]
  have hbusy : hasBusy s r.label = true := by simp [hasBusy, he, ho]
  have hview := viewOf_busy he ho
  have htake' : LabelView.take g r (viewOf s r.label) = .ok (.later { e with successor := some p }) := hview ▸ htake
  have hx : entryAfter g s e.slot r.label = some { e with successor := some p } := by
    unfold entryAfter
    rw [hr, viewAfter_one, htake', he]
    exact congrArg some (if_neg (by simp [ho]))
  have hsup : supersededEntries g s = [] := by rw [supersededEntries_one hr htake']; rfl
  obtain ⟨t, hcloses, hbook, hd, hq, hl, _⟩ := closeGroup_changes hs hn hb hg hr he htake' hx rfl
  have htouched : touchedIn g s (putEntry { e with successor := some p } s.book) = [] := by
    refine List.filter_eq_nil_iff.mpr fun y _ hy => ?_
    obtain ⟨hin, hnot⟩ := Bool.and_eq_true_iff.mp hy
    have hyl : y.label = r.label := by
      have hin := of_decide_eq_true hin
      rw [hr] at hin
      exact List.mem_singleton.mp hin
    rw [hyl, hbusy] at hnot
    cases hnot
  rw [htouched, hsup] at hq
  rw [htouched] at hl
  refine ⟨t, ?_, hbook, ?_, ?_, hl⟩
  · rw [hsup, List.filter_cons_of_neg (by simp [hopen]), List.filter_cons_of_pos hbusy] at hcloses
    exact hcloses
  · rw [hd, List.filter_cons_of_neg (by simp [hbusy]), List.filter_nil]
    unfold markTouched
    cases s.dialogue <;> simp
  · obtain ⟨h1, h2⟩ := hq
    exact ⟨by simpa [numbered] using h1, by simpa using h2⟩

end

end Sys2Proof.Machine
end


section
/-! What one record does to an entry (O20). -/

namespace Sys2Proof.Machine

/-- No version is newer than itself. -/
theorem newer_irrefl (v : Version) : newer v v = false := by simp [newer]

theorem overtakes_iff {base : Base} {target : Version} :
    overtakes base target = true ↔ base = .any ∨ ∃ b, base = .version b ∧ newer b target = true := by
  cases base <;> simp [overtakes]

section
variable {g : OpenGroup} {r : GatheredRecord} {e : Entry}

/-! ### An open entry takes a record -/

theorem take_merges (h : r.base = e.base ∧ r.target = e.target) (masked : Bool) :
    LabelView.take g r (.change e.base e.target e.items masked false) =
      .ok (.change e.base e.target (overlaid e.items r.items) (masked || r.masked) false) := by
  rw [take_change_eq, if_pos h]

/-- A record based on the entry's target does not merge with it. -/
theorem not_merges_of_chains (h : r.base = .version e.target ∧ VersionLaw e.base r.target) :
    ¬ (r.base = e.base ∧ r.target = e.target) := by
  rintro ⟨hbase, htarget⟩
  obtain ⟨hon, hlaw⟩ := h
  rw [← hbase, hon, htarget] at hlaw
  have hnewer : newer e.target e.target = true := hlaw
  simp [newer_irrefl] at hnewer

/-- A record that replaces the entry's change is not based on its target. -/
theorem not_chains_of_overtakes (h : overtakes r.base e.target = true) : r.base ≠ .version e.target := by
  intro hbase
  rw [hbase] at h
  have hnewer : newer e.target e.target = true := h
  simp [newer_irrefl] at hnewer

theorem take_chains (h : r.base = .version e.target ∧ VersionLaw e.base r.target) (masked : Bool) :
    LabelView.take g r (.change e.base e.target e.items masked false) =
      .ok (.change e.base r.target (overlaid e.items r.items) (masked || r.masked) false) := by
  rw [take_change_eq, if_neg (not_merges_of_chains h), if_pos h]

theorem take_replaces (hm : ¬ (r.base = e.base ∧ r.target = e.target))
    (h : overtakes r.base e.target = true ∧ atLeast r.target e.target = true) (masked : Bool) :
    LabelView.take g r (.change e.base e.target e.items masked false) =
      .ok (.change r.base r.target r.items r.masked true) := by
  rw [take_change_eq, if_neg hm, if_neg fun hc => not_chains_of_overtakes h.1 hc.1, if_pos h]

theorem take_stops (hm : ¬ (r.base = e.base ∧ r.target = e.target))
    (hc : ¬ (r.base = .version e.target ∧ VersionLaw e.base r.target))
    (ho : ¬ (overtakes r.base e.target = true ∧ atLeast r.target e.target = true)) (masked : Bool) :
    LabelView.take g r (.change e.base e.target e.items masked false) =
      .error (some (if newer e.target r.target then .d132 else .d133)) := by
  rw [take_change_eq, if_neg hm, if_neg hc, if_neg ho]

/-! ### A busy or closing entry takes a record -/

theorem take_later_none (h : e.successor = none) : LabelView.take g r (.later e) =
    if r.base = .version e.target then
      .ok (.later { e with
        successor := some ⟨e.target, r.target, r.items, g.effective, g.cls, g.number, r.masked⟩ })
    else .error (if e.isClosing then some .d132 else none) := by
  unfold LabelView.take
  dsimp only
  rw [h]

theorem take_later_some {p : Successor} (h : e.successor = some p) : LabelView.take g r (.later e) =
    if r.base = .version p.base ∧ r.target = p.target ∨
        r.base = .version p.target ∧ newer r.target e.target = true then
      .ok (.later { e with
        successor := some ⟨p.base, r.target, overlaid p.items r.items, g.effective, g.cls, g.number,
          p.masked || r.masked⟩ })
    else .error (some .d133) := by
  unfold LabelView.take
  dsimp only
  rw [h]

end

/-- A fold of one record that its label does not take. -/
theorem closeGroup_stops_one {g : OpenGroup} {r : GatheredRecord} {s : State} {stop : Option Detail}
    (hs : s.opState ≠ .starting) (hn : NothingHalts s [.delivery, .book]) (hb : BookIsKeyed s)
    (hg : s.group = some g) (hr : g.gathered = [r])
    (htake : LabelView.take g r (viewOf s r.label) = .error stop) :
    (stop = none → exec (.closeGroup g.number 1) s = .next (answered (.closeGroup g.number 1)
      ⟨.busy, .busyAt 1⟩ { s with group := some { g with idle := 60 } })) ∧
    ∀ d, stop = some d → exec (.closeGroup g.number 1) s = .next (answered (.closeGroup g.number 1)
      ⟨.refused, .refused d⟩ (faulted d r.label (BitVec.ofNat 8 r.source.val) g.number
        { s with group := none, quietWait := quietAfter s })) :=
  closeGroup_stops (before := []) (after := []) hs hn hb hg (by rw [hr]; rfl) hr (fun _ hx => by cases hx)
    ((viewAfter_one g s r).trans htake)

/-- Settles O20: each class of record by what its label takes, and the fold of one record. -/
theorem foldChangesEntry : Obligations.FoldChangesEntry := by
  unfold Obligations.FoldChangesEntry
  intro g r e s hs hn hb hlaw hg hr he i closed
  obtain ⟨_, hel⟩ := entryOf_some he
  have hclosed : ∀ {t counts}, ClosesGroup g s t counts → closed t counts := fun h =>
    ⟨h.exec, h.response, h.group, h.holding, h.quietWait, h.frame⟩
  refine ⟨fun ho => ?_, fun ho => ?_⟩
  · intro folds merges chains replaces stops
    have hview := viewOf_open he ho
    have hfolds : ∀ {base target items masked superseded},
        LabelView.take g r (.change e.base e.target e.items e.notes.masked false) =
          .ok (.change base target items masked superseded) → folds base target items masked superseded := by
      intro base target items masked superseded htake
      obtain ⟨t, hcloses, hbook, hd, hq, hl⟩ := closeGroup_folds hs hn hb hg hr he ho htake
      rw [refittedEntry_made (made := madeEntry g s e base target items masked) hel he] at hbook hq hl
      exact ⟨t, hclosed hcloses, hbook, hd, hq, hl⟩
    have hreplaces : replaces ↔ overtakes r.base e.target = true ∧ atLeast r.target e.target = true := by
      rw [overtakes_iff]
    have hstops : ¬ merges → ¬ chains → ¬ replaces →
        stops (if newer e.target r.target then .d132 else .d133) := fun hm hc ho' =>
      (closeGroup_stops_one hs hn hb hg hr (by rw [hview, take_stops hm hc (mt hreplaces.mpr ho')])).2 _ rfl
    refine ⟨fun hm => hfolds (take_merges hm _), fun hc => hfolds (take_chains hc _),
      fun hm hre => hfolds (take_replaces hm (hreplaces.mp hre) _), fun hm hc hre hnew => ?_,
      fun hm hc hre hnew => ?_⟩
    · have := hstops hm hc hre
      rwa [if_pos hnew] at this
    · have := hstops hm hc hre
      rwa [if_neg (by simp [hnew])] at this
  · intro succeeds
    have hview := viewOf_busy he ho
    have hsucceeds : ∀ {p}, LabelView.take g r (.later e) = .ok (.later { e with successor := some p }) →
        succeeds p := by
      intro p htake
      obtain ⟨t, hcloses, hrest⟩ := closeGroup_succeeds hs hn hb hg hr he ho htake
      exact ⟨t, hclosed hcloses, hrest⟩
    refine ⟨fun hp => ⟨fun hbase => ?_, fun hbase hin => ?_, fun hbase hcl => ?_⟩, fun p hp =>
      ⟨fun hbase htarget => ?_, fun hbase hnew => ?_, fun hm hc => ?_⟩⟩
    · exact hsucceeds ((take_later_none hp).trans (if_pos hbase))
    · refine (closeGroup_stops_one hs hn hb hg hr (stop := none) ?_).1 rfl
      rw [hview, take_later_none hp, if_neg hbase, if_neg (by simp [Entry.isClosing, hin])]
    · refine (closeGroup_stops_one hs hn hb hg hr (stop := some .d132) ?_).2 _ rfl
      rw [hview, take_later_none hp, if_neg hbase, if_pos hcl]
    · have htake := (take_later_some (g := g) (r := r) hp).trans (if_pos (.inl ⟨hbase, htarget⟩))
      rw [htarget] at htake
      exact hsucceeds htake
    · exact hsucceeds ((take_later_some hp).trans (if_pos (.inr ⟨hbase, hnew⟩)))
    · refine (closeGroup_stops_one hs hn hb hg hr (stop := some .d133) ?_).2 _ rfl
      rw [hview, take_later_some hp, if_neg (fun h => h.elim (fun h => hm h) fun h => hc h)]

end Sys2Proof.Machine
end
